-- ==== Sys2Proof/Word.lean ====
section
/-! DEFINITION. The word types of the MPL-960: registers and command words are 32 bits wide (R313, R600), memory is
counted in bytes (R9), doorbell words are 64 bits wide (R373). -/

namespace Sys2Proof

/-- A 32-bit register or command word. -/
abbrev Word := BitVec 32

/-- A byte of memory. -/
abbrev Byte := BitVec 8

/-- A 64-bit doorbell word (R373). -/
abbrev DWord := BitVec 64

end Sys2Proof
end

