-- ==== Sys2Proof/Syntax.lean ====
section
/-! DEFINITION. The commands of the block: one constructor for each row of spec/opcode_table.json, in the table's order.
The table gives its rows no operands; those here name the unit concerned and carry what another agent or time
decides (log 5): host memory's contents, link traffic, sensor readings, pin levels, the time a piece of work takes. -/

namespace Sys2Proof

/-- The circumstances of a piece of work: what time and the hardware's surroundings decide (log 5). -/
structure Circ where
  /-- time from the command's start to the end of its work, in cycles of the 6.4 GHz PLL (R331, R332) -/
  took : Nat := 0
  /-- local HBM addresses of blocks found with an uncorrectable error by the reads of this step (R406) -/
  hard : List Nat := []
  /-- local HBM addresses of blocks in which a single-bit error is corrected in this step (R405) -/
  soft : List Nat := []
  /-- scratch-aperture addresses of units that fail their parity check from this step on (R253) -/
  flips : List Nat := []
  /-- domain slots that cannot be reached (R49) -/
  unreach : List Nat := []
  /-- domain slots whose partition of the command's number holds another DOMAIN_MEMBERS, or not all its arrays and band stores
  (R46, R47) -/
  unlike : List Nat := []
  /-- waits for a bank in this step, in cycles: (array, ROW_RETRY), (array, WORD_RETRY), (band, BAND_RETRY), and reads that met a
  write to their row (array, ROW_COLLISION) (R256, R257, R259, R261, R262; log 77) -/
  rowWaits : List (Nat × Nat) := []
  wordWaits : List (Nat × Nat) := []
  bandWaits : List (Nat × Nat) := []
  collisions : List (Nat × Nat) := []
  /-- further stall cycles of drains that found a bank's queue full (band, SCATTER_STALL) (R223; log 77) -/
  stalls : List (Nat × Nat) := []
  /-- the rate in GB/s of the root's source side of a BROADCAST, as a fraction (R447) -/
  rootRate : Option (Nat × Nat) := none
  /-- stage stamps of the tagged tiles, in the order in which they end: TIME of FETCH, then the offsets (R530) -/
  stamps : List (List Nat) := []
  deriving DecidableEq, Repr

/-- A request through BAR4 (R370). -/
inductive Bar4Req where
  | read (off len : Nat)
  | write (off : Nat) (data : List Byte)
  deriving DecidableEq, Repr

/-- A PCI Express configuration request (R367, R372, R570): VF Enable, the size of BAR4 as 2^k GiB, or any other. -/
inductive CfgReq where
  | other
  | vfEnable (on : Bool)
  | bar4Size (k : Nat)
  deriving DecidableEq, Repr

/-- A counter of a motif's counter face (R20): the cycle counter, a programmable counter, COMPLETED_TILES. -/
inductive FaceCtr where
  | cycle
  | prog (n : Nat)
  | tiles
  deriving DecidableEq, Repr

/-- A read: of up to 8 bytes of a function's BAR0 (R599, R600), of a wake page (R371), or of a counter of a motif's counter
face, `domain` for the domain motif, whose other devices' counters are `others` (R21). -/
inductive ReadReq where
  | reg (fn off len : Nat)
  | wake (fn off len : Nat)
  | face (motif : Nat) (domain : Bool) (k : FaceCtr) (others : List Nat)
  deriving DecidableEq, Repr

/-- A collective descriptor (R444). -/
structure Desc where
  opcode : Nat
  collId : Nat
  bytes : Nat
  fmt : Nat
  root : Nat
  all : Nat
  members : Nat
  cancel : Bool
  deriving DecidableEq, Repr

/-- What the first packet of a remote transfer says: source, partition, transfer as its source numbers it, lowest and highest local
address that it touches at the target (R429). -/
structure RemReq where
  src : Nat
  part : Nat
  id : Nat
  lo : Nat
  hi : Nat
  deriving DecidableEq, Repr

/-- What a packet carries (R48, R428 to R431, R444, R447, R448). `id` numbers the transfer at its issuer, `run` the run; `last` ends
the run, `fin` the transfer on that device; `tally` is the tally to increment for the array written, once this packet is visible. -/
inductive Payload where
  | request (r : RemReq)
  | write (id addr : Nat) (data : List Byte) (run : Nat) (last fin : Bool) (tally : Option Nat)
  /-- NARROW blocks: element format, bits of each value, LEGACY7 rounding, and the packed blocks (R439, R440) -/
  | narrow (id addr fmt pb : Nat) (ev : Bool) (data : List Byte) (run : Nat) (last fin : Bool) (tally : Option Nat)
  /-- a read of `len` bytes for device address `back`; for a NARROW COPY its format, bits, M and rounding -/
  | read (id addr len back run : Nat) (nar : Option (Nat × Nat × Nat × Bool)) (fin : Bool)
  /-- the answer to a read (class RESP), with the status of a read that failed after these bytes, 0 for none -/
  | data (id back : Nat) (data : List Byte) (run status : Nat)
  /-- the answer to a NARROW read: the packed blocks, the largest fp16(a_b), and the clipped elements (R441) -/
  | narrowData (id back fmt pb : Nat) (ev : Bool) (data : List Byte) (run amax clipped status : Nat)
  | visible (id run : Nat)
  | refused (id : Nat)
  /-- bytes that a member hands to another: chunks of collective `id` (`seq` 0), or running sums and lists of the domain command
  that device `seq` - 1 numbers `id` -/
  | bytes (seq id : Nat) (data : List Byte)
  /-- a member's part of a domain command, LEGACY7 or not, with its words and its pricking; its stop; and how the part ended: status,
  flags and DETAIL, and the tile that it names -/
  | share (id : Nat) (legacy : Bool) (words table : List Word)
  | shareStop (id : Nat)
  | shareDone (id status flags detail tilePos tileCh : Nat)
  | desc (x : Desc)
  deriving DecidableEq, Repr

/-- A packet between devices (R417, R430). -/
structure Packet where
  src : Nat
  dst : Nat
  part : Nat
  resp : Bool
  pseq : Word
  hop : Nat
  load : Payload
  deriving DecidableEq, Repr

/-- A flit as a receiver finds it (R416 to R419): its header, 240 bytes of payload, its CRC, what the FEC did; what the packet that
ends with it carries, and for an IDLE flit the classes 2 × HOP + RESP that have no buffer credit left: the manual gives
the payload's bytes no layout (log 13). -/
structure Flit where
  header : BitVec 96
  payload : List Byte
  crc : Word
  fecOk : Bool := true
  corrected : Nat := 0
  load : Option Payload := none
  noCredit : List Nat := []
  deriving DecidableEq, Repr

/-- The sources of an array fault (R451). -/
inductive FaultKind where
  | weightLatch | accumulator | columnTree | idleTest
  deriving DecidableEq, Repr

/-- What the board and the die present at a power-on reset (R50, R565, R569, R571, R572): straps, interlock pins, which flash image
slots hold an acceptable image, whether the first PLL locks; the fuse maps, as (logical array, spare of its die) and as (die,
processor that its spare replaces); and the arrays and the spares (spare n of die k as 4 × k + n) that the self-test finds
failing. -/
structure PowerOn where
  compat7 : Bool := false
  boot : Nat := 0
  slot : Nat := 0
  role : Bool := false
  ilkA : Bool := false
  ilkB : Bool := true
  slotA : Bool := true
  slotB : Bool := true
  version : Word := 0
  pllSpare : Bool := false
  fuseArrays : List (Nat × Nat) := []
  fuseProcs : List (Nat × Nat) := []
  failedArrays : List Nat := []
  failedSpares : List Nat := []
  deriving DecidableEq, Repr

/-- One step of the block. -/
inductive Instr where
  -- the work of commands
  | nop (id : Nat) (c : Circ)
  | waitTally (id : Nat) (c : Circ)
  | matmul (id : Nat) (c : Circ)
  | accSave (id : Nat) (c : Circ)
  | accLoad (id : Nat) (c : Circ)
  | ew2 (id : Nat) (c : Circ)
  | axpb (id : Nat) (c : Circ)
  | func (id : Nat) (c : Circ)
  | reduce (id : Nat) (c : Circ)
  | softmax (id : Nat) (c : Circ)
  | norm (id : Nat) (c : Circ)
  | pixnorm (id : Nat) (c : Circ)
  | pool (id : Nat) (c : Circ)
  | resize (id : Nat) (c : Circ)
  | requant (id : Nat) (c : Circ)
  | fill (id : Nat) (c : Circ)
  | topk (id : Nat) (c : Circ)
  | nms (id : Nat) (c : Circ)
  | copy (id : Nat) (c : Circ)
  | chainReduce (id : Nat) (c : Circ)
  | broadcast (id : Nat) (c : Circ)
  | barrier (id : Nat) (c : Circ)
  -- fetching, starting, completing
  | dispatch (part sq : Nat)
  | commandStart (id : Nat) (c : Circ := {})
  | completionWrite (id : Nat)
  | interruptCoalTimeout (part cq : Nat)
  | doorbellPoll (part block : Nat) (words : List DWord)
  | wakeWrite (fn off : Nat)
  | entryConsume (part sq : Nat) (entry : List Word) (list : List Word) (good : Nat) (c : Circ)
  | abortEntry (part sq : Nat) (entry : List Word)
  | abortTakesEffect (part : Nat) (progress : List (Nat × Nat)) (lists : List (Nat × List Word × List Word)) (c : Circ := {})
  | abortAck (part : Nat)
  | eventMergeTimeout (part code source : Nat)
  -- host requests and set-up
  | functionLevelReset (fn : Nat)
  | partReset (part : Nat)
  | bar4Access (req : Bar4Req) (c : Circ)
  | configRequest (req : CfgReq)
  | partitionEnable (part : Nat)
  | partitionDisable (part : Nat)
  | partitionDisableEffect (part : Nat)
  | storeClearDone (part : Nat)
  | domainWrite (v : Word)
  | registerWrite (fn off : Nat) (bytes : List (Option Byte))
  | scEnable (ch : Nat) (v : Word)
  -- arrays
  | arrayFault (a : Nat) (kind : FaultKind) (progress : Nat)
  | spareMapped (a : Nat)
  | idleTest (a : Nat) (pass : Bool)
  | tileStart (a : Nat)
  | weightSwap (a : Nat)
  | segmentSwap (a : Nat)
  | drainEnd (a : Nat) (stamps : List Nat)
  | chainHop (id m : Nat)
  | scatterRetire (band bank : Nat)
  | tallyIncrement (a t : Nat)
  | waitTallyTimeout (id : Nat)
  -- remote access and links
  | remoteRequest (r : RemReq)
  | remotePacket (p : Packet) (c : Circ := {})
  | visible (id run : Nat)
  | remoteTimeout (id run : Nat)
  | linkEnable (l : Nat)
  | linkTrained (l : Nat)
  | ident (l dev link : Nat)
  -- t1 to t4 of each exchange in quarters of a ns; `beyond`: the far device's offset to the master when it is a relay to it
  | timeExchange (l : Nat) (stamps : List (Int × Int × Int × Int)) (beyond : Option Int)
  | linkReset (l : Nat)
  | flitReceive (l : Nat) (f : Flit) (c : Circ := {})
  | nak (l ack : Nat)
  | replayTimeout (l : Nat)
  | laneSpared (l lane : Nat)
  | linkFail (l : Nat)
  | linkRestored (l : Nat)
  | descReceive (peer : Nat) (desc : Desc)
  -- active/standby pairs and processors
  | pairEnable (v : Word) (claimed : Bool)
  | pairHoldoffExpiry (claimed : Bool)
  | claim (slot : Nat)
  | heartbeatToggle
  | alive
  | checkpointCapture
  | checkpointApply (slot : Nat) (ownAt : Int) (c : Circ := {})
  | heartbeatMissing
  | pairLinksSilent
  | query
  | queryTimeout
  | takeover
  | takeoverClaim (claimed : Bool)
  -- for each named partition's completion rings: records found beyond the recorded count (R469)
  | takeoverDone (found : List (Nat × Nat × Nat))
  | actClaimResample (claimed : Bool)
  | fenceIn (level : Bool)
  | rejoin
  | switchover
  | release
  | standbyReady
  | processorFault (die proc : Nat)
  | hubWatchdogLoss
  -- position, triggers, interlock
  -- `samples`: consecutive samples, one a tick, that show the pins at these levels (R475, R488; log 88)
  | encoderEdge (enc : Nat) (a b : Bool) (samples : Nat := 1)
  | encoderIndex (enc : Nat) (z : Bool := true) (samples : Nat := 1)
  | positionLoad
  | speedUpdate
  | slipWindow
  | triggerPulse (n : Nat)
  | triggerPulseEnd (n : Nat)
  | triggerRecord
  | interlockChange (a b : Bool) (samples : Nat := 1)
  | interlockDiscrepancy
  | latchClear
  | motionWake (a b : Bool) (samples : Nat := 1)
  | positionHandover
  -- the journal
  | journalPost (v : Word)
  | journalIntake (type source : Nat) (payload : List Byte)
  | journalRecordWrite (okA okB : List Bool)
  | sectorErase
  | powerFail
  | journalRescan
  | journalMediaFault (flash op off : Nat)
  -- observability
  | freeze (pin : Bool)
  | freezeFlit (f : Nat)
  | freezeCapture
  | releaseFreeze
  | smpSeedWrite (v : Word)
  | marker (v : Word)
  | tracePacketSend
  | tracePacketExpire (source : Nat)
  | syncTimer
  | alarmMergeTimeout (code source : Nat)
  | dump (id watch : Nat)
  | dumpRdWrite (v : Word)
  -- clocks, power, reset
  | powerWindow (dies : List Nat) (pkg delayed waited : Nat)
  | aclkDivChange (div : Nat)
  | tempUpdate (temps : List (List Int)) (taken : Nat)
  | idleEntry
  | reqRun
  | reqStandby
  | standbyEntry
  | reqSleep
  | sleepTimerWake
  | perstRise
  | warmReset (pin : Bool)
  | powerOnReset (p : PowerOn)
  | mainPowerLoss
  | mainRailsGood (p : PowerOn)
  | bootGo (v : Word) (c : Circ := {})
  -- HBM
  | scrubRead (stack : Nat) (c : Circ)
  | pageRetire (stack page taken : Nat)
  | hbmClassWrite (k : Nat) (v : Word)
  | hbmRegionWrite (n : Nat) (v : Word)
  -- the table's last rows
  | vccAuxLoss
  | pairHbInEdge (level : Bool)
  | collectiveTimeout (id : Nat)
  | refused (id : Nat)
  | pcieLinkTraining (rate width : Nat)
  | lowWordRead (r : ReadReq)
  deriving DecidableEq, Repr

end Sys2Proof
end

