-- ==== Sys2Proof/Decode.lean ====
section
/-! DEFINITION. The table's words. Every row of spec/opcode_table.json has an empty "fields" list and no bits, so no word
spells a command: the commands of this block come from registers, rings, pins and links, not from an instruction word. -/

namespace Sys2Proof

/-- The command that a word spells by the table's bits: no row gives bits, so none. -/
def decodeTableWord (_nbits _w : Nat) : Option Instr := none

end Sys2Proof
end

