-- ==== Sys2Proof/Config.lean ====
section
/-! DEFINITION. What one device has fixed for good (its fuses, its function tables) and the free values the manual leaves
open. Every opaque constant here has no body: nothing proved of the model can rest on a value of it. -/

namespace Sys2Proof.Config

/-- STEPPING of the identity block: fused, no value given (log 4). -/
opaque stepping : BitVec 4

/-- SERIAL of the identity block: fused, no value given (log 4). -/
opaque serial : BitVec 64

/-- The special functions of the vector engine (R360): "computed from a fixed table and a polynomial", the result
"depends on its input alone". The argument is the function's SUBOP and the FP32 bits of the input; the
edge values of R360 are applied around it (log 10). -/
opaque vecFunc : Nat → BitVec 32 → BitVec 32

/-- Whether the link between two other slots of the domain is UP, as the reroute of R435 finds it: it lies on other devices
(log 38). -/
opaque peerLinkUp : Nat → Nat → Nat → Bool

/-- Whether, of two zeros of unlike sign, the first one is taken as the larger (argument true) or the smaller: the manual gives
no order (R354, R355; log 34). -/
opaque firstZero : Bool → Bool

/-- An element of a MATRIX3 row whose last pixel has fewer than three elements: the manual gives no value (R359; log 35). -/
opaque partPixel : Nat → Nat → Nat

/-- Whether the ECDSA P-384 signature of a firmware image verifies against the fused key digest (R571; log 11). -/
opaque imageVerifies : List (BitVec 8) → Bool

/-- UNCORR of a retirement entry that start-up reapplies: the journal's record does not hold it (R409, R411; log 25). -/
opaque retireUncorr : Nat → Nat → Bool

/-- VERSION of the firmware in an image: the manual gives the image no layout (R597; log 11). -/
opaque imageVersion : List (BitVec 8) → BitVec 32

/-- TRIM while TIME is aligned: the device sets it to the rate of the master's clock, which the manual does not tie to any value
(R426, R553; log 41). The argument is the tick. -/
opaque alignedTrim : Nat → BitVec 32

/-- The level that ACT_CLAIM shows when PAIR_CTRL is written by REGISTER_WRITE, which carries no level: it is the board's (R461;
log 42). True: asserted. -/
opaque claimLine : Nat → Bool

/-- STATUS of the record of an input dump that is made before its command has a completion status: the manual gives none (R544,
R545; log 40). The arguments are TIME at the dump's start, the command's number and the watch. -/
opaque inputStatus : Nat → Nat → Nat → BitVec 8

/-- Which byte a destination of a command holds that a warm reset stops (R566): the free value says
whether the byte is the one the command would have written (log 12). -/
opaque warmKeepsNew : Nat → Bool

/-- What a history entry of a scale channel that is an FP16 infinity or NaN counts as: INIT_MAX may hold one, and the manual
gives no value (R142, R144; log 30). -/
opaque scaleEntry : Nat → BitVec 15

/-- Full-width FP32 addition when a term is an infinity or a NaN, as only a table or a partial written by software can
hold: the manual gives no value (R163, R217; log 31). -/
opaque addNonFinite : BitVec 32 → BitVec 32 → BitVec 32

/-- The exponent of a position's or channel's unit after ACC_LOAD: neither the image nor the record holds it (R187, R189;
log 33). -/
opaque loadedExp : Nat → Nat → Int

/-- Whether an output is important when θ is a NaN: the manual gives no value (R240; log 31). -/
opaque nanTheta : Bool

/-- What a byte of a flash holds after a program operation that did not leave the record there (R505; log 20). -/
opaque flashByte : Nat → BitVec 8

/-- What JNL_RWIN shows past the end of a flash: the manual does not say (log 44). -/
opaque flashEnd : Nat → BitVec 8

end Sys2Proof.Config
end

