-- ==== Sys2Proof/Machine/State.lean ====
section
/-! DEFINITION. The state of the MPL-960: everything the manual gives the device, as plain data, and the queue of commands
that wait. `Device` holds all but the queue. Registers live in `regs` under their BAR0 offsets (R597, R600): an offset that is
not listed holds its reset value. Sparse collections are lists of (key, value) pairs with keys strictly rising and
no value equal to the default of an unlisted key. -/

namespace Sys2Proof.Machine

/-- A sparse table: keys strictly rising, no entry equal to what an unlisted key reads as. -/
abbrev Tab (α : Type) := List (Nat × α)

/-- Why a step stops. -/
inductive Fault where
  /-- raised by every meaning whose command is not well formed: it names a unit the device does not have. Safe: no such event
  can happen, so nothing is claimed of it. -/
  | noSuchUnit
  deriving DecidableEq, Repr

/-- Why a command has no meaning here. -/
inductive Refusal where
  /-- raised by an arm of exec whose command has no meaning yet. Safe: nothing is claimed of it. -/
  | notModelled (mnemonic : String)
  deriving DecidableEq, Repr

/-- The ordering variants (R1). -/
inductive Variant where
  | c | t
  deriving DecidableEq, Repr

/-- The straps as sampled at step 2 of the last power-on reset (R572). -/
structure Straps where
  compat7 : Bool := false
  boot : Nat := 0
  slot : Nat := 0
  role : Bool := false
  deriving DecidableEq, Repr

/-- What the last start-up found of the firmware images: which boot slots hold an image that is accepted, and its version
(R571; log 11). -/
structure Images where
  slotA : Bool := true
  slotB : Bool := true
  version : Word := 0
  deriving DecidableEq, Repr

/-- Signal pins (R582). Inputs hold the level at the pin; outputs the level driven. -/
structure Pins where
  perstN : Bool := true
  pfailN : Bool := true
  fenceIn : Bool := false
  hbIn : Bool := false
  trig : BitVec 16 := 0
  illum : BitVec 4 := 0
  hbOut : Bool := false
  fenceOut : Bool := false
  /-- the device pulls the open-drain ACT_CLAIM line low -/
  claim : Bool := false
  mainEn : Bool := true
  coreVid : BitVec 2 := 0
  /-- the device pulls FAULT_N low (R514) -/
  fault : Bool := false
  deriving DecidableEq, Repr

/-- Power states (R561 to R563, R567) and the places where start-up waits (R569, R571). -/
inductive Power where
  | run | idle | standby | sleep | off
  /-- main rails lost, MAIN_EN kept (R567) -/
  | mainLost
  /-- after a thermal trip: as mainLost, MAIN_EN low (R560) -/
  | tripped
  /-- woken from SLEEP, MAIN_EN high, main rails not yet good (R564) -/
  | waking
  /-- step 8 waits for a pushed image (R571) -/
  | awaitImage
  /-- step 8 found no image and BOOT forbids a host push (R571) -/
  | noImage
  deriving DecidableEq, Repr

/-- Clocks, power and reset state beside the registers (chapter 19). -/
structure Clk where
  /-- TIME in ns (R552) -/
  time : Nat := 0
  /-- fraction of TIME in 2^-32 ns (R552) -/
  frac : Nat := 0
  /-- 40 ns ticks since power-on -/
  tick : Nat := 0
  /-- ACLK cycles, FCLK cycles of the compute dies and of the hub die since the counters' reset (R520) -/
  aclk : Nat := 0
  fclk : Nat := 0
  hclk : Nat := 0
  power : Power := .run
  /-- consecutive windows over the cap, and below 0.95 of it (R558) -/
  capOver : Nat := 0
  capUnder : Nat := 0
  /-- tile starts of THROUGHPUT work are delayed in this window (R558) -/
  delayTiles : Bool := false
  /-- dies that throttle, with their updates below THROTTLE_C - 3 in a row plus one (R559) -/
  hot : Tab Nat := []
  /-- a division that R558 has decided and that has not taken effect (R555) -/
  divWanted : Option Nat := none
  /-- TIME at which SLEEP was entered (R564) -/
  sleepAt : Nat := 0
  /-- TIME at which the last command, remote access or BAR4 access was seen (R561) -/
  busyAt : Nat := 0
  /-- a warm reset asked for before step 8 ended (R568) -/
  warmWanted : Bool := false
  /-- STANDBY asked for and not yet entered (R562) -/
  standbyWanted : Bool := false
  /-- the hub die has stopped and the step accumulator counts (R479, R495) -/
  accumulating : Bool := false
  deriving DecidableEq, Repr

/-- PCI Express state (R367, R372, R570). -/
structure Pcie where
  vfEnable : Bool := false
  rate : Nat := 64
  width : Nat := 16
  /-- the controller is held in reset (R570) -/
  held : Bool := false
  /-- BAR4 is 2^k GiB large (R367, R369; log 80) -/
  bar4 : Nat := 6
  deriving DecidableEq, Repr

/-- Captured counters (R523, R525, R526). -/
structure Freeze where
  /-- high words captured by reads of low words and not yet read, by the high word's offset, plus 1 (R523) -/
  high : Tab Nat := []
  /-- the picture of a freeze: captured words by offset, and the cycle counters -/
  picture : Tab Word := []
  aclk : Nat := 0
  fclk : Nat := 0
  hclk : Nat := 0
  /-- COMPLETED_TILES captured (R525) -/
  tiles : Tab Nat := []
  /-- a domain freeze due at this TIME (R526) -/
  due : Option Nat := none
  deriving DecidableEq, Repr

/-- Errors of memory (R253, R406). -/
structure MemErr where
  /-- keys of poisoned 32-byte HBM blocks, rising -/
  poison : List Nat := []
  /-- keys of scratch parity groups that fail their check, rising -/
  parity : List Nat := []
  deriving DecidableEq, Repr

/-- HBM controllers (R407, R408). -/
structure Hbm where
  /-- (stack, page, TIME) of corrected errors of the last 24 hours -/
  corrected : List (Nat × Nat × Nat) := []
  /-- next block of each stack's scrub, by stack -/
  scrub : Tab Nat := []
  /-- (stack, page, for a poisoned block) that R408 retires and R409 has not yet moved -/
  retiring : List (Nat × Nat × Bool) := []
  deriving DecidableEq, Repr

/-- A command list being read (R308, R380). -/
structure ListRead where
  slot : Nat
  words : List Word
  /-- the rest of the list cannot be read (R380) -/
  broken : Bool
  /-- SEQ of the last command read, or 0 (R380) -/
  seq : Nat
  deriving DecidableEq, Repr

/-- A submission ring's fetcher state beside SQ_STATE (R378, R380, R386). -/
structure Ring where
  announced : Nat := 0
  abortBit : Bool := false
  reading : Option ListRead := none
  /-- the fetcher has stopped at an entry that is not valid, until the next poll (R379) -/
  stopped : Bool := false
  /-- ENABLE written 0 and not yet in effect (SQ_CTRL) -/
  disabling : Bool := false
  deriving DecidableEq, Repr

/-- A completion record of 16 bytes before its PHASE is known (R382). -/
structure Rec where
  status : Nat := 0
  flags : Nat := 0
  rtype : Nat := 0
  seq : Nat := 0
  tilePos : Nat := 0
  tileCh : Nat := 0
  sq : Nat := 0
  detail : Nat := 0
  slot : Nat := 0
  irq : Bool := false
  deriving DecidableEq, Repr

/-- A completion ring (R382 to R385). -/
structure CqRt where
  written : Nat := 0
  consumed : Nat := 0
  /-- a full episode has been reported (R384) -/
  full : Bool := false
  /-- records written since the last message, and whether one of them made the interrupt pending (R385) -/
  since : Nat := 0
  irqPending : Bool := false
  deriving DecidableEq, Repr

/-- An event record before its PHASE is known (R389). -/
structure EvRec where
  code : Nat
  count : Nat
  source : Nat
  arg0 : Nat := 0
  arg1 : Nat := 0
  time : Nat := 0
  step : Nat := 0
  deriving DecidableEq, Repr

/-- Abort of a partition (R337 to R339, R386): the ring that carried the request, and the slot of its control entry. -/
inductive AbortSt where
  | none
  | requested (sq slot : Nat)
  | effective (sq slot : Nat)
  deriving DecidableEq, Repr

/-- A partition beside its registers. -/
structure Part where
  /-- doorbell blocks that a wake write has made due (R371) -/
  pollDue : List Nat := []
  /-- the ring whose entry was consumed last (R381) -/
  ringLast : Nat := 15
  /-- a write of 1 waits for clearing; a write of 0 waits for BUSY (R45, R254) -/
  enabling : Bool := false
  disabling : Bool := false
  /-- arrays and bands whose stores are being cleared for this partition (R254) -/
  clrArrays : List Nat := []
  clrBands : List Nat := []
  rings : Tab Ring := []
  cqs : Tab CqRt := []
  /-- records held, with their completion ring, oldest first (R384) -/
  held : List (Nat × Rec) := []
  evWritten : Nat := 0
  evConsumed : Nat := 0
  /-- open merge milliseconds: occurrences merged since the record (count 0 when none) (R390) -/
  evOpen : List EvRec := []
  /-- events held while the ring is full or off (R391) -/
  evHeld : List EvRec := []
  abort : AbortSt := .none
  aborted : Nat := 0
  abortLate : Bool := false
  /-- the latest step that a completed command of the partition carried (R463) -/
  lastStep : Nat := 0
  deriving DecidableEq, Repr

/-- Phases of a dispatched command. -/
inductive Phase where
  | queued | running | ended
  deriving DecidableEq, Repr

/-- How a command ended: what its completion reports (R340). -/
structure Done where
  status : Nat := 0
  flags : Nat := 0
  tilePos : Nat := 0
  tileCh : Nat := 0
  detail : Nat := 0
  deriving DecidableEq, Repr

/-- A dispatched command. -/
structure Cmd where
  id : Nat
  part : Nat
  sq : Nat
  slot : Nat
  legacy : Bool := false
  /-- its encoding breaks R315 or R394 -/
  bad : Bool := false
  /-- the command's 16 or 32 words in the 64-byte form (R313, R394) -/
  words : List Word
  phase : Phase := .queued
  /-- TIME of the start, and the ACLK division then in effect (R331, R556) -/
  startAt : Nat := 0
  div : Nat := 4
  /-- fixed at the start (R574): AUTO threshold (for a NARROW COPY its scale channel, R438), scale channel policy -/
  thresh : Nat := 0
  policy : Nat := 0
  /-- fixed at the start: the scale channel that it names may not be used (R141, R438); element format of NARROW_CFG (R438) -/
  scNo : Bool := false
  fmt : Nat := 0
  done : Done := {}
  /-- runs of a remote transfer not yet VISIBLE (R431); runs or chunks whose data has been passed on to another device, bytes of sums
  taken from another member; the first link that a transfer used (R441) -/
  runs : List Nat := []
  passed : Nat := 0
  link : Nat := 0xFFFFFFFF
  /-- the coordinates of a COPY's list, as read before any byte moved (R325) -/
  list : List Nat := []
  /-- another member's command of which this is the part of this device: that member's device and its number there (R48) -/
  member : Option (Nat × Nat) := none
  /-- slots of the members that do a part of a domain command, and how the parts that have ended did, in the order in which they
  did (R48, R312) -/
  shared : List Nat := []
  ends : List (Nat × Done) := []
  /-- the budget of a domain command whose own part has ended, in ACLK -/
  budget : Nat := 0
  /-- collective: chunks written at this member (R450) -/
  chunks : Nat := 0
  /-- watches whose dump the command waits for (R542, R545), before its work and before its completion -/
  dumpIn : List Nat := []
  dumpOut : List Nat := []
  /-- the dump being made: bytes of its record that have gone out, and TIME at its start (R544) -/
  dumpAt : Nat := 0
  dumpTime : Nat := 0
  /-- collective: members whose DESC has been sent (R444, R445) -/
  descTo : List Nat := []
  /-- EXP_GEN, or HEAD of a LEGACY7 ring, at its entry's dispatch (R463) -/
  gen : Nat := 0
  /-- the pricking as read at the start, and the status of a read that failed (R276) -/
  prick : List Word := []
  prickErr : Nat := 0
  /-- a fault or an abort has taken effect: how the command will end (R37, R87) -/
  stop : Option Done := none
  /-- chain hops of the tile group in progress that are complete (R172) -/
  hops : List Nat := []
  /-- the scale channel's step has been opened or joined for it (R143) -/
  scaled : Bool := false
  /-- s_r of a recomputation under RETRY, FP16 bits (R150) -/
  retry : Option Nat := none
  /-- elements clipped and written in this computation (R147) -/
  clipped : Nat := 0
  written : Nat := 0
  /-- the checks of R301 have passed and the arrays have been prepared (MATMUL) -/
  admitted : Bool := false
  /-- outputs filled or left unchanged (R251) -/
  skips : Nat := 0
  /-- another member's DOMAIN_MEMBERS differs from this device's, as found at the start (R46, R47) -/
  unlike : Bool := false
  /-- a tile group was recomputed densely, or its map was stale and has been reported (R215, R247) -/
  fell : Bool := false
  stale : Bool := false
  deriving DecidableEq, Repr

/-- The latches of an array, active or shadow: for each channel of the tile its rows' weights and indices, none where the
row is gated; the exponents of the channels' units; the image's side list as (row, channel, VALUE). Weight bit q of channel
ch is the cell of column ch × Pw_e + q (R56, R67, R106, R115). -/
structure Latches where
  rows : List (List (Option (Int × Nat))) := []
  exps : List Int := []
  side : List (Nat × Nat × Nat) := []
  deriving DecidableEq, Repr

/-- An accumulator set: entries by 512 × entry + column, the exponents of the positions' and channels' units of its pass, and
the outlier products as (entry, channel, FP32 bits) in list order (R64, R108, R120). -/
structure AccSet where
  ent : Tab Int := []
  xa : List Int := []
  xw : List Int := []
  adds : List (Nat × Nat × Nat) := []
  deriving DecidableEq, Repr

/-- A pass of a tile group: its index among the plan's, or the group's compacted, passes; the storage blocks along K that it
covers; and, in a dense recomputation, which 512 logical rows of the image it takes (R203, R215, R293). -/
structure Pass where
  i : Nat
  blocks : List Nat
  sub : Option Nat := none
  deriving DecidableEq, Repr

/-- What a tile group has read before its first plane: its coordinate list, the pairs of a scatter command by position, and the
(entry, tile-local channel) pairs whose outputs are skipped (R216, R245, R248, R299). -/
structure Snap where
  lst : List Nat := []
  pairs : List (Nat × Nat × Nat) := []
  gate : List (Nat × Nat) := []
  deriving DecidableEq, Repr

/-- A drain in progress: the tile group, whether it is the group's last, the full levels before it, and which tiles of
the group are tagged (R79, R164, R529). -/
structure Drain where
  group : Nat
  fin : Bool
  mask : Nat
  tags : List Bool
  snap : Snap
  fetch : Nat
  div : Nat
  deriving DecidableEq, Repr

/-- A kept accumulation's record (R184, R189). -/
structure Kept where
  tilePos : Nat
  group : Nat
  pa : Nat
  pwe : Nat
  fullWidth : Bool
  cUse : Nat
  segPasses : Nat
  segDone : Nat
  fullMask : Nat
  pbRow : Nat
  pbSize : Nat
  deriving DecidableEq, Repr

/-- A matrix command in progress on an array (R168, R285). -/
structure Prog where
  id : Nat
  group : Nat
  passes : List Pass
  /-- passes driven, passes in the open segment, segments closed, full levels of the promotion buffer -/
  pass : Nat := 0
  seg : Nat := 0
  segs : Nat := 0
  mask : Nat := 0
  /-- the group's last segment has been swapped out -/
  closed : Bool := false
  tags : List Bool := []
  snap : Snap := {}
  /-- the importance map was valid when the command started (R247) -/
  mapOk : Bool := false
  drain : Option Drain := none
  /-- the group whose partial stands in the chain slot (R171), and what its tiles carry to the output stage -/
  slot : Option Drain := none
  /-- the next tile group of the array's share -/
  next : Nat := 0
  /-- the first pass of that group is in the shadow latches, with the faults that its load found (R76, R86) -/
  ahead : Option (List (Nat × Nat)) := none
  /-- the kept accumulation that the command continues, from which a retried tile or computation starts again (R52, R150,
  R185) -/
  base : Option (Kept × AccSet) := none
  /-- tap words (R234), and the word of sa (R132), as read at the start -/
  taps : List Nat := []
  sa : Nat := 0
  /-- TIME at which the group's first weight load began, and the ACLK division then (R530, R531) -/
  fetch : Nat := 0
  div : Nat := 4
  deriving DecidableEq, Repr

/-- A logical array (R55, R64, R76, R80, R184, R452). -/
structure Arr where
  failing : Bool := false
  /-- tally increments due and not yet applied, in order (R268, R453) -/
  held : List Nat := []
  active : AccSet := {}
  shadow : AccSet := {}
  latch : Latches := {}
  latchShadow : Latches := {}
  prog : Option Prog := none
  kept : Option Kept := none
  deriving DecidableEq, Repr

/-- A line in a scatter bank's queue: 64-byte line of the band store, the s32 values to add, by entry, the array that issued it
and the first tile of its group (R222, R223). -/
structure ScatLine where
  line : Nat
  adds : List (Nat × Int)
  array : Nat
  tile : Nat × Nat
  deriving DecidableEq, Repr

/-- A scale channel beside its registers (R142 to R148). -/
structure ScRt where
  isOpen : Bool := false
  /-- M of the open step as FP16 bits (R144) -/
  m : Nat := 0
  window : Nat := 0
  clipT : Nat := 0
  /-- the last command of the step: DYNAMIC or not, its scale as FP16 bits, its Po (R148) -/
  last : Option (Bool × Nat × Nat) := none
  deriving DecidableEq, Repr

/-- A Hyphor link beside its registers (R417 to R419, R422, R425, R434). -/
structure Link where
  /-- LSEQ expected next; later flits are discarded until it arrives -/
  rxNext : Nat := 0
  txNext : Nat := 0
  /-- packets with unacknowledged flits: LSEQ of the first of these flits, their number, and the packet -/
  replay : List (Nat × Nat × Packet) := []
  tries : Nat := 0
  /-- classes 2 × HOP + RESP for which the far end has no buffer credit left (R419; log 13) -/
  noCredit : List Nat := []
  /-- traffic waits for the link (R434) -/
  waiting : List Packet := []
  /-- the far end has been identified and agrees with R421 -/
  identOk : Bool := false
  deriving DecidableEq, Repr

/-- Time alignment (R424 to R426). -/
structure Align where
  /-- TIME has been stepped since power-on -/
  stepped : Bool := false
  /-- offset still to be slewed, in 1/4 ns (R425, R426) -/
  slew : Int := 0
  deriving DecidableEq, Repr

/-- Remote access (R428 to R431). -/
structure Remote where
  /-- next PSEQ sent, by destination, partition and class -/
  txSeq : Tab Nat := []
  /-- PSEQ expected, by source, partition and class -/
  rxSeq : Tab Nat := []
  /-- packets that arrived ahead -/
  ahead : List Packet := []
  /-- transfers accepted (R429) -/
  accepted : List RemReq := []
  /-- routes in force: (failed link, link that carries its traffic) (R435, R437) -/
  routes : Tab Nat := []
  deriving DecidableEq, Repr

/-- Bytes that members have handed over and that no command has used up: source device, partition, and the command or collective
as `Payload.bytes` names it (R48, R172, R447, R448). -/
structure Parcel where
  src : Nat
  part : Nat
  seq : Nat
  id : Nat
  data : List Byte
  deriving DecidableEq, Repr

/-- Collectives and what members hand to one another (R48, R444, R445). -/
structure Coll where
  inbox : List Parcel := []
  /-- DESCs held, with the peer's slot -/
  descs : List (Nat × Desc) := []
  /-- DESCs sent to a peer and, as far as this member knows, not yet consumed -/
  sent : List (Nat × Nat) := []
  deriving DecidableEq, Repr

/-- Stages of a takeover (R468, R470). -/
inductive Stage where
  | none
  /-- FENCE_OUT asserted, ACT_CLAIM not yet sampled -/
  | fencing
  /-- ACT_CLAIM found asserted; sampled every 10 µs -/
  | blocked
  /-- ACT_CLAIM driven, the checkpoint being loaded -/
  | loading
  /-- active, FENCE_OUT kept until STANDBY_READY -/
  | waitReady
  deriving DecidableEq, Repr

/-- Pairing beside its registers (R460 to R471). -/
structure Pair where
  /-- the 200 µs hold-off of R461 runs -/
  holdoff : Bool := false
  stage : Stage := .none
  /-- a QUERY has been sent and neither answered nor given up (R467) -/
  queryOpen : Bool := false
  /-- the applied checkpoint without its commit line (R465) -/
  applied : List Byte := []
  /-- the difference recorded at the applied checkpoint (R466) -/
  diff : Int := 0
  /-- a hub control processor has passed its watchdog within 50 µs (R457, R460) -/
  hubOk : Bool := true
  deriving DecidableEq, Repr

/-- The position unit (R476 to R481, R495). -/
structure Pos where
  /-- the s64 counter: 48-bit position and 16 fractional bits (R477) -/
  ctr : Int := 0
  /-- filtered levels of the encoders' inputs -/
  a0 : Bool := false
  b0 : Bool := false
  a1 : Bool := false
  b1 : Bool := false
  z0 : Bool := false
  z1 : Bool := false
  /-- consecutive samples that have shown another level than the filtered one, by 3 × encoder + 0 for A, 1 for B, 2 for Z (R475) -/
  seen : Tab Nat := []
  /-- positions at the last ten updates of SPEED, newest first (R480) -/
  hist : List Int := []
  /-- scaled increments of the slip window (R481) -/
  d0 : Int := 0
  d1 : Int := 0
  prevLead : Int := 0
  /-- the step accumulator (R495) -/
  acc : Int := 0
  /-- a hand-over is due (R496) -/
  handover : Bool := false
  deriving DecidableEq, Repr

/-- A trigger output's pulse: none, pending until a tick, or high until a tick (R483, R484). The second number is the
position at which the point was reached, and the flag says the pulse was held. -/
inductive Pulse where
  | idle
  | pending (due : Nat) (pos : Int) (held : Bool)
  | high (ends : Nat)
  deriving DecidableEq, Repr

/-- A trigger output beside its registers (R482 to R485). -/
structure Trig where
  pulse : Pulse := .idle
  /-- a held point: due tick and position (R484) -/
  held : Option (Nat × Int) := none
  deriving DecidableEq, Repr

/-- A trigger record not yet written (R486). -/
structure TrigRec where
  line : Nat
  pos : Int
  output : Nat
  held : Bool
  time : Nat
  deriving DecidableEq, Repr

/-- Interlock states (R488). -/
inductive IlkState where
  | safe | active | disagree | hold | latched
  deriving DecidableEq, Repr

/-- The interlock (R488 to R493). -/
structure Ilk where
  st : IlkState := .safe
  /-- DISAGREE was entered from SAFE -/
  fromSafe : Bool := false
  count : Nat := 0
  /-- filtered levels, and consecutive samples that have shown another one (R475, R488) -/
  a : Bool := false
  b : Bool := true
  seenA : Nat := 0
  seenB : Nat := 0
  /-- DISC in use (R491) -/
  disc : Nat := 100000
  /-- the speed gate is open (R493) -/
  gate : Bool := false
  deriving DecidableEq, Repr

/-- A journal record at intake (R501, R503). -/
structure JRec where
  type : Nat
  seq : Nat
  time : Nat
  pos : Int
  payload : List Byte
  deriving DecidableEq, Repr

/-- The journal controller (R503 to R514). -/
structure Jnl where
  queue : List JRec := []
  drops : Tab Nat := []
  flashA : List Host.Cell := []
  flashB : List Host.Cell := []
  /-- flash offset of the next record -/
  wp : Nat := 0x1000000
  /-- sectors known erased that the write point has not entered (R506) -/
  erased : Nat := 1792
  /-- non-priority types are not taken (R508) -/
  prio : Bool := false
  /-- the live window: (SEQ, flash offset, L), in the order written -/
  present : List (Nat × Nat × Nat) := []
  /-- the flash bytes that JNL_RWIN shows, read at the last write of JNL_RADDR -/
  rwin : List Byte := []
  deriving DecidableEq, Repr

/-- A trace packet waiting (R533, R534, R536). -/
structure TPkt where
  type : Nat
  stamp : Nat
  payload : List DWord
  since : Nat
  deriving DecidableEq, Repr

/-- The trace port (R535 to R541). -/
structure Trace where
  /-- FIFOs of MARKER, EVENT, SAMPLE and DUMP -/
  fifo0 : List TPkt := []
  fifo1 : List TPkt := []
  fifo2 : List TPkt := []
  fifo3 : List TPkt := []
  /-- SYNC, LOSS and POWER_STATE packets -/
  own : List TPkt := []
  /-- alarms waiting to leave, and the alarm table's open milliseconds (R538) -/
  alarms : List TPkt := []
  alarmOpen : List EvRec := []
  /-- packets and bytes dropped since the source's last LOSS (R537) -/
  lostPk : Tab Nat := []
  lostBy : Tab Nat := []
  /-- STAMP of each source's last packet (R541) -/
  stamps : Tab Nat := []
  /-- TIME of the last SYNC sent -/
  lastSync : Nat := 0
  /-- bytes sent since the last whole 64 (R521) -/
  sent : Nat := 0
  deriving DecidableEq, Repr

/-- An access to a store that waits until the store is served again: a request through BAR4, or a packet of a remote device (R254,
R453). -/
inductive Access where
  | bar4 (req : Bar4Req) (c : Circ)
  | remote (p : Packet) (c : Circ)
  deriving DecidableEq, Repr

/-- What has left the device. -/
inductive Out where
  | hostRead (addr len : Nat)
  | hostWrite (addr : Nat) (data : List Byte)
  | msix (fn vector : Nat)
  | cfgRetry
  | cfgOk
  | readData (data : List Byte) (poisoned : Bool)
  | regData (data : List Byte)
  | count (n : Nat)
  | unsupported
  /-- a packet on a link, with the headers of its flits (R417) -/
  | packet (link : Nat) (p : Packet) (headers : List (BitVec 96))
  | flitNak (link lseq : Nat)
  | flitReplay (link lseq : Nat)
  | freezeFlit (slot f : Nat)
  | pairClaim (slot : Nat)
  | pairAlive
  | pairQuery
  | pairReply
  | pairRelease
  | pairReady
  | pairCkpt (addr : Nat) (data : List Byte)
  | trace (p : TPkt) (unord : Bool)
  deriving DecidableEq, Repr

/-- The device: all state but the queue. -/
structure Device where
  variant : Variant := .c
  straps : Straps := {}
  images : Images := {}
  pins : Pins := {}
  clk : Clk := {}
  pcie : Pcie := {}
  /-- registers by BAR0 offset (R597) -/
  regs : Tab Word := []
  /-- LOCK has been written since power-on reset (R12, R603) -/
  lockWritten : Bool := false
  frz : Freeze := {}
  /-- HBM by stack and stack offset, and the scratch stores by aperture address (R399, R401) -/
  mem : List Host.Cell := []
  merr : MemErr := {}
  hbm : Hbm := {}
  parts : Tab Part := []
  cmds : List Cmd := []
  /-- the partition of which the fetcher consumed an entry last (R381) -/
  fetchLast : Nat := 63
  nextId : Nat := 0
  arrs : Tab Arr := []
  /-- failing arrays whose substitution is under way or waits, in the order of detection (R454) -/
  subst : List Nat := []
  /-- accesses that are held while a store is cleared or its array is substituted, in their order (R254, R453) -/
  waiting : List Access := []
  /-- vector queues by (partition, motif), the one served last at the end (R18) -/
  served : List (Nat × Nat) := []
  /-- COMPLETED_TILES of arrays 0 to 191, bands (192 on), dies (204 on) (R20) -/
  tiles : Tab Nat := []
  /-- scatter queues by band × 64 + bank (R223) -/
  scat : Tab (List ScatLine) := []
  scs : Tab ScRt := []
  links : Tab Link := []
  align : Align := {}
  rem : Remote := {}
  coll : Coll := {}
  pair : Pair := {}
  pos : Pos := {}
  trigs : Tab Trig := []
  trigRecs : List TrigRec := []
  ilk : Ilk := {}
  jnl : Jnl := {}
  trc : Trace := {}
  /-- sampler generators that have stepped since SMP_SEED was written, by array (R529) -/
  smp : Tab Word := []
  /-- records in the sample ring (R531) -/
  smpCount : Nat := 0
  /-- the model's own counter of free values drawn (log 7) -/
  free : Nat := 0
  /-- what has left the device, oldest first (log 8) -/
  out : List Out := []
  deriving DecidableEq, Repr

/-- The block: the device and the commands that wait, first in first out. -/
structure State where
  dev : Device := {}
  pending : List Instr := []
  deriving DecidableEq, Repr

/-- The MPL-960-C right after a power-on reset with every pin open, once start-up from flash has ended (R569; log 1). -/
def State.reset : State := {}

end Sys2Proof.Machine
end

