-- ==== Sys2Proof/Machine/Bits.lean ====
section
/-! DEFINITION. Bit fields, bytes, two's complement, CRCs and sparse tables: the plain operations that every chapter uses
(R9, R10). -/

namespace Sys2Proof.Machine

/-- Field [hi:lo] of a number (R9). -/
def bits (hi lo w : Nat) : Nat := (w / 2 ^ lo) % 2 ^ (hi + 1 - lo)

/-- The number with field [hi:lo] replaced. -/
def setBits (hi lo v w : Nat) : Nat := w - bits hi lo w * 2 ^ lo + (v % 2 ^ (hi + 1 - lo)) * 2 ^ lo

/-- Bit k of a number. -/
def bit (k w : Nat) : Bool := decide ((w / 2 ^ k) % 2 = 1)

/-- 1 or 0. -/
def b2n (b : Bool) : Nat := if b then 1 else 0

/-- The n-bit two's complement number that w holds (R10). -/
def signed (n w : Nat) : Int := if w % 2 ^ n < 2 ^ (n - 1) then ((w % 2 ^ n : Nat) : Int) else ((w % 2 ^ n : Nat) : Int) - 2 ^ n

/-- The n bits of an integer, modulo 2^n (R10). -/
def unsigned (n : Nat) (z : Int) : Nat := (z % (2 ^ n : Int)).toNat

/-- An integer clipped to a range. -/
def clip (lo hi z : Int) : Int := if z < lo then lo else if hi < z then hi else z

/-- A count that stops at its field's maximum. -/
def satAdd (n a b : Nat) : Nat := if a + b < 2 ^ n then a + b else 2 ^ n - 1

/-- The n bytes of a number, the least significant first (R9). -/
def leBytes : Nat → Nat → List Byte
  | 0, _ => []
  | n + 1, v => BitVec.ofNat 8 v :: leBytes n (v / 256)

/-- The number that bytes hold, the least significant first (R9). -/
def leNat : List Byte → Nat
  | [] => 0
  | b :: r => b.toNat + 256 * leNat r

/-- The 32-bit words that bytes hold. -/
def leWords : List Byte → List Word
  | a :: b :: c :: d :: r => BitVec.ofNat 32 (leNat [a, b, c, d]) :: leWords r
  | _ => []

/-- The bytes of 32-bit words. -/
def wordBytes (ws : List Word) : List Byte := ws.flatMap fun w => leBytes 4 w.toNat

/-- The word at an index, 0 beyond the end. -/
def wordAt (ws : List Word) (k : Nat) : Nat := (ws.getD k 0).toNat

/-- The least power of two that is at least n, as an exponent, found among the first `fuel` exponents. -/
def log2Up : Nat → Nat → Nat → Nat
  | 0, k, _ => k
  | fuel + 1, k, n => if n ≤ 2 ^ k then k else log2Up fuel (k + 1) n

/-- Division rounded up. -/
def ceilDiv (a b : Nat) : Nat := (a + b - 1) / b

/-- One byte through a reflected CRC of 32 bits; the polynomial with its bits reversed. -/
def crcByte (poly c : Nat) (b : Byte) : Nat :=
  (List.range 8).foldl (fun c _ => if c % 2 = 1 then (c / 2) ^^^ poly else c / 2) (c ^^^ b.toNat)

/-- CRC-32C of bytes, with the Castagnoli polynomial's usual start, reflection and final inversion (R501; log 14). -/
def crc32c (bs : List Byte) : Nat := (bs.foldl (crcByte 0x82F63B78) 0xFFFFFFFF) ^^^ 0xFFFFFFFF

/-- CRC-32 of IEEE 802.3, polynomial 0x04C1_1DB7, with its usual start, reflection and final inversion (R417; log 14). -/
def crc32 (bs : List Byte) : Nat := (bs.foldl (crcByte 0xEDB88320) 0xFFFFFFFF) ^^^ 0xFFFFFFFF

/-- What a key holds in a sparse table. -/
def tabGet {α : Type} (dflt : α) (k : Nat) : Tab α → α
  | [] => dflt
  | (k', v) :: r => if k' = k then v else tabGet dflt k r

/-- The table with a key's value set; a value equal to the default leaves no entry. -/
def tabSet {α : Type} [DecidableEq α] (dflt : α) (k : Nat) (v : α) : Tab α → Tab α
  | [] => if v = dflt then [] else [(k, v)]
  | (k', v') :: r =>
    if k' = k then (if v = dflt then r else (k, v) :: r)
    else if k < k' then (if v = dflt then (k', v') :: r else (k, v) :: (k', v') :: r)
    else (k', v') :: tabSet dflt k v r

/-- The table's canonical form: keys strictly rising, no entry equal to the default. -/
abbrev tabWf {α : Type} (dflt : α) (t : Tab α) : Prop :=
  (t.map Prod.fst).Pairwise (· < ·) ∧ ∀ e ∈ t, e.2 ≠ dflt

/-- The table without the keys of a range. -/
def tabDrop {α : Type} (lo n : Nat) (t : Tab α) : Tab α := t.filter fun e => decide (e.1 < lo ∨ lo + n ≤ e.1)

/-- A rising list of numbers with one put in. -/
def nsInsert (k : Nat) : List Nat → List Nat
  | [] => [k]
  | k' :: r => if k = k' then k' :: r else if k < k' then k :: k' :: r else k' :: nsInsert k r

/-- A list with its element at an index replaced. -/
def setAt {α : Type} (l : List α) (k : Nat) (v : α) : List α := l.set k v

/-- A free value's name is used up (log 7). -/
def drawFree (d : Device) : Nat × Device := (d.free, { d with free := d.free + 1 })

end Sys2Proof.Machine
end

