-- ==== Sys2Proof/Machine/RegNames.lean ====
section
/-! DEFINITION. The names of the registers of the device (R597, R600): each register family's BAR0 offset and fields. -/

namespace Sys2Proof.Machine

/-- A field [hi:lo] of a register. -/
structure Fld where
  hi : Nat
  lo : Nat
  deriving DecidableEq, Repr

/-- The register families. -/
inductive RegId where
  | id | fwVersion | serialLo | serialHi | lock | lockedWrites | timeLo | timeHi
  | timeTrim | aclkCtrl | pwrCap | thermCfg | pwrState | sleepTimer | resetCtrl | partReset
  | resetCause | straps | bootCtrl | posCtrl | encScale | posLo | posHi | posLoadLo
  | posLoadHi | speed | slipCfg | posStatus | speedGate | illumCtrl | wakeCfg | stepAcc
  | trigRecBaseLo | trigRecBaseHi | trigRecCount | ilkCfg | ilkStatus | trigCfg | trigPitch | trigTime
  | trigNextLo | trigNextHi | trigLine | trigDrop | jnlStatus | jnlNextSeq | jnlOldestSeq | jnlPost
  | jnlPosted | jnlDrops | jnlRaddr | faultLog | faultTime | jnlStage | jnlRwin | deviceId
  | bandOwner | bandOwnerHi | bandOwnerTop | spareMap | availMask | arrayMask | partCtrl | pairCtrl
  | pairParts | pairCkptBaseLo | pairCkptBaseHi | pairStatus | pairGen | pairFrame | breachCounts | cpStatus
  | spThresh | scatterStall | spFaults | spFallbacks | skippedOutputs | skippedOutputsHi | staleMaps | rowRetry
  | rowCollision | wordRetry | storeParity | bandRetry | bandParity | vecSat | hbmCtrl | hbmMisc
  | hbmClass | hbmRegion | hbmEcc | hbmUnc | retireEntry | hyCtrl | hyTimeout | hyTime
  | hyXdom | narrowCfg | spareCfg | linkCtrl | linkStatus | linkErr | linkFec | event
  | eventErr | engCtrl | deadlineMisses | abortCounts | scCtrl | scInit | scStep | scState
  | scClipped | scEvents | scStatus | scHist | dbBaseLo | dbBaseHi | poll | vfVectors
  | eqBaseLo | eqBaseHi | eqCtrl | eqLost | winBase | sqBaseLo | sqBaseHi | sqCtrl
  | sqState | cqBaseLo | cqBaseHi | cqCtrl | cqCoal | staleEntries | vfMsixTable | vfMsixPba
  | obsCtrl | freezeTime | satCount | busyMatrix | busyVector | busyXfer | diePower | pkgPower
  | temp | tempMax | smpCtrl | smpSeed | smpBaseLo | smpBaseHi | trcCtrl | trcMarkerLo
  | trcMarkerHi | trcLoss | dumpBaseLo | dumpBaseHi | dumpCtrl | dumpWr | dumpRd | watchCtl
  | watchId | watchStep | arrCycle | arrCnt | arrCntHi | arrCtl | unitCycle | unitCnt
  | unitCntHi | unitCtl | msixTable | msixPba
  deriving DecidableEq, Repr

/-- ID (R2). -/
def oId : Nat := 0x0
/-- PART of ID. -/
def fIdPart : Fld := ⟨15, 0⟩
/-- VARIANT of ID. -/
def fIdVariant : Fld := ⟨19, 16⟩
/-- STEPPING of ID. -/
def fIdStepping : Fld := ⟨23, 20⟩
/-- FW_VERSION (R597). -/
def oFwVersion : Nat := 0x4
/-- VERSION of FW_VERSION. -/
def fFwVersionVersion : Fld := ⟨31, 0⟩
/-- SERIAL_LO (R597). -/
def oSerialLo : Nat := 0x8
/-- SERIAL of SERIAL_LO. -/
def fSerialLoSerial : Fld := ⟨31, 0⟩
/-- SERIAL_HI (R597). -/
def oSerialHi : Nat := 0xC
/-- SERIAL of SERIAL_HI. -/
def fSerialHiSerial : Fld := ⟨31, 0⟩
/-- LOCK (R603). -/
def oLock : Nat := 0x10
/-- SAFETY_LOCK of LOCK. -/
def fLockSafetyLock : Fld := ⟨0, 0⟩
/-- LOCKED_WRITES (R603). -/
def oLockedWrites : Nat := 0x14
/-- COUNT of LOCKED_WRITES. -/
def fLockedWritesCount : Fld := ⟨15, 0⟩
/-- TIME_LO (R552). -/
def oTimeLo : Nat := 0x1000
/-- TIME of TIME_LO. -/
def fTimeLoTime : Fld := ⟨31, 0⟩
/-- TIME_HI (R552). -/
def oTimeHi : Nat := 0x1004
/-- TIME of TIME_HI. -/
def fTimeHiTime : Fld := ⟨31, 0⟩
/-- TIME_TRIM (R553). -/
def oTimeTrim : Nat := 0x1008
/-- TRIM of TIME_TRIM. -/
def fTimeTrimTrim : Fld := ⟨31, 0⟩
/-- ACLK_CTRL (R555). -/
def oAclkCtrl : Nat := 0x100C
/-- DIV of ACLK_CTRL. -/
def fAclkCtrlDiv : Fld := ⟨3, 0⟩
/-- DIV_FLOOR of ACLK_CTRL. -/
def fAclkCtrlDivFloor : Fld := ⟨7, 4⟩
/-- PLL_SPARE of ACLK_CTRL. -/
def fAclkCtrlPllSpare : Fld := ⟨8, 8⟩
/-- PWR_CAP (R557). -/
def oPwrCap : Nat := 0x1010
/-- CAP_W of PWR_CAP. -/
def fPwrCapCapW : Fld := ⟨9, 0⟩
/-- THERM_CFG (R559). -/
def oThermCfg : Nat := 0x1014
/-- THROTTLE_C of THERM_CFG. -/
def fThermCfgThrottleC : Fld := ⟨7, 0⟩
/-- TRIP_C of THERM_CFG. -/
def fThermCfgTripC : Fld := ⟨15, 8⟩
/-- PWR_STATE (R562). -/
def oPwrState : Nat := 0x1018
/-- STATE of PWR_STATE. -/
def fPwrStateState : Fld := ⟨2, 0⟩
/-- REQ of PWR_STATE. -/
def fPwrStateReq : Fld := ⟨5, 3⟩
/-- PWR_ERR of PWR_STATE. -/
def fPwrStatePwrErr : Fld := ⟨6, 6⟩
/-- IDLE_US of PWR_STATE. -/
def fPwrStateIdleUs : Fld := ⟨31, 16⟩
/-- SLEEP_TIMER (R564). -/
def oSleepTimer : Nat := 0x101C
/-- WAKE_S of SLEEP_TIMER. -/
def fSleepTimerWakeS : Fld := ⟨31, 0⟩
/-- RESET_CTRL (R565). -/
def oResetCtrl : Nat := 0x1020
/-- WARM of RESET_CTRL. -/
def fResetCtrlWarm : Fld := ⟨0, 0⟩
/-- PART_RESET (R565). -/
def oPartReset (i : Nat) : Nat := 0x1024 + 0x4 * i
/-- RESET of PART_RESET. -/
def fPartResetReset : Fld := ⟨31, 0⟩
/-- RESET_CAUSE (R565). -/
def oResetCause : Nat := 0x102C
/-- CAUSE of RESET_CAUSE. -/
def fResetCauseCause : Fld := ⟨2, 0⟩
/-- STRAPS (R572). -/
def oStraps : Nat := 0x1030
/-- COMPAT7 of STRAPS. -/
def fStrapsCompat7 : Fld := ⟨0, 0⟩
/-- BOOT of STRAPS. -/
def fStrapsBoot : Fld := ⟨2, 1⟩
/-- SLOT of STRAPS. -/
def fStrapsSlot : Fld := ⟨6, 3⟩
/-- ROLE of STRAPS. -/
def fStrapsRole : Fld := ⟨7, 7⟩
/-- BOOT_CTRL (R571). -/
def oBootCtrl : Nat := 0x1034
/-- GO of BOOT_CTRL. -/
def fBootCtrlGo : Fld := ⟨0, 0⟩
/-- BOOT_ERR of BOOT_CTRL. -/
def fBootCtrlBootErr : Fld := ⟨1, 1⟩
/-- SOURCE of BOOT_CTRL. -/
def fBootCtrlSource : Fld := ⟨3, 2⟩
/-- LEN of BOOT_CTRL. -/
def fBootCtrlLen : Fld := ⟨31, 8⟩
/-- POS_CTRL (R476). -/
def oPosCtrl : Nat := 0x2000
/-- FILT of POS_CTRL. -/
def fPosCtrlFilt : Fld := ⟨3, 0⟩
/-- EN0 of POS_CTRL. -/
def fPosCtrlEn0 : Fld := ⟨4, 4⟩
/-- EN1 of POS_CTRL. -/
def fPosCtrlEn1 : Fld := ⟨5, 5⟩
/-- INV0 of POS_CTRL. -/
def fPosCtrlInv0 : Fld := ⟨6, 6⟩
/-- INV1 of POS_CTRL. -/
def fPosCtrlInv1 : Fld := ⟨7, 7⟩
/-- LEAD_MODE of POS_CTRL. -/
def fPosCtrlLeadMode : Fld := ⟨9, 8⟩
/-- LEAD of POS_CTRL. -/
def fPosCtrlLead : Fld := ⟨10, 10⟩
/-- ENC_SCALE (R477). -/
def oEncScale (i : Nat) : Nat := 0x2004 + 0x4 * i
/-- SCALE of ENC_SCALE. -/
def fEncScaleScale : Fld := ⟨31, 0⟩
/-- POS_LO (R477). -/
def oPosLo : Nat := 0x200C
/-- POS of POS_LO. -/
def fPosLoPos : Fld := ⟨31, 0⟩
/-- POS_HI (R477). -/
def oPosHi : Nat := 0x2010
/-- POS of POS_HI. -/
def fPosHiPos : Fld := ⟨15, 0⟩
/-- POS_LOAD_LO (R478). -/
def oPosLoadLo : Nat := 0x2014
/-- LOAD_POS of POS_LOAD_LO. -/
def fPosLoadLoLoadPos : Fld := ⟨31, 0⟩
/-- POS_LOAD_HI (R478). -/
def oPosLoadHi : Nat := 0x2018
/-- LOAD_POS of POS_LOAD_HI. -/
def fPosLoadHiLoadPos : Fld := ⟨15, 0⟩
/-- LOAD of POS_LOAD_HI. -/
def fPosLoadHiLoad : Fld := ⟨31, 31⟩
/-- SPEED (R480). -/
def oSpeed : Nat := 0x201C
/-- SPEED of SPEED. -/
def fSpeedSpeed : Fld := ⟨31, 0⟩
/-- SLIP_CFG (R481). -/
def oSlipCfg : Nat := 0x2020
/-- SLIP_ABS of SLIP_CFG. -/
def fSlipCfgSlipAbs : Fld := ⟨15, 0⟩
/-- SLIP_PM of SLIP_CFG. -/
def fSlipCfgSlipPm : Fld := ⟨23, 16⟩
/-- POS_STATUS (R481). -/
def oPosStatus : Nat := 0x2024
/-- SLIP of POS_STATUS. -/
def fPosStatusSlip : Fld := ⟨0, 0⟩
/-- STEP_OVF of POS_STATUS. -/
def fPosStatusStepOvf : Fld := ⟨1, 1⟩
/-- SLIP_COUNT of POS_STATUS. -/
def fPosStatusSlipCount : Fld := ⟨15, 8⟩
/-- ENC_ERRORS of POS_STATUS. -/
def fPosStatusEncErrors : Fld := ⟨23, 16⟩
/-- Z0 of POS_STATUS. -/
def fPosStatusZ0 : Fld := ⟨27, 24⟩
/-- Z1 of POS_STATUS. -/
def fPosStatusZ1 : Fld := ⟨31, 28⟩
/-- SPEED_GATE (R493). -/
def oSpeedGate : Nat := 0x2028
/-- ON_TH of SPEED_GATE. -/
def fSpeedGateOnTh : Fld := ⟨15, 0⟩
/-- OFF_TH of SPEED_GATE. -/
def fSpeedGateOffTh : Fld := ⟨31, 16⟩
/-- ILLUM_CTRL (R492). -/
def oIllumCtrl : Nat := 0x202C
/-- EN of ILLUM_CTRL. -/
def fIllumCtrlEn : Fld := ⟨3, 0⟩
/-- GATE of ILLUM_CTRL. -/
def fIllumCtrlGate : Fld := ⟨7, 4⟩
/-- WAKE_CFG (R495). -/
def oWakeCfg : Nat := 0x2030
/-- WAKE_EDGES of WAKE_CFG. -/
def fWakeCfgWakeEdges : Fld := ⟨7, 0⟩
/-- WAKE_EN of WAKE_CFG. -/
def fWakeCfgWakeEn : Fld := ⟨8, 8⟩
/-- STEP_ACC (R496). -/
def oStepAcc : Nat := 0x2034
/-- STEPS of STEP_ACC. -/
def fStepAccSteps : Fld := ⟨15, 0⟩
/-- TRIG_REC_BASE_LO (R486). -/
def oTrigRecBaseLo : Nat := 0x2040
/-- ADDR of TRIG_REC_BASE_LO. -/
def fTrigRecBaseLoAddr : Fld := ⟨31, 12⟩
/-- TRIG_REC_BASE_HI (R486). -/
def oTrigRecBaseHi : Nat := 0x2044
/-- ADDR of TRIG_REC_BASE_HI. -/
def fTrigRecBaseHiAddr : Fld := ⟨15, 0⟩
/-- LOG2 of TRIG_REC_BASE_HI. -/
def fTrigRecBaseHiLog2 : Fld := ⟨20, 16⟩
/-- TRIG_REC_COUNT (R486). -/
def oTrigRecCount : Nat := 0x2048
/-- COUNT of TRIG_REC_COUNT. -/
def fTrigRecCountCount : Fld := ⟨31, 0⟩
/-- ILK_CFG (R491). -/
def oIlkCfg : Nat := 0x2080
/-- DISC of ILK_CFG. -/
def fIlkCfgDisc : Fld := ⟨18, 0⟩
/-- ILK_STATUS (R488). -/
def oIlkStatus : Nat := 0x2084
/-- STATE of ILK_STATUS. -/
def fIlkStatusState : Fld := ⟨2, 0⟩
/-- A of ILK_STATUS. -/
def fIlkStatusA : Fld := ⟨3, 3⟩
/-- B of ILK_STATUS. -/
def fIlkStatusB : Fld := ⟨4, 4⟩
/-- LATCH of ILK_STATUS. -/
def fIlkStatusLatch : Fld := ⟨5, 5⟩
/-- TRIG_CFG (R482). -/
def oTrigCfg (i : Nat) : Nat := 0x2100 + 0x20 * i
/-- EN of TRIG_CFG. -/
def fTrigCfgEn : Fld := ⟨0, 0⟩
/-- DIR of TRIG_CFG. -/
def fTrigCfgDir : Fld := ⟨1, 1⟩
/-- TRIG_PITCH (R482). -/
def oTrigPitch (i : Nat) : Nat := 0x2104 + 0x20 * i
/-- PITCH of TRIG_PITCH. -/
def fTrigPitchPitch : Fld := ⟨23, 0⟩
/-- TRIG_TIME (R483). -/
def oTrigTime (i : Nat) : Nat := 0x2108 + 0x20 * i
/-- DELAY of TRIG_TIME. -/
def fTrigTimeDelay : Fld := ⟨15, 0⟩
/-- WIDTH of TRIG_TIME. -/
def fTrigTimeWidth : Fld := ⟨31, 16⟩
/-- TRIG_NEXT_LO (R482). -/
def oTrigNextLo (i : Nat) : Nat := 0x210C + 0x20 * i
/-- NEXT of TRIG_NEXT_LO. -/
def fTrigNextLoNext : Fld := ⟨31, 0⟩
/-- TRIG_NEXT_HI (R482). -/
def oTrigNextHi (i : Nat) : Nat := 0x2110 + 0x20 * i
/-- NEXT of TRIG_NEXT_HI. -/
def fTrigNextHiNext : Fld := ⟨15, 0⟩
/-- TRIG_LINE (R485). -/
def oTrigLine (i : Nat) : Nat := 0x2114 + 0x20 * i
/-- LINE of TRIG_LINE. -/
def fTrigLineLine : Fld := ⟨31, 0⟩
/-- TRIG_DROP (R484). -/
def oTrigDrop (i : Nat) : Nat := 0x2118 + 0x20 * i
/-- DROPPED of TRIG_DROP. -/
def fTrigDropDropped : Fld := ⟨15, 0⟩
/-- HELD of TRIG_DROP. -/
def fTrigDropHeld : Fld := ⟨31, 16⟩
/-- JNL_STATUS (R513). -/
def oJnlStatus : Nat := 0x4000
/-- JA_FAULT of JNL_STATUS. -/
def fJnlStatusJaFault : Fld := ⟨0, 0⟩
/-- JB_FAULT of JNL_STATUS. -/
def fJnlStatusJbFault : Fld := ⟨1, 1⟩
/-- PFAIL_SEEN of JNL_STATUS. -/
def fJnlStatusPfailSeen : Fld := ⟨2, 2⟩
/-- POST_ERR of JNL_STATUS. -/
def fJnlStatusPostErr : Fld := ⟨3, 3⟩
/-- QUEUED of JNL_STATUS. -/
def fJnlStatusQueued : Fld := ⟨12, 4⟩
/-- RESCAN of JNL_STATUS. -/
def fJnlStatusRescan : Fld := ⟨13, 13⟩
/-- JNL_NEXT_SEQ (R501). -/
def oJnlNextSeq : Nat := 0x4004
/-- SEQ of JNL_NEXT_SEQ. -/
def fJnlNextSeqSeq : Fld := ⟨31, 0⟩
/-- JNL_OLDEST_SEQ (R511). -/
def oJnlOldestSeq : Nat := 0x4008
/-- SEQ of JNL_OLDEST_SEQ. -/
def fJnlOldestSeqSeq : Fld := ⟨31, 0⟩
/-- JNL_POST (R515). -/
def oJnlPost : Nat := 0x400C
/-- TYPE of JNL_POST. -/
def fJnlPostType : Fld := ⟨15, 0⟩
/-- PLEN of JNL_POST. -/
def fJnlPostPlen : Fld := ⟨27, 16⟩
/-- JNL_POSTED (R515). -/
def oJnlPosted : Nat := 0x4010
/-- POSTED of JNL_POSTED. -/
def fJnlPostedPosted : Fld := ⟨31, 0⟩
/-- JNL_DROPS (R504). -/
def oJnlDrops : Nat := 0x4014
/-- DROPS of JNL_DROPS. -/
def fJnlDropsDrops : Fld := ⟨31, 0⟩
/-- JNL_RADDR (R510). -/
def oJnlRaddr : Nat := 0x4018
/-- ADDR of JNL_RADDR. -/
def fJnlRaddrAddr : Fld := ⟨26, 0⟩
/-- DEV of JNL_RADDR. -/
def fJnlRaddrDev : Fld := ⟨27, 27⟩
/-- FAULT_LOG (R514). -/
def oFaultLog (i : Nat) : Nat := 0x4100 + 0x8 * i
/-- CODE of FAULT_LOG. -/
def fFaultLogCode : Fld := ⟨15, 0⟩
/-- FAULT_TIME (R514). -/
def oFaultTime (i : Nat) : Nat := 0x4104 + 0x8 * i
/-- TIME_MS of FAULT_TIME. -/
def fFaultTimeTimeMs : Fld := ⟨31, 0⟩
/-- JNL_STAGE (R515). -/
def oJnlStage (i : Nat) : Nat := 0x5000 + 0x4 * i
/-- BYTES of JNL_STAGE. -/
def fJnlStageBytes : Fld := ⟨31, 0⟩
/-- JNL_RWIN (R510). -/
def oJnlRwin (i : Nat) : Nat := 0x6000 + 0x4 * i
/-- BYTES of JNL_RWIN. -/
def fJnlRwinBytes : Fld := ⟨31, 0⟩
/-- DEVICE_ID (R26). -/
def oDeviceId : Nat := 0x8000
/-- SLOT of DEVICE_ID. -/
def fDeviceIdSlot : Fld := ⟨3, 0⟩
/-- DOMAIN of DEVICE_ID. -/
def fDeviceIdDomain : Fld := ⟨11, 4⟩
/-- DOMAIN_SET of DEVICE_ID. -/
def fDeviceIdDomainSet : Fld := ⟨12, 12⟩
/-- BAND_OWNER (R42). -/
def oBandOwner : Nat := 0x8004
/-- OWNER_0 of BAND_OWNER. -/
def fBandOwnerOwner0 : Fld := ⟨5, 0⟩
/-- OWNER_1 of BAND_OWNER. -/
def fBandOwnerOwner1 : Fld := ⟨11, 6⟩
/-- OWNER_2 of BAND_OWNER. -/
def fBandOwnerOwner2 : Fld := ⟨17, 12⟩
/-- OWNER_3 of BAND_OWNER. -/
def fBandOwnerOwner3 : Fld := ⟨23, 18⟩
/-- OWNER_4 of BAND_OWNER. -/
def fBandOwnerOwner4 : Fld := ⟨29, 24⟩
/-- BAND_OWNER_HI (R42). -/
def oBandOwnerHi : Nat := 0x8008
/-- OWNER_5 of BAND_OWNER_HI. -/
def fBandOwnerHiOwner5 : Fld := ⟨5, 0⟩
/-- OWNER_6 of BAND_OWNER_HI. -/
def fBandOwnerHiOwner6 : Fld := ⟨11, 6⟩
/-- OWNER_7 of BAND_OWNER_HI. -/
def fBandOwnerHiOwner7 : Fld := ⟨17, 12⟩
/-- OWNER_8 of BAND_OWNER_HI. -/
def fBandOwnerHiOwner8 : Fld := ⟨23, 18⟩
/-- OWNER_9 of BAND_OWNER_HI. -/
def fBandOwnerHiOwner9 : Fld := ⟨29, 24⟩
/-- BAND_OWNER_TOP (R42). -/
def oBandOwnerTop : Nat := 0x800C
/-- OWNER_10 of BAND_OWNER_TOP. -/
def fBandOwnerTopOwner10 : Fld := ⟨5, 0⟩
/-- OWNER_11 of BAND_OWNER_TOP. -/
def fBandOwnerTopOwner11 : Fld := ⟨11, 6⟩
/-- SPARE_MAP (R606). -/
def oSpareMap (i j : Nat) : Nat := 0x8010 + 0x10 * i + 0x4 * j
/-- LOGICAL of SPARE_MAP. -/
def fSpareMapLogical : Fld := ⟨5, 0⟩
/-- FAILED of SPARE_MAP. -/
def fSpareMapFailed : Fld := ⟨6, 6⟩
/-- VALID of SPARE_MAP. -/
def fSpareMapValid : Fld := ⟨7, 7⟩
/-- AVAIL_MASK (R53). -/
def oAvailMask (i : Nat) : Nat := 0x8050 + 0x4 * i
/-- AVAIL of AVAIL_MASK. -/
def fAvailMaskAvail : Fld := ⟨31, 0⟩
/-- ARRAY_MASK (R40). -/
def oArrayMask (i j : Nat) : Nat := 0x8100 + 0x40 * i + 0x4 * j
/-- MASK of ARRAY_MASK. -/
def fArrayMaskMask : Fld := ⟨31, 0⟩
/-- PART_CTRL (R44). -/
def oPartCtrl (i : Nat) : Nat := 0x8118 + 0x40 * i
/-- ENABLE of PART_CTRL. -/
def fPartCtrlEnable : Fld := ⟨0, 0⟩
/-- BUSY of PART_CTRL. -/
def fPartCtrlBusy : Fld := ⟨1, 1⟩
/-- OVERLAP_ERR of PART_CTRL. -/
def fPartCtrlOverlapErr : Fld := ⟨2, 2⟩
/-- DOMAIN_MEMBERS of PART_CTRL. -/
def fPartCtrlDomainMembers : Fld := ⟨31, 16⟩
/-- PAIR_CTRL (R461). -/
def oPairCtrl : Nat := 0xA000
/-- PAIR_EN of PAIR_CTRL. -/
def fPairCtrlPairEn : Fld := ⟨0, 0⟩
/-- PEER_SLOT of PAIR_CTRL. -/
def fPairCtrlPeerSlot : Fld := ⟨4, 1⟩
/-- SWITCHOVER of PAIR_CTRL. -/
def fPairCtrlSwitchover : Fld := ⟨5, 5⟩
/-- REJOIN of PAIR_CTRL. -/
def fPairCtrlRejoin : Fld := ⟨6, 6⟩
/-- PAIR_PARTS (R462). -/
def oPairParts (i : Nat) : Nat := 0xA004 + 0x4 * i
/-- PARTS of PAIR_PARTS. -/
def fPairPartsParts : Fld := ⟨31, 0⟩
/-- PAIR_CKPT_BASE_LO (R464). -/
def oPairCkptBaseLo : Nat := 0xA00C
/-- ADDR of PAIR_CKPT_BASE_LO. -/
def fPairCkptBaseLoAddr : Fld := ⟨31, 12⟩
/-- PAIR_CKPT_BASE_HI (R464). -/
def oPairCkptBaseHi : Nat := 0xA010
/-- ADDR of PAIR_CKPT_BASE_HI. -/
def fPairCkptBaseHiAddr : Fld := ⟨15, 0⟩
/-- PAIR_STATUS (R467). -/
def oPairStatus : Nat := 0xA014
/-- ROLE of PAIR_STATUS. -/
def fPairStatusRole : Fld := ⟨1, 0⟩
/-- HB_OK of PAIR_STATUS. -/
def fPairStatusHbOk : Fld := ⟨2, 2⟩
/-- LINKS_OK of PAIR_STATUS. -/
def fPairStatusLinksOk : Fld := ⟨3, 3⟩
/-- LINK_LOST of PAIR_STATUS. -/
def fPairStatusLinkLost : Fld := ⟨4, 4⟩
/-- HB_LOST of PAIR_STATUS. -/
def fPairStatusHbLost : Fld := ⟨5, 5⟩
/-- BLOCKED of PAIR_STATUS. -/
def fPairStatusBlocked : Fld := ⟨6, 6⟩
/-- PAIR_GEN (R465). -/
def oPairGen : Nat := 0xA018
/-- GEN of PAIR_GEN. -/
def fPairGenGen : Fld := ⟨31, 0⟩
/-- PAIR_FRAME (R465). -/
def oPairFrame : Nat := 0xA01C
/-- FRAME of PAIR_FRAME. -/
def fPairFrameFrame : Fld := ⟨31, 0⟩
/-- BREACH_COUNTS (R473). -/
def oBreachCounts : Nat := 0xA020
/-- RANK2 of BREACH_COUNTS. -/
def fBreachCountsRank2 : Fld := ⟨7, 0⟩
/-- RANK3 of BREACH_COUNTS. -/
def fBreachCountsRank3 : Fld := ⟨15, 8⟩
/-- RANK4 of BREACH_COUNTS. -/
def fBreachCountsRank4 : Fld := ⟨23, 16⟩
/-- RANK5 of BREACH_COUNTS. -/
def fBreachCountsRank5 : Fld := ⟨31, 24⟩
/-- CP_STATUS (R457). -/
def oCpStatus (i : Nat) : Nat := 0xA040 + 0x4 * i
/-- ACTIVE of CP_STATUS. -/
def fCpStatusActive : Fld := ⟨3, 0⟩
/-- SPARE_USED of CP_STATUS. -/
def fCpStatusSpareUsed : Fld := ⟨4, 4⟩
/-- FAULTS of CP_STATUS. -/
def fCpStatusFaults : Fld := ⟨7, 5⟩
/-- SP_THRESH (R204). -/
def oSpThresh (i : Nat) : Nat := 0xB000 + 0x4 * i
/-- THRESH of SP_THRESH. -/
def fSpThreshThresh : Fld := ⟨15, 0⟩
/-- SCATTER_STALL (R223). -/
def oScatterStall (i : Nat) : Nat := 0xB040 + 0x4 * i
/-- STALLS of SCATTER_STALL. -/
def fScatterStallStalls : Fld := ⟨31, 0⟩
/-- SP_FAULTS (R214). -/
def oSpFaults : Nat := 0xB070
/-- PATTERN of SP_FAULTS. -/
def fSpFaultsPattern : Fld := ⟨15, 0⟩
/-- RANGE of SP_FAULTS. -/
def fSpFaultsRange : Fld := ⟨31, 16⟩
/-- SP_FALLBACKS (R215). -/
def oSpFallbacks : Nat := 0xB074
/-- GROUPS of SP_FALLBACKS. -/
def fSpFallbacksGroups : Fld := ⟨31, 0⟩
/-- SKIPPED_OUTPUTS (R251). -/
def oSkippedOutputs (i : Nat) : Nat := 0xC000 + 0x10 * i
/-- LOW of SKIPPED_OUTPUTS. -/
def fSkippedOutputsLow : Fld := ⟨31, 0⟩
/-- SKIPPED_OUTPUTS_HI (R251). -/
def oSkippedOutputsHi (i : Nat) : Nat := 0xC004 + 0x10 * i
/-- HIGH of SKIPPED_OUTPUTS_HI. -/
def fSkippedOutputsHiHigh : Fld := ⟨15, 0⟩
/-- STALE_MAPS (R247). -/
def oStaleMaps (i : Nat) : Nat := 0xC008 + 0x10 * i
/-- STALE of STALE_MAPS. -/
def fStaleMapsStale : Fld := ⟨15, 0⟩
/-- CORRELATION of STALE_MAPS. -/
def fStaleMapsCorrelation : Fld := ⟨31, 16⟩
/-- ROW_RETRY (R256). -/
def oRowRetry (i : Nat) : Nat := 0xD000 + 0x10 * i
/-- RETRIES of ROW_RETRY. -/
def fRowRetryRetries : Fld := ⟨31, 0⟩
/-- ROW_COLLISION (R257). -/
def oRowCollision (i : Nat) : Nat := 0xD004 + 0x10 * i
/-- COLLISIONS of ROW_COLLISION. -/
def fRowCollisionCollisions : Fld := ⟨31, 0⟩
/-- WORD_RETRY (R259). -/
def oWordRetry (i : Nat) : Nat := 0xD008 + 0x10 * i
/-- RETRIES of WORD_RETRY. -/
def fWordRetryRetries : Fld := ⟨31, 0⟩
/-- STORE_PARITY (R253). -/
def oStoreParity (i : Nat) : Nat := 0xD00C + 0x10 * i
/-- ROW_PARITY of STORE_PARITY. -/
def fStoreParityRowParity : Fld := ⟨15, 0⟩
/-- WORD_PARITY of STORE_PARITY. -/
def fStoreParityWordParity : Fld := ⟨31, 16⟩
/-- BAND_RETRY (R262). -/
def oBandRetry (i : Nat) : Nat := 0xDC00 + 0x8 * i
/-- RETRIES of BAND_RETRY. -/
def fBandRetryRetries : Fld := ⟨31, 0⟩
/-- BAND_PARITY (R253). -/
def oBandParity (i : Nat) : Nat := 0xDC04 + 0x8 * i
/-- LINE_PARITY of BAND_PARITY. -/
def fBandParityLineParity : Fld := ⟨15, 0⟩
/-- VEC_SAT (R354). -/
def oVecSat (i : Nat) : Nat := 0xE000 + 0x4 * i
/-- COUNT of VEC_SAT. -/
def fVecSatCount : Fld := ⟨31, 0⟩
/-- HBM_CTRL (R407). -/
def oHbmCtrl : Nat := 0x10000
/-- SCRUB_EN of HBM_CTRL. -/
def fHbmCtrlScrubEn : Fld := ⟨0, 0⟩
/-- SCRUB_PERIOD of HBM_CTRL. -/
def fHbmCtrlScrubPeriod : Fld := ⟨8, 1⟩
/-- RETIRE_THRESH of HBM_CTRL. -/
def fHbmCtrlRetireThresh : Fld := ⟨16, 9⟩
/-- CLASS_ERR of HBM_CTRL. -/
def fHbmCtrlClassErr : Fld := ⟨17, 17⟩
/-- REGION_ERR of HBM_CTRL. -/
def fHbmCtrlRegionErr : Fld := ⟨18, 18⟩
/-- HBM_MISC (R412). -/
def oHbmMisc : Nat := 0x10004
/-- HOST_RCLASS of HBM_MISC. -/
def fHbmMiscHostRclass : Fld := ⟨2, 0⟩
/-- FETCH_RCLASS of HBM_MISC. -/
def fHbmMiscFetchRclass : Fld := ⟨5, 3⟩
/-- HBM_CLASS (R413). -/
def oHbmClass (i : Nat) : Nat := 0x10040 + 0x4 * i
/-- MIN_RATE of HBM_CLASS. -/
def fHbmClassMinRate : Fld := ⟨12, 0⟩
/-- FT_SLOTS of HBM_CLASS. -/
def fHbmClassFtSlots : Fld := ⟨15, 13⟩
/-- HBM_REGION (R403). -/
def oHbmRegion (i : Nat) : Nat := 0x10100 + 0x4 * i
/-- ENABLE of HBM_REGION. -/
def fHbmRegionEnable : Fld := ⟨0, 0⟩
/-- BASE6 of HBM_REGION. -/
def fHbmRegionBase6 : Fld := ⟨6, 1⟩
/-- NGIB of HBM_REGION. -/
def fHbmRegionNgib : Fld := ⟨12, 7⟩
/-- HBM_ECC (R405). -/
def oHbmEcc (i : Nat) : Nat := 0x10200 + 0x10 * i
/-- CORRECTED of HBM_ECC. -/
def fHbmEccCorrected : Fld := ⟨31, 0⟩
/-- HBM_UNC (R406). -/
def oHbmUnc (i : Nat) : Nat := 0x10204 + 0x10 * i
/-- UNCORRECTABLE of HBM_UNC. -/
def fHbmUncUncorrectable : Fld := ⟨15, 0⟩
/-- RETIRED of HBM_UNC. -/
def fHbmUncRetired : Fld := ⟨23, 16⟩
/-- RETIRE_FULL of HBM_UNC. -/
def fHbmUncRetireFull : Fld := ⟨24, 24⟩
/-- RETIRE_ENTRY (R409). -/
def oRetireEntry (i j : Nat) : Nat := 0x11000 + 0x200 * i + 0x4 * j
/-- PAGE of RETIRE_ENTRY. -/
def fRetireEntryPage : Fld := ⟨23, 0⟩
/-- UNCORR of RETIRE_ENTRY. -/
def fRetireEntryUncorr : Fld := ⟨30, 30⟩
/-- VALID of RETIRE_ENTRY. -/
def fRetireEntryValid : Fld := ⟨31, 31⟩
/-- HY_CTRL (R423). -/
def oHyCtrl : Nat := 0x12000
/-- SLOTS of HY_CTRL. -/
def fHyCtrlSlots : Fld := ⟨15, 0⟩
/-- ENABLE_ERR of HY_CTRL. -/
def fHyCtrlEnableErr : Fld := ⟨16, 16⟩
/-- HY_TIMEOUT (R432). -/
def oHyTimeout : Nat := 0x12004
/-- REMOTE_TIMEOUT of HY_TIMEOUT. -/
def fHyTimeoutRemoteTimeout : Fld := ⟨15, 0⟩
/-- HY_TIME (R424). -/
def oHyTime : Nat := 0x12008
/-- ALIGNED of HY_TIME. -/
def fHyTimeAligned : Fld := ⟨0, 0⟩
/-- MASTER of HY_TIME. -/
def fHyTimeMaster : Fld := ⟨4, 1⟩
/-- HOPS of HY_TIME. -/
def fHyTimeHops : Fld := ⟨6, 5⟩
/-- HY_XDOM (R429). -/
def oHyXdom (i : Nat) : Nat := 0x12010 + 0x4 * i
/-- XDOM_EN of HY_XDOM. -/
def fHyXdomXdomEn : Fld := ⟨31, 0⟩
/-- NARROW_CFG (R438). -/
def oNarrowCfg (i : Nat) : Nat := 0x12100 + 0x4 * i
/-- SC_NUM of NARROW_CFG. -/
def fNarrowCfgScNum : Fld := ⟨9, 0⟩
/-- FMT of NARROW_CFG. -/
def fNarrowCfgFmt : Fld := ⟨11, 10⟩
/-- SPARE_CFG (R437). -/
def oSpareCfg (i : Nat) : Nat := 0x12200 + 0x4 * i
/-- PEER_DEV of SPARE_CFG. -/
def fSpareCfgPeerDev : Fld := ⟨11, 0⟩
/-- PEER_LINK of SPARE_CFG. -/
def fSpareCfgPeerLink : Fld := ⟨12, 12⟩
/-- STANDS_FOR of SPARE_CFG. -/
def fSpareCfgStandsFor : Fld := ⟨18, 13⟩
/-- LINK_CTRL (R422). -/
def oLinkCtrl (i : Nat) : Nat := 0x12400 + 0x10 * i
/-- ENABLE of LINK_CTRL. -/
def fLinkCtrlEnable : Fld := ⟨0, 0⟩
/-- RESET of LINK_CTRL. -/
def fLinkCtrlReset : Fld := ⟨1, 1⟩
/-- LINK_STATUS (R422). -/
def oLinkStatus (i : Nat) : Nat := 0x12404 + 0x10 * i
/-- STATE of LINK_STATUS. -/
def fLinkStatusState : Fld := ⟨2, 0⟩
/-- LANE_OUT of LINK_STATUS. -/
def fLinkStatusLaneOut : Fld := ⟨5, 3⟩
/-- PEER_DEV of LINK_STATUS. -/
def fLinkStatusPeerDev : Fld := ⟨17, 6⟩
/-- PEER_LINK of LINK_STATUS. -/
def fLinkStatusPeerLink : Fld := ⟨23, 18⟩
/-- LINK_ERR (R418). -/
def oLinkErr (i : Nat) : Nat := 0x12408 + 0x10 * i
/-- CRC_ERRORS of LINK_ERR. -/
def fLinkErrCrcErrors : Fld := ⟨15, 0⟩
/-- REPLAYS of LINK_ERR. -/
def fLinkErrReplays : Fld := ⟨31, 16⟩
/-- LINK_FEC (R418). -/
def oLinkFec (i : Nat) : Nat := 0x1240C + 0x10 * i
/-- CORRECTED of LINK_FEC. -/
def fLinkFecCorrected : Fld := ⟨31, 0⟩
/-- EVENT (R327). -/
def oEvent (i j : Nat) : Nat := 0x20000 + 0x200 * i + 0x4 * j
/-- COUNT of EVENT. -/
def fEventCount : Fld := ⟨31, 0⟩
/-- EVENT_ERR (R329). -/
def oEventErr (i j : Nat) : Nat := 0x20100 + 0x200 * i + 0x4 * j
/-- ERR of EVENT_ERR. -/
def fEventErrErr : Fld := ⟨31, 0⟩
/-- ENG_CTRL (R317). -/
def oEngCtrl (i : Nat) : Nat := 0x20108 + 0x200 * i
/-- FT_ENABLE of ENG_CTRL. -/
def fEngCtrlFtEnable : Fld := ⟨0, 0⟩
/-- DEADLINE_MISSES (R332). -/
def oDeadlineMisses (i : Nat) : Nat := 0x2010C + 0x200 * i
/-- MISSES of DEADLINE_MISSES. -/
def fDeadlineMissesMisses : Fld := ⟨31, 0⟩
/-- ABORT_COUNTS (R338). -/
def oAbortCounts (i : Nat) : Nat := 0x20110 + 0x200 * i
/-- ABORTED of ABORT_COUNTS. -/
def fAbortCountsAborted : Fld := ⟨15, 0⟩
/-- LATE of ABORT_COUNTS. -/
def fAbortCountsLate : Fld := ⟨31, 16⟩
/-- SC_CTRL (R141). -/
def oScCtrl (i : Nat) : Nat := 0x30000 + 0x40 * i
/-- ENABLE of SC_CTRL. -/
def fScCtrlEnable : Fld := ⟨0, 0⟩
/-- POLICY of SC_CTRL. -/
def fScCtrlPolicy : Fld := ⟨2, 1⟩
/-- WINDOW of SC_CTRL. -/
def fScCtrlWindow : Fld := ⟨6, 3⟩
/-- CLIP_T of SC_CTRL. -/
def fScCtrlClipT : Fld := ⟨10, 7⟩
/-- OWNER of SC_CTRL. -/
def fScCtrlOwner : Fld := ⟨16, 11⟩
/-- SC_INIT (R142). -/
def oScInit (i : Nat) : Nat := 0x30004 + 0x40 * i
/-- INIT_MAX of SC_INIT. -/
def fScInitInitMax : Fld := ⟨15, 0⟩
/-- SC_STEP (R143). -/
def oScStep (i : Nat) : Nat := 0x30008 + 0x40 * i
/-- CUR_STEP of SC_STEP. -/
def fScStepCurStep : Fld := ⟨31, 0⟩
/-- SC_STATE (R144). -/
def oScState (i : Nat) : Nat := 0x3000C + 0x40 * i
/-- CUR_MAX of SC_STATE. -/
def fScStateCurMax : Fld := ⟨15, 0⟩
/-- SCALE of SC_STATE. -/
def fScStateScale : Fld := ⟨31, 16⟩
/-- SC_CLIPPED (R137). -/
def oScClipped (i : Nat) : Nat := 0x30010 + 0x40 * i
/-- CLIPPED of SC_CLIPPED. -/
def fScClippedClipped : Fld := ⟨31, 0⟩
/-- SC_EVENTS (R149). -/
def oScEvents (i : Nat) : Nat := 0x30014 + 0x40 * i
/-- SAT_COUNT of SC_EVENTS. -/
def fScEventsSatCount : Fld := ⟨15, 0⟩
/-- UNDER_COUNT of SC_EVENTS. -/
def fScEventsUnderCount : Fld := ⟨31, 16⟩
/-- SC_STATUS (R146). -/
def oScStatus (i : Nat) : Nat := 0x30018 + 0x40 * i
/-- SAT_STICKY of SC_STATUS. -/
def fScStatusSatSticky : Fld := ⟨0, 0⟩
/-- UNDER_STICKY of SC_STATUS. -/
def fScStatusUnderSticky : Fld := ⟨1, 1⟩
/-- STALE of SC_STATUS. -/
def fScStatusStale : Fld := ⟨2, 2⟩
/-- RETRIED of SC_STATUS. -/
def fScStatusRetried : Fld := ⟨3, 3⟩
/-- UNDER_RUN of SC_STATUS. -/
def fScStatusUnderRun : Fld := ⟨7, 4⟩
/-- SC_HIST (R143). -/
def oScHist (i j : Nat) : Nat := 0x30020 + 0x40 * i + 0x4 * j
/-- LO of SC_HIST. -/
def fScHistLo : Fld := ⟨15, 0⟩
/-- HI of SC_HIST. -/
def fScHistHi : Fld := ⟨31, 16⟩
/-- DB_BASE_LO (R373). -/
def oDbBaseLo (i : Nat) : Nat := 0x40000 + 0x1000 * i
/-- ADDR of DB_BASE_LO. -/
def fDbBaseLoAddr : Fld := ⟨31, 6⟩
/-- DB_BASE_HI (R373). -/
def oDbBaseHi (i : Nat) : Nat := 0x40004 + 0x1000 * i
/-- ADDR of DB_BASE_HI. -/
def fDbBaseHiAddr : Fld := ⟨31, 0⟩
/-- POLL (R375). -/
def oPoll (i : Nat) : Nat := 0x40008 + 0x1000 * i
/-- INTERVAL of POLL. -/
def fPollInterval : Fld := ⟨12, 0⟩
/-- VF_VECTORS (R372). -/
def oVfVectors (i : Nat) : Nat := 0x4000C + 0x1000 * i
/-- COUNT of VF_VECTORS. -/
def fVfVectorsCount : Fld := ⟨5, 0⟩
/-- EQ_BASE_LO (R389). -/
def oEqBaseLo (i : Nat) : Nat := 0x40010 + 0x1000 * i
/-- ADDR of EQ_BASE_LO. -/
def fEqBaseLoAddr : Fld := ⟨31, 12⟩
/-- EQ_BASE_HI (R389). -/
def oEqBaseHi (i : Nat) : Nat := 0x40014 + 0x1000 * i
/-- ADDR of EQ_BASE_HI. -/
def fEqBaseHiAddr : Fld := ⟨31, 0⟩
/-- EQ_CTRL (R391). -/
def oEqCtrl (i : Nat) : Nat := 0x40018 + 0x1000 * i
/-- ENABLE of EQ_CTRL. -/
def fEqCtrlEnable : Fld := ⟨0, 0⟩
/-- VECTOR of EQ_CTRL. -/
def fEqCtrlVector : Fld := ⟨11, 1⟩
/-- EQ_LOST (R391). -/
def oEqLost (i : Nat) : Nat := 0x4001C + 0x1000 * i
/-- LOST of EQ_LOST. -/
def fEqLostLost : Fld := ⟨31, 0⟩
/-- WIN_BASE (R370). -/
def oWinBase (i : Nat) : Nat := 0x40020 + 0x1000 * i
/-- BASE of WIN_BASE. -/
def fWinBaseBase : Fld := ⟨17, 0⟩
/-- SQ_BASE_LO (R376). -/
def oSqBaseLo (i j : Nat) : Nat := 0x40100 + 0x1000 * i + 0x10 * j
/-- ADDR of SQ_BASE_LO. -/
def fSqBaseLoAddr : Fld := ⟨31, 6⟩
/-- SQ_BASE_HI (R376). -/
def oSqBaseHi (i j : Nat) : Nat := 0x40104 + 0x1000 * i + 0x10 * j
/-- ADDR of SQ_BASE_HI. -/
def fSqBaseHiAddr : Fld := ⟨31, 0⟩
/-- SQ_CTRL (R377). -/
def oSqCtrl (i j : Nat) : Nat := 0x40108 + 0x1000 * i + 0x10 * j
/-- ENABLE of SQ_CTRL. -/
def fSqCtrlEnable : Fld := ⟨0, 0⟩
/-- LOG2SIZE of SQ_CTRL. -/
def fSqCtrlLog2size : Fld := ⟨4, 1⟩
/-- CQ of SQ_CTRL. -/
def fSqCtrlCq : Fld := ⟨8, 5⟩
/-- LEGACY7 of SQ_CTRL. -/
def fSqCtrlLegacy7 : Fld := ⟨9, 9⟩
/-- LEGACY_PB_ROW of SQ_CTRL. -/
def fSqCtrlLegacyPbRow : Fld := ⟨22, 10⟩
/-- LEGACY_PB_SIZE of SQ_CTRL. -/
def fSqCtrlLegacyPbSize : Fld := ⟨25, 23⟩
/-- SQ_STATE (R377). -/
def oSqState (i j : Nat) : Nat := 0x4010C + 0x1000 * i + 0x10 * j
/-- HEAD of SQ_STATE. -/
def fSqStateHead : Fld := ⟨15, 0⟩
/-- EXP_GEN of SQ_STATE. -/
def fSqStateExpGen : Fld := ⟨31, 16⟩
/-- CQ_BASE_LO (R382). -/
def oCqBaseLo (i j : Nat) : Nat := 0x40200 + 0x1000 * i + 0x10 * j
/-- ADDR of CQ_BASE_LO. -/
def fCqBaseLoAddr : Fld := ⟨31, 4⟩
/-- CQ_BASE_HI (R382). -/
def oCqBaseHi (i j : Nat) : Nat := 0x40204 + 0x1000 * i + 0x10 * j
/-- ADDR of CQ_BASE_HI. -/
def fCqBaseHiAddr : Fld := ⟨31, 0⟩
/-- CQ_CTRL (R384). -/
def oCqCtrl (i j : Nat) : Nat := 0x40208 + 0x1000 * i + 0x10 * j
/-- ENABLE of CQ_CTRL. -/
def fCqCtrlEnable : Fld := ⟨0, 0⟩
/-- LOG2SIZE of CQ_CTRL. -/
def fCqCtrlLog2size : Fld := ⟨4, 1⟩
/-- VECTOR of CQ_CTRL. -/
def fCqCtrlVector : Fld := ⟨15, 5⟩
/-- CQ_COAL (R385). -/
def oCqCoal (i j : Nat) : Nat := 0x4020C + 0x1000 * i + 0x10 * j
/-- COAL_COUNT of CQ_COAL. -/
def fCqCoalCoalCount : Fld := ⟨7, 0⟩
/-- COAL_TIME of CQ_COAL. -/
def fCqCoalCoalTime : Fld := ⟨23, 8⟩
/-- STALE_ENTRIES (R379). -/
def oStaleEntries (i : Nat) : Nat := 0x40300 + 0x1000 * i
/-- STOPS of STALE_ENTRIES. -/
def fStaleEntriesStops : Fld := ⟨31, 0⟩
/-- VF_MSIX_TABLE (R598). -/
def oVfMsixTable (i j : Nat) : Nat := 0x41800 + 0x1000 * i + 0x4 * j
/-- WORD of VF_MSIX_TABLE. -/
def fVfMsixTableWord : Fld := ⟨31, 0⟩
/-- VF_MSIX_PBA (R598). -/
def oVfMsixPba (i : Nat) : Nat := 0x41A00 + 0x1000 * i
/-- PENDING of VF_MSIX_PBA. -/
def fVfMsixPbaPending : Fld := ⟨31, 0⟩
/-- OBS_CTRL (R524). -/
def oObsCtrl : Nat := 0x80000
/-- FREEZE of OBS_CTRL. -/
def fObsCtrlFreeze : Fld := ⟨0, 0⟩
/-- RELEASE of OBS_CTRL. -/
def fObsCtrlRelease : Fld := ⟨1, 1⟩
/-- FROZEN of OBS_CTRL. -/
def fObsCtrlFrozen : Fld := ⟨2, 2⟩
/-- DOMAIN_FREEZE of OBS_CTRL. -/
def fObsCtrlDomainFreeze : Fld := ⟨3, 3⟩
/-- LATE of OBS_CTRL. -/
def fObsCtrlLate : Fld := ⟨4, 4⟩
/-- FREEZE_TIME (R525). -/
def oFreezeTime (i : Nat) : Nat := 0x80008 + 0x4 * i
/-- TIME of FREEZE_TIME. -/
def fFreezeTimeTime : Fld := ⟨31, 0⟩
/-- SAT_COUNT (R517). -/
def oSatCount (i : Nat) : Nat := 0x81000 + 0x4 * i
/-- COUNT of SAT_COUNT. -/
def fSatCountCount : Fld := ⟨31, 0⟩
/-- BUSY_MATRIX (R518). -/
def oBusyMatrix (i j : Nat) : Nat := 0x82000 + 0x20 * i + 0x4 * j
/-- COUNT of BUSY_MATRIX. -/
def fBusyMatrixCount : Fld := ⟨31, 0⟩
/-- BUSY_VECTOR (R518). -/
def oBusyVector (i j : Nat) : Nat := 0x82008 + 0x20 * i + 0x4 * j
/-- COUNT of BUSY_VECTOR. -/
def fBusyVectorCount : Fld := ⟨31, 0⟩
/-- BUSY_XFER (R518). -/
def oBusyXfer (i j : Nat) : Nat := 0x82010 + 0x20 * i + 0x4 * j
/-- COUNT of BUSY_XFER. -/
def fBusyXferCount : Fld := ⟨31, 0⟩
/-- DIE_POWER (R519). -/
def oDiePower (i : Nat) : Nat := 0x83000 + 0x4 * i
/-- MW of DIE_POWER. -/
def fDiePowerMw : Fld := ⟨31, 0⟩
/-- PKG_POWER (R519). -/
def oPkgPower : Nat := 0x83014
/-- MW of PKG_POWER. -/
def fPkgPowerMw : Fld := ⟨31, 0⟩
/-- TEMP (R519). -/
def oTemp (i j : Nat) : Nat := 0x83100 + 0x20 * i + 0x4 * j
/-- TEMP of TEMP. -/
def fTempTemp : Fld := ⟨15, 0⟩
/-- TEMP_MAX (R519). -/
def oTempMax (i : Nat) : Nat := 0x831A0 + 0x4 * i
/-- TEMP of TEMP_MAX. -/
def fTempMaxTemp : Fld := ⟨15, 0⟩
/-- SMP_CTRL (R529). -/
def oSmpCtrl : Nat := 0x84000
/-- SMP_EN of SMP_CTRL. -/
def fSmpCtrlSmpEn : Fld := ⟨0, 0⟩
/-- SMP_LOG2 of SMP_CTRL. -/
def fSmpCtrlSmpLog2 : Fld := ⟨5, 1⟩
/-- SMP_DEST of SMP_CTRL. -/
def fSmpCtrlSmpDest : Fld := ⟨6, 6⟩
/-- SMP_RLOG2 of SMP_CTRL. -/
def fSmpCtrlSmpRlog2 : Fld := ⟨11, 7⟩
/-- SMP_SEED (R529). -/
def oSmpSeed : Nat := 0x84004
/-- SEED of SMP_SEED. -/
def fSmpSeedSeed : Fld := ⟨31, 0⟩
/-- SMP_BASE_LO (R531). -/
def oSmpBaseLo : Nat := 0x84008
/-- ADDR of SMP_BASE_LO. -/
def fSmpBaseLoAddr : Fld := ⟨31, 12⟩
/-- SMP_BASE_HI (R531). -/
def oSmpBaseHi : Nat := 0x8400C
/-- ADDR of SMP_BASE_HI. -/
def fSmpBaseHiAddr : Fld := ⟨15, 0⟩
/-- TRC_CTRL (R535). -/
def oTrcCtrl : Nat := 0x84100
/-- EN of TRC_CTRL. -/
def fTrcCtrlEn : Fld := ⟨0, 0⟩
/-- SRC_EN of TRC_CTRL. -/
def fTrcCtrlSrcEn : Fld := ⟨4, 1⟩
/-- TRC_MARKER_LO (R534). -/
def oTrcMarkerLo : Nat := 0x84108
/-- VALUE of TRC_MARKER_LO. -/
def fTrcMarkerLoValue : Fld := ⟨31, 0⟩
/-- TRC_MARKER_HI (R534). -/
def oTrcMarkerHi : Nat := 0x8410C
/-- VALUE of TRC_MARKER_HI. -/
def fTrcMarkerHiValue : Fld := ⟨31, 0⟩
/-- TRC_LOSS (R537). -/
def oTrcLoss (i : Nat) : Nat := 0x84120 + 0x4 * i
/-- PACKETS of TRC_LOSS. -/
def fTrcLossPackets : Fld := ⟨31, 0⟩
/-- DUMP_BASE_LO (R544). -/
def oDumpBaseLo : Nat := 0x84200
/-- ADDR of DUMP_BASE_LO. -/
def fDumpBaseLoAddr : Fld := ⟨31, 12⟩
/-- DUMP_BASE_HI (R544). -/
def oDumpBaseHi : Nat := 0x84204
/-- ADDR of DUMP_BASE_HI. -/
def fDumpBaseHiAddr : Fld := ⟨15, 0⟩
/-- DUMP_CTRL (R544). -/
def oDumpCtrl : Nat := 0x84208
/-- DUMP_LOG2 of DUMP_CTRL. -/
def fDumpCtrlDumpLog2 : Fld := ⟨4, 0⟩
/-- DUMP_RCLASS of DUMP_CTRL. -/
def fDumpCtrlDumpRclass : Fld := ⟨7, 5⟩
/-- DUMP_WR (R544). -/
def oDumpWr : Nat := 0x8420C
/-- BYTES of DUMP_WR. -/
def fDumpWrBytes : Fld := ⟨31, 0⟩
/-- DUMP_RD (R545). -/
def oDumpRd : Nat := 0x84210
/-- BYTES of DUMP_RD. -/
def fDumpRdBytes : Fld := ⟨31, 0⟩
/-- WATCH_CTL (R542). -/
def oWatchCtl (i : Nat) : Nat := 0x84400 + 0x10 * i
/-- EN of WATCH_CTL. -/
def fWatchCtlEn : Fld := ⟨0, 0⟩
/-- DIR of WATCH_CTL. -/
def fWatchCtlDir : Fld := ⟨1, 1⟩
/-- DEST of WATCH_CTL. -/
def fWatchCtlDest : Fld := ⟨2, 2⟩
/-- ONESHOT of WATCH_CTL. -/
def fWatchCtlOneshot : Fld := ⟨3, 3⟩
/-- LAYER_ANY of WATCH_CTL. -/
def fWatchCtlLayerAny : Fld := ⟨4, 4⟩
/-- OP_ANY of WATCH_CTL. -/
def fWatchCtlOpAny : Fld := ⟨5, 5⟩
/-- STEP_MODE of WATCH_CTL. -/
def fWatchCtlStepMode : Fld := ⟨7, 6⟩
/-- STEP_LOG2 of WATCH_CTL. -/
def fWatchCtlStepLog2 : Fld := ⟨12, 8⟩
/-- OWNER of WATCH_CTL. -/
def fWatchCtlOwner : Fld := ⟨18, 13⟩
/-- WATCH_ID (R542). -/
def oWatchId (i : Nat) : Nat := 0x84404 + 0x10 * i
/-- LAYER_ID of WATCH_ID. -/
def fWatchIdLayerId : Fld := ⟨19, 0⟩
/-- OPERATOR_ID of WATCH_ID. -/
def fWatchIdOperatorId : Fld := ⟨31, 20⟩
/-- WATCH_STEP (R542). -/
def oWatchStep (i : Nat) : Nat := 0x84408 + 0x10 * i
/-- STEP of WATCH_STEP. -/
def fWatchStepStep : Fld := ⟨31, 0⟩
/-- ARR_CYCLE (R520). -/
def oArrCycle (i j : Nat) : Nat := 0x88000 + 0x80 * i + 0x4 * j
/-- CYCLE of ARR_CYCLE. -/
def fArrCycleCycle : Fld := ⟨31, 0⟩
/-- ARR_CNT (R520). -/
def oArrCnt (i j : Nat) : Nat := 0x88008 + 0x80 * i + 0x8 * j
/-- CNT of ARR_CNT. -/
def fArrCntCnt : Fld := ⟨31, 0⟩
/-- ARR_CNT_HI (R520). -/
def oArrCntHi (i j : Nat) : Nat := 0x8800C + 0x80 * i + 0x8 * j
/-- CNT of ARR_CNT_HI. -/
def fArrCntHiCnt : Fld := ⟨15, 0⟩
/-- ARR_CTL (R522). -/
def oArrCtl (i j : Nat) : Nat := 0x88048 + 0x80 * i + 0x4 * j
/-- EVENT of ARR_CTL. -/
def fArrCtlEvent : Fld := ⟨7, 0⟩
/-- PART of ARR_CTL. -/
def fArrCtlPart : Fld := ⟨13, 8⟩
/-- PART_EN of ARR_CTL. -/
def fArrCtlPartEn : Fld := ⟨14, 14⟩
/-- OVF of ARR_CTL. -/
def fArrCtlOvf : Fld := ⟨15, 15⟩
/-- UNIT_CYCLE (R520). -/
def oUnitCycle (i j : Nat) : Nat := 0x8E000 + 0x80 * i + 0x4 * j
/-- CYCLE of UNIT_CYCLE. -/
def fUnitCycleCycle : Fld := ⟨31, 0⟩
/-- UNIT_CNT (R520). -/
def oUnitCnt (i j : Nat) : Nat := 0x8E008 + 0x80 * i + 0x8 * j
/-- CNT of UNIT_CNT. -/
def fUnitCntCnt : Fld := ⟨31, 0⟩
/-- UNIT_CNT_HI (R520). -/
def oUnitCntHi (i j : Nat) : Nat := 0x8E00C + 0x80 * i + 0x8 * j
/-- CNT of UNIT_CNT_HI. -/
def fUnitCntHiCnt : Fld := ⟨15, 0⟩
/-- UNIT_CTL (R522). -/
def oUnitCtl (i j : Nat) : Nat := 0x8E048 + 0x80 * i + 0x4 * j
/-- EVENT of UNIT_CTL. -/
def fUnitCtlEvent : Fld := ⟨7, 0⟩
/-- PART of UNIT_CTL. -/
def fUnitCtlPart : Fld := ⟨13, 8⟩
/-- PART_EN of UNIT_CTL. -/
def fUnitCtlPartEn : Fld := ⟨14, 14⟩
/-- OVF of UNIT_CTL. -/
def fUnitCtlOvf : Fld := ⟨15, 15⟩
/-- MSIX_TABLE (R598). -/
def oMsixTable (i : Nat) : Nat := 0x90000 + 0x4 * i
/-- WORD of MSIX_TABLE. -/
def fMsixTableWord : Fld := ⟨31, 0⟩
/-- MSIX_PBA (R598). -/
def oMsixPba (i : Nat) : Nat := 0x98000 + 0x4 * i
/-- PENDING of MSIX_PBA. -/
def fMsixPbaPending : Fld := ⟨31, 0⟩

end Sys2Proof.Machine
end

