-- ==== Sys2Proof/Machine/RegMap.lean ====
section
/-! DEFINITION. The register map: every family of registers with its place, its fields, their access codes and reset values,
and the resets that restore them (R12, R597, R600). -/

namespace Sys2Proof.Machine

/-- Access codes (R12). -/
inductive Acc where
  | ro | rw | wo | w1c | w1s | rwo | rws
  deriving DecidableEq, Repr

/-- A field's reset value: a number, or a value that the variant, the straps, the fuses or the index decide. -/
inductive Rst where
  | lit (n : Nat)
  | variant | stepping | serialLo | serialHi | capW | throttleC | tripC | compat7 | boot | slot | role | minRate | msixWord
  deriving DecidableEq, Repr

/-- The resets that restore a family's fields (R597): none (fuses); power-on; power-on and warm; with partition reset;
power-on and warm with the partition reset of the partition whose ARRAY_MASK holds the array (SAT_COUNT) or of the partition
whose counter it is (busy counters); the PCI Express structures. -/
inductive Dom where
  | fused | po | pow | powp | powa | powb | pcie
  deriving DecidableEq, Repr

/-- A field of a register. -/
structure FldDef where
  fld : Fld
  acc : Acc
  rst : Rst
  deriving DecidableEq, Repr

/-- A register family: base offset, (stride, count) of its indices, reset domain, fields. -/
structure RegFam where
  id : RegId
  base : Nat
  dims : List (Nat × Nat)
  dom : Dom
  flds : List FldDef
  deriving DecidableEq, Repr

/-- Registers of the identity block. -/
def identityFams : List RegFam := [
  ⟨.id, 0x0, [], .fused,
    [⟨fIdPart, .ro, .lit 0x0960⟩, ⟨fIdVariant, .ro, .variant⟩, ⟨fIdStepping, .ro, .stepping⟩]⟩,
  ⟨.fwVersion, 0x4, [], .pow,
    [⟨fFwVersionVersion, .ro, .lit 0⟩]⟩,
  ⟨.serialLo, 0x8, [], .fused,
    [⟨fSerialLoSerial, .ro, .serialLo⟩]⟩,
  ⟨.serialHi, 0xC, [], .fused,
    [⟨fSerialHiSerial, .ro, .serialHi⟩]⟩,
  ⟨.lock, 0x10, [], .po,
    [⟨fLockSafetyLock, .rwo, .lit 0⟩]⟩,
  ⟨.lockedWrites, 0x14, [], .po,
    [⟨fLockedWritesCount, .ro, .lit 0⟩]⟩]

/-- Registers of the clock block. -/
def clockFams : List RegFam := [
  ⟨.timeLo, 0x1000, [], .po,
    [⟨fTimeLoTime, .ro, .lit 0⟩]⟩,
  ⟨.timeHi, 0x1004, [], .po,
    [⟨fTimeHiTime, .ro, .lit 0⟩]⟩,
  ⟨.timeTrim, 0x1008, [], .po,
    [⟨fTimeTrimTrim, .rw, .lit 0⟩]⟩,
  ⟨.aclkCtrl, 0x100C, [], .pow,
    [⟨fAclkCtrlDiv, .ro, .lit 4⟩, ⟨fAclkCtrlDivFloor, .rw, .lit 4⟩, ⟨fAclkCtrlPllSpare, .ro, .lit 0⟩]⟩,
  ⟨.pwrCap, 0x1010, [], .po,
    [⟨fPwrCapCapW, .rws, .capW⟩]⟩,
  ⟨.thermCfg, 0x1014, [], .po,
    [⟨fThermCfgThrottleC, .rw, .throttleC⟩, ⟨fThermCfgTripC, .ro, .tripC⟩]⟩,
  ⟨.pwrState, 0x1018, [], .po,
    [⟨fPwrStateState, .ro, .lit 0⟩, ⟨fPwrStateReq, .wo, .lit 0⟩, ⟨fPwrStatePwrErr, .w1c, .lit 0⟩, ⟨fPwrStateIdleUs, .rw, .lit 100⟩]⟩,
  ⟨.sleepTimer, 0x101C, [], .po,
    [⟨fSleepTimerWakeS, .rw, .lit 0⟩]⟩,
  ⟨.resetCtrl, 0x1020, [], .po,
    [⟨fResetCtrlWarm, .w1s, .lit 0⟩]⟩,
  ⟨.partReset, 0x1024, [(0x4, 2)], .po,
    [⟨fPartResetReset, .w1s, .lit 0⟩]⟩,
  ⟨.resetCause, 0x102C, [], .po,
    [⟨fResetCauseCause, .ro, .lit 0⟩]⟩,
  ⟨.straps, 0x1030, [], .po,
    [⟨fStrapsCompat7, .ro, .compat7⟩, ⟨fStrapsBoot, .ro, .boot⟩, ⟨fStrapsSlot, .ro, .slot⟩, ⟨fStrapsRole, .ro, .role⟩]⟩,
  ⟨.bootCtrl, 0x1034, [], .pow,
    [⟨fBootCtrlGo, .w1s, .lit 0⟩, ⟨fBootCtrlBootErr, .w1c, .lit 0⟩, ⟨fBootCtrlSource, .ro, .lit 0⟩, ⟨fBootCtrlLen, .rw, .lit 0⟩]⟩]

/-- Registers of the position block. -/
def positionFams : List RegFam := [
  ⟨.posCtrl, 0x2000, [], .po,
    [⟨fPosCtrlFilt, .rw, .lit 4⟩, ⟨fPosCtrlEn0, .rw, .lit 0⟩, ⟨fPosCtrlEn1, .rw, .lit 0⟩, ⟨fPosCtrlInv0, .rw, .lit 0⟩, ⟨fPosCtrlInv1, .rw, .lit 0⟩, ⟨fPosCtrlLeadMode, .rw, .lit 0⟩, ⟨fPosCtrlLead, .ro, .lit 0⟩]⟩,
  ⟨.encScale, 0x2004, [(0x4, 2)], .po,
    [⟨fEncScaleScale, .rw, .lit 0x10000⟩]⟩,
  ⟨.posLo, 0x200C, [], .po,
    [⟨fPosLoPos, .ro, .lit 0⟩]⟩,
  ⟨.posHi, 0x2010, [], .po,
    [⟨fPosHiPos, .ro, .lit 0⟩]⟩,
  ⟨.posLoadLo, 0x2014, [], .po,
    [⟨fPosLoadLoLoadPos, .rw, .lit 0⟩]⟩,
  ⟨.posLoadHi, 0x2018, [], .po,
    [⟨fPosLoadHiLoadPos, .rw, .lit 0⟩, ⟨fPosLoadHiLoad, .w1s, .lit 0⟩]⟩,
  ⟨.speed, 0x201C, [], .po,
    [⟨fSpeedSpeed, .ro, .lit 0⟩]⟩,
  ⟨.slipCfg, 0x2020, [], .po,
    [⟨fSlipCfgSlipAbs, .rw, .lit 16⟩, ⟨fSlipCfgSlipPm, .rw, .lit 20⟩]⟩,
  ⟨.posStatus, 0x2024, [], .po,
    [⟨fPosStatusSlip, .w1c, .lit 0⟩, ⟨fPosStatusStepOvf, .w1c, .lit 0⟩, ⟨fPosStatusSlipCount, .ro, .lit 0⟩, ⟨fPosStatusEncErrors, .ro, .lit 0⟩, ⟨fPosStatusZ0, .ro, .lit 0⟩, ⟨fPosStatusZ1, .ro, .lit 0⟩]⟩,
  ⟨.speedGate, 0x2028, [], .po,
    [⟨fSpeedGateOnTh, .rw, .lit 32⟩, ⟨fSpeedGateOffTh, .rw, .lit 16⟩]⟩,
  ⟨.illumCtrl, 0x202C, [], .po,
    [⟨fIllumCtrlEn, .rw, .lit 0⟩, ⟨fIllumCtrlGate, .rw, .lit 15⟩]⟩,
  ⟨.wakeCfg, 0x2030, [], .po,
    [⟨fWakeCfgWakeEdges, .rw, .lit 4⟩, ⟨fWakeCfgWakeEn, .rw, .lit 1⟩]⟩,
  ⟨.stepAcc, 0x2034, [], .po,
    [⟨fStepAccSteps, .ro, .lit 0⟩]⟩,
  ⟨.trigRecBaseLo, 0x2040, [], .po,
    [⟨fTrigRecBaseLoAddr, .rw, .lit 0⟩]⟩,
  ⟨.trigRecBaseHi, 0x2044, [], .po,
    [⟨fTrigRecBaseHiAddr, .rw, .lit 0⟩, ⟨fTrigRecBaseHiLog2, .rw, .lit 8⟩]⟩,
  ⟨.trigRecCount, 0x2048, [], .po,
    [⟨fTrigRecCountCount, .ro, .lit 0⟩]⟩,
  ⟨.ilkCfg, 0x2080, [], .po,
    [⟨fIlkCfgDisc, .rw, .lit 100000⟩]⟩,
  ⟨.ilkStatus, 0x2084, [], .po,
    [⟨fIlkStatusState, .ro, .lit 0⟩, ⟨fIlkStatusA, .ro, .lit 0⟩, ⟨fIlkStatusB, .ro, .lit 1⟩, ⟨fIlkStatusLatch, .w1c, .lit 0⟩]⟩,
  ⟨.trigCfg, 0x2100, [(0x20, 16)], .po,
    [⟨fTrigCfgEn, .rw, .lit 0⟩, ⟨fTrigCfgDir, .rw, .lit 0⟩]⟩,
  ⟨.trigPitch, 0x2104, [(0x20, 16)], .po,
    [⟨fTrigPitchPitch, .rw, .lit 8⟩]⟩,
  ⟨.trigTime, 0x2108, [(0x20, 16)], .po,
    [⟨fTrigTimeDelay, .rw, .lit 0⟩, ⟨fTrigTimeWidth, .rw, .lit 25⟩]⟩,
  ⟨.trigNextLo, 0x210C, [(0x20, 16)], .po,
    [⟨fTrigNextLoNext, .rw, .lit 0⟩]⟩,
  ⟨.trigNextHi, 0x2110, [(0x20, 16)], .po,
    [⟨fTrigNextHiNext, .rw, .lit 0⟩]⟩,
  ⟨.trigLine, 0x2114, [(0x20, 16)], .po,
    [⟨fTrigLineLine, .rw, .lit 0⟩]⟩,
  ⟨.trigDrop, 0x2118, [(0x20, 16)], .po,
    [⟨fTrigDropDropped, .ro, .lit 0⟩, ⟨fTrigDropHeld, .ro, .lit 0⟩]⟩]

/-- Registers of the journal block. -/
def journalFams : List RegFam := [
  ⟨.jnlStatus, 0x4000, [], .po,
    [⟨fJnlStatusJaFault, .ro, .lit 0⟩, ⟨fJnlStatusJbFault, .ro, .lit 0⟩, ⟨fJnlStatusPfailSeen, .w1c, .lit 0⟩, ⟨fJnlStatusPostErr, .w1c, .lit 0⟩, ⟨fJnlStatusQueued, .ro, .lit 0⟩, ⟨fJnlStatusRescan, .w1s, .lit 0⟩]⟩,
  ⟨.jnlNextSeq, 0x4004, [], .po,
    [⟨fJnlNextSeqSeq, .ro, .lit 0⟩]⟩,
  ⟨.jnlOldestSeq, 0x4008, [], .po,
    [⟨fJnlOldestSeqSeq, .ro, .lit 0⟩]⟩,
  ⟨.jnlPost, 0x400C, [], .po,
    [⟨fJnlPostType, .wo, .lit 0⟩, ⟨fJnlPostPlen, .wo, .lit 0⟩]⟩,
  ⟨.jnlPosted, 0x4010, [], .po,
    [⟨fJnlPostedPosted, .ro, .lit 0⟩]⟩,
  ⟨.jnlDrops, 0x4014, [], .po,
    [⟨fJnlDropsDrops, .ro, .lit 0⟩]⟩,
  ⟨.jnlRaddr, 0x4018, [], .po,
    [⟨fJnlRaddrAddr, .rw, .lit 0⟩, ⟨fJnlRaddrDev, .rw, .lit 0⟩]⟩,
  ⟨.faultLog, 0x4100, [(0x8, 16)], .po,
    [⟨fFaultLogCode, .ro, .lit 0⟩]⟩,
  ⟨.faultTime, 0x4104, [(0x8, 16)], .po,
    [⟨fFaultTimeTimeMs, .ro, .lit 0⟩]⟩,
  ⟨.jnlStage, 0x5000, [(0x4, 1024)], .po,
    [⟨fJnlStageBytes, .rw, .lit 0⟩]⟩,
  ⟨.jnlRwin, 0x6000, [(0x4, 1024)], .po,
    [⟨fJnlRwinBytes, .ro, .lit 0⟩]⟩]

/-- Registers of the motif block. -/
def motifFams : List RegFam := [
  ⟨.deviceId, 0x8000, [], .po,
    [⟨fDeviceIdSlot, .ro, .slot⟩, ⟨fDeviceIdDomain, .rwo, .lit 0⟩, ⟨fDeviceIdDomainSet, .ro, .lit 0⟩]⟩,
  ⟨.bandOwner, 0x8004, [], .pow,
    [⟨fBandOwnerOwner0, .rw, .lit 0⟩, ⟨fBandOwnerOwner1, .rw, .lit 0⟩, ⟨fBandOwnerOwner2, .rw, .lit 0⟩, ⟨fBandOwnerOwner3, .rw, .lit 0⟩, ⟨fBandOwnerOwner4, .rw, .lit 0⟩]⟩,
  ⟨.bandOwnerHi, 0x8008, [], .pow,
    [⟨fBandOwnerHiOwner5, .rw, .lit 0⟩, ⟨fBandOwnerHiOwner6, .rw, .lit 0⟩, ⟨fBandOwnerHiOwner7, .rw, .lit 0⟩, ⟨fBandOwnerHiOwner8, .rw, .lit 0⟩, ⟨fBandOwnerHiOwner9, .rw, .lit 0⟩]⟩,
  ⟨.bandOwnerTop, 0x800C, [], .pow,
    [⟨fBandOwnerTopOwner10, .rw, .lit 0⟩, ⟨fBandOwnerTopOwner11, .rw, .lit 0⟩]⟩,
  ⟨.spareMap, 0x8010, [(0x10, 4), (0x4, 4)], .po,
    [⟨fSpareMapLogical, .ro, .lit 0⟩, ⟨fSpareMapFailed, .ro, .lit 0⟩, ⟨fSpareMapValid, .ro, .lit 0⟩]⟩,
  ⟨.availMask, 0x8050, [(0x4, 6)], .po,
    [⟨fAvailMaskAvail, .ro, .lit 0xFFFFFFFF⟩]⟩,
  ⟨.arrayMask, 0x8100, [(0x40, 64), (0x4, 6)], .pow,
    [⟨fArrayMaskMask, .rw, .lit 0⟩]⟩,
  ⟨.partCtrl, 0x8118, [(0x40, 64)], .pow,
    [⟨fPartCtrlEnable, .rw, .lit 0⟩, ⟨fPartCtrlBusy, .ro, .lit 0⟩, ⟨fPartCtrlOverlapErr, .w1c, .lit 0⟩, ⟨fPartCtrlDomainMembers, .rw, .lit 0⟩]⟩]

/-- Registers of the pair block. -/
def pairFams : List RegFam := [
  ⟨.pairCtrl, 0xA000, [], .pow,
    [⟨fPairCtrlPairEn, .rw, .lit 0⟩, ⟨fPairCtrlPeerSlot, .rw, .lit 0⟩, ⟨fPairCtrlSwitchover, .w1s, .lit 0⟩, ⟨fPairCtrlRejoin, .w1s, .lit 0⟩]⟩,
  ⟨.pairParts, 0xA004, [(0x4, 2)], .pow,
    [⟨fPairPartsParts, .rw, .lit 0⟩]⟩,
  ⟨.pairCkptBaseLo, 0xA00C, [], .pow,
    [⟨fPairCkptBaseLoAddr, .rw, .lit 0⟩]⟩,
  ⟨.pairCkptBaseHi, 0xA010, [], .pow,
    [⟨fPairCkptBaseHiAddr, .rw, .lit 0⟩]⟩,
  ⟨.pairStatus, 0xA014, [], .pow,
    [⟨fPairStatusRole, .ro, .lit 0⟩, ⟨fPairStatusHbOk, .ro, .lit 0⟩, ⟨fPairStatusLinksOk, .ro, .lit 0⟩, ⟨fPairStatusLinkLost, .w1c, .lit 0⟩, ⟨fPairStatusHbLost, .w1c, .lit 0⟩, ⟨fPairStatusBlocked, .w1c, .lit 0⟩]⟩,
  ⟨.pairGen, 0xA018, [], .pow,
    [⟨fPairGenGen, .ro, .lit 0⟩]⟩,
  ⟨.pairFrame, 0xA01C, [], .pow,
    [⟨fPairFrameFrame, .ro, .lit 0⟩]⟩,
  ⟨.breachCounts, 0xA020, [], .pow,
    [⟨fBreachCountsRank2, .ro, .lit 0⟩, ⟨fBreachCountsRank3, .ro, .lit 0⟩, ⟨fBreachCountsRank4, .ro, .lit 0⟩, ⟨fBreachCountsRank5, .ro, .lit 0⟩]⟩,
  ⟨.cpStatus, 0xA040, [(0x4, 5)], .po,
    [⟨fCpStatusActive, .ro, .lit 7⟩, ⟨fCpStatusSpareUsed, .ro, .lit 0⟩, ⟨fCpStatusFaults, .ro, .lit 0⟩]⟩]

/-- Registers of the sparse block. -/
def sparseFams : List RegFam := [
  ⟨.spThresh, 0xB000, [(0x4, 16)], .pow,
    [⟨fSpThreshThresh, .rw, .lit 0xC000⟩]⟩,
  ⟨.scatterStall, 0xB040, [(0x4, 12)], .pow,
    [⟨fScatterStallStalls, .ro, .lit 0⟩]⟩,
  ⟨.spFaults, 0xB070, [], .pow,
    [⟨fSpFaultsPattern, .ro, .lit 0⟩, ⟨fSpFaultsRange, .ro, .lit 0⟩]⟩,
  ⟨.spFallbacks, 0xB074, [], .pow,
    [⟨fSpFallbacksGroups, .ro, .lit 0⟩]⟩]

/-- Registers of the pred block. -/
def predFams : List RegFam := [
  ⟨.skippedOutputs, 0xC000, [(0x10, 64)], .pow,
    [⟨fSkippedOutputsLow, .ro, .lit 0⟩]⟩,
  ⟨.skippedOutputsHi, 0xC004, [(0x10, 64)], .pow,
    [⟨fSkippedOutputsHiHigh, .ro, .lit 0⟩]⟩,
  ⟨.staleMaps, 0xC008, [(0x10, 64)], .pow,
    [⟨fStaleMapsStale, .ro, .lit 0⟩, ⟨fStaleMapsCorrelation, .ro, .lit 0⟩]⟩]

/-- Registers of the store block. -/
def storeFams : List RegFam := [
  ⟨.rowRetry, 0xD000, [(0x10, 192)], .pow,
    [⟨fRowRetryRetries, .ro, .lit 0⟩]⟩,
  ⟨.rowCollision, 0xD004, [(0x10, 192)], .pow,
    [⟨fRowCollisionCollisions, .ro, .lit 0⟩]⟩,
  ⟨.wordRetry, 0xD008, [(0x10, 192)], .pow,
    [⟨fWordRetryRetries, .ro, .lit 0⟩]⟩,
  ⟨.storeParity, 0xD00C, [(0x10, 192)], .pow,
    [⟨fStoreParityRowParity, .ro, .lit 0⟩, ⟨fStoreParityWordParity, .ro, .lit 0⟩]⟩,
  ⟨.bandRetry, 0xDC00, [(0x8, 12)], .pow,
    [⟨fBandRetryRetries, .ro, .lit 0⟩]⟩,
  ⟨.bandParity, 0xDC04, [(0x8, 12)], .pow,
    [⟨fBandParityLineParity, .ro, .lit 0⟩]⟩]

/-- Registers of the vector block. -/
def vectorFams : List RegFam := [
  ⟨.vecSat, 0xE000, [(0x4, 12)], .pow,
    [⟨fVecSatCount, .ro, .lit 0⟩]⟩]

/-- Registers of the hbm block. -/
def hbmFams : List RegFam := [
  ⟨.hbmCtrl, 0x10000, [], .pow,
    [⟨fHbmCtrlScrubEn, .rw, .lit 1⟩, ⟨fHbmCtrlScrubPeriod, .rw, .lit 12⟩, ⟨fHbmCtrlRetireThresh, .rw, .lit 8⟩, ⟨fHbmCtrlClassErr, .w1c, .lit 0⟩, ⟨fHbmCtrlRegionErr, .w1c, .lit 0⟩]⟩,
  ⟨.hbmMisc, 0x10004, [], .pow,
    [⟨fHbmMiscHostRclass, .rw, .lit 0⟩, ⟨fHbmMiscFetchRclass, .rw, .lit 0⟩]⟩,
  ⟨.hbmClass, 0x10040, [(0x4, 8)], .pow,
    [⟨fHbmClassMinRate, .rws, .minRate⟩, ⟨fHbmClassFtSlots, .rws, .lit 0⟩]⟩,
  ⟨.hbmRegion, 0x10100, [(0x4, 8)], .pow,
    [⟨fHbmRegionEnable, .rws, .lit 0⟩, ⟨fHbmRegionBase6, .rws, .lit 0⟩, ⟨fHbmRegionNgib, .rws, .lit 0⟩]⟩,
  ⟨.hbmEcc, 0x10200, [(0x10, 6)], .pow,
    [⟨fHbmEccCorrected, .ro, .lit 0⟩]⟩,
  ⟨.hbmUnc, 0x10204, [(0x10, 6)], .pow,
    [⟨fHbmUncUncorrectable, .ro, .lit 0⟩, ⟨fHbmUncRetired, .ro, .lit 0⟩, ⟨fHbmUncRetireFull, .ro, .lit 0⟩]⟩,
  ⟨.retireEntry, 0x11000, [(0x200, 6), (0x4, 128)], .pow,
    [⟨fRetireEntryPage, .ro, .lit 0⟩, ⟨fRetireEntryUncorr, .ro, .lit 0⟩, ⟨fRetireEntryValid, .ro, .lit 0⟩]⟩]

/-- Registers of the hyphor block. -/
def hyphorFams : List RegFam := [
  ⟨.hyCtrl, 0x12000, [], .pow,
    [⟨fHyCtrlSlots, .rw, .lit 0⟩, ⟨fHyCtrlEnableErr, .w1c, .lit 0⟩]⟩,
  ⟨.hyTimeout, 0x12004, [], .pow,
    [⟨fHyTimeoutRemoteTimeout, .rw, .lit 1000⟩]⟩,
  ⟨.hyTime, 0x12008, [], .pow,
    [⟨fHyTimeAligned, .ro, .lit 0⟩, ⟨fHyTimeMaster, .ro, .lit 0⟩, ⟨fHyTimeHops, .ro, .lit 0⟩]⟩,
  ⟨.hyXdom, 0x12010, [(0x4, 2)], .pow,
    [⟨fHyXdomXdomEn, .rw, .lit 0⟩]⟩,
  ⟨.narrowCfg, 0x12100, [(0x4, 64)], .pow,
    [⟨fNarrowCfgScNum, .rw, .lit 0⟩, ⟨fNarrowCfgFmt, .rw, .lit 0⟩]⟩,
  ⟨.spareCfg, 0x12200, [(0x4, 2)], .pow,
    [⟨fSpareCfgPeerDev, .rw, .lit 0⟩, ⟨fSpareCfgPeerLink, .rw, .lit 0⟩, ⟨fSpareCfgStandsFor, .ro, .lit 0x3F⟩]⟩,
  ⟨.linkCtrl, 0x12400, [(0x10, 48)], .pow,
    [⟨fLinkCtrlEnable, .rw, .lit 0⟩, ⟨fLinkCtrlReset, .w1s, .lit 0⟩]⟩,
  ⟨.linkStatus, 0x12404, [(0x10, 48)], .pow,
    [⟨fLinkStatusState, .ro, .lit 0⟩, ⟨fLinkStatusLaneOut, .ro, .lit 7⟩, ⟨fLinkStatusPeerDev, .ro, .lit 0⟩, ⟨fLinkStatusPeerLink, .ro, .lit 0⟩]⟩,
  ⟨.linkErr, 0x12408, [(0x10, 48)], .pow,
    [⟨fLinkErrCrcErrors, .ro, .lit 0⟩, ⟨fLinkErrReplays, .ro, .lit 0⟩]⟩,
  ⟨.linkFec, 0x1240C, [(0x10, 48)], .pow,
    [⟨fLinkFecCorrected, .ro, .lit 0⟩]⟩]

/-- Registers of the engine block. -/
def engineFams : List RegFam := [
  ⟨.event, 0x20000, [(0x200, 64), (0x4, 64)], .powp,
    [⟨fEventCount, .rw, .lit 0⟩]⟩,
  ⟨.eventErr, 0x20100, [(0x200, 64), (0x4, 2)], .powp,
    [⟨fEventErrErr, .w1c, .lit 0⟩]⟩,
  ⟨.engCtrl, 0x20108, [(0x200, 64)], .powp,
    [⟨fEngCtrlFtEnable, .rw, .lit 0⟩]⟩,
  ⟨.deadlineMisses, 0x2010C, [(0x200, 64)], .powp,
    [⟨fDeadlineMissesMisses, .ro, .lit 0⟩]⟩,
  ⟨.abortCounts, 0x20110, [(0x200, 64)], .powp,
    [⟨fAbortCountsAborted, .ro, .lit 0⟩, ⟨fAbortCountsLate, .ro, .lit 0⟩]⟩]

/-- Registers of the scale block. -/
def scaleFams : List RegFam := [
  ⟨.scCtrl, 0x30000, [(0x40, 1024)], .pow,
    [⟨fScCtrlEnable, .rw, .lit 0⟩, ⟨fScCtrlPolicy, .rw, .lit 0⟩, ⟨fScCtrlWindow, .rw, .lit 0⟩, ⟨fScCtrlClipT, .rw, .lit 10⟩, ⟨fScCtrlOwner, .rw, .lit 0⟩]⟩,
  ⟨.scInit, 0x30004, [(0x40, 1024)], .pow,
    [⟨fScInitInitMax, .rw, .lit 0x3C00⟩]⟩,
  ⟨.scStep, 0x30008, [(0x40, 1024)], .pow,
    [⟨fScStepCurStep, .ro, .lit 0⟩]⟩,
  ⟨.scState, 0x3000C, [(0x40, 1024)], .pow,
    [⟨fScStateCurMax, .ro, .lit 0⟩, ⟨fScStateScale, .ro, .lit 0⟩]⟩,
  ⟨.scClipped, 0x30010, [(0x40, 1024)], .pow,
    [⟨fScClippedClipped, .ro, .lit 0⟩]⟩,
  ⟨.scEvents, 0x30014, [(0x40, 1024)], .pow,
    [⟨fScEventsSatCount, .ro, .lit 0⟩, ⟨fScEventsUnderCount, .ro, .lit 0⟩]⟩,
  ⟨.scStatus, 0x30018, [(0x40, 1024)], .pow,
    [⟨fScStatusSatSticky, .w1c, .lit 0⟩, ⟨fScStatusUnderSticky, .w1c, .lit 0⟩, ⟨fScStatusStale, .w1c, .lit 0⟩, ⟨fScStatusRetried, .w1c, .lit 0⟩, ⟨fScStatusUnderRun, .ro, .lit 0⟩]⟩,
  ⟨.scHist, 0x30020, [(0x40, 1024), (0x4, 8)], .pow,
    [⟨fScHistLo, .ro, .lit 0⟩, ⟨fScHistHi, .ro, .lit 0⟩]⟩]

/-- Registers of the host block. -/
def hostFams : List RegFam := [
  ⟨.dbBaseLo, 0x40000, [(0x1000, 64)], .powp,
    [⟨fDbBaseLoAddr, .rw, .lit 0⟩]⟩,
  ⟨.dbBaseHi, 0x40004, [(0x1000, 64)], .powp,
    [⟨fDbBaseHiAddr, .rw, .lit 0⟩]⟩,
  ⟨.poll, 0x40008, [(0x1000, 64)], .powp,
    [⟨fPollInterval, .rw, .lit 200⟩]⟩,
  ⟨.vfVectors, 0x4000C, [(0x1000, 1)], .powp,
    [⟨fVfVectorsCount, .rw, .lit 32⟩]⟩,
  ⟨.eqBaseLo, 0x40010, [(0x1000, 64)], .powp,
    [⟨fEqBaseLoAddr, .rw, .lit 0⟩]⟩,
  ⟨.eqBaseHi, 0x40014, [(0x1000, 64)], .powp,
    [⟨fEqBaseHiAddr, .rw, .lit 0⟩]⟩,
  ⟨.eqCtrl, 0x40018, [(0x1000, 64)], .powp,
    [⟨fEqCtrlEnable, .rw, .lit 0⟩, ⟨fEqCtrlVector, .rw, .lit 0⟩]⟩,
  ⟨.eqLost, 0x4001C, [(0x1000, 64)], .powp,
    [⟨fEqLostLost, .ro, .lit 0⟩]⟩,
  ⟨.winBase, 0x40020, [(0x1000, 1)], .powp,
    [⟨fWinBaseBase, .rw, .lit 0⟩]⟩,
  ⟨.sqBaseLo, 0x40100, [(0x1000, 64), (0x10, 16)], .powp,
    [⟨fSqBaseLoAddr, .rw, .lit 0⟩]⟩,
  ⟨.sqBaseHi, 0x40104, [(0x1000, 64), (0x10, 16)], .powp,
    [⟨fSqBaseHiAddr, .rw, .lit 0⟩]⟩,
  ⟨.sqCtrl, 0x40108, [(0x1000, 64), (0x10, 16)], .powp,
    [⟨fSqCtrlEnable, .rw, .lit 0⟩, ⟨fSqCtrlLog2size, .rw, .lit 0⟩, ⟨fSqCtrlCq, .rw, .lit 0⟩, ⟨fSqCtrlLegacy7, .rw, .compat7⟩, ⟨fSqCtrlLegacyPbRow, .rw, .lit 0⟩, ⟨fSqCtrlLegacyPbSize, .rw, .lit 0⟩]⟩,
  ⟨.sqState, 0x4010C, [(0x1000, 64), (0x10, 16)], .powp,
    [⟨fSqStateHead, .ro, .lit 0⟩, ⟨fSqStateExpGen, .ro, .lit 1⟩]⟩,
  ⟨.cqBaseLo, 0x40200, [(0x1000, 64), (0x10, 16)], .powp,
    [⟨fCqBaseLoAddr, .rw, .lit 0⟩]⟩,
  ⟨.cqBaseHi, 0x40204, [(0x1000, 64), (0x10, 16)], .powp,
    [⟨fCqBaseHiAddr, .rw, .lit 0⟩]⟩,
  ⟨.cqCtrl, 0x40208, [(0x1000, 64), (0x10, 16)], .powp,
    [⟨fCqCtrlEnable, .rw, .lit 0⟩, ⟨fCqCtrlLog2size, .rw, .lit 0⟩, ⟨fCqCtrlVector, .rw, .lit 0⟩]⟩,
  ⟨.cqCoal, 0x4020C, [(0x1000, 64), (0x10, 16)], .powp,
    [⟨fCqCoalCoalCount, .rw, .lit 1⟩, ⟨fCqCoalCoalTime, .rw, .lit 0⟩]⟩,
  ⟨.staleEntries, 0x40300, [(0x1000, 64)], .powp,
    [⟨fStaleEntriesStops, .ro, .lit 0⟩]⟩,
  ⟨.vfMsixTable, 0x41800, [(0x1000, 63), (0x4, 128)], .pcie,
    [⟨fVfMsixTableWord, .rw, .msixWord⟩]⟩,
  ⟨.vfMsixPba, 0x41A00, [(0x1000, 63)], .pcie,
    [⟨fVfMsixPbaPending, .ro, .lit 0⟩]⟩]

/-- Registers of the obs block. -/
def obsFams : List RegFam := [
  ⟨.obsCtrl, 0x80000, [], .pow,
    [⟨fObsCtrlFreeze, .w1s, .lit 0⟩, ⟨fObsCtrlRelease, .w1s, .lit 0⟩, ⟨fObsCtrlFrozen, .ro, .lit 0⟩, ⟨fObsCtrlDomainFreeze, .rw, .lit 0⟩, ⟨fObsCtrlLate, .w1c, .lit 0⟩]⟩,
  ⟨.freezeTime, 0x80008, [(0x4, 2)], .pow,
    [⟨fFreezeTimeTime, .ro, .lit 0⟩]⟩,
  ⟨.satCount, 0x81000, [(0x4, 192)], .powa,
    [⟨fSatCountCount, .ro, .lit 0⟩]⟩,
  ⟨.busyMatrix, 0x82000, [(0x20, 64), (0x4, 2)], .powb,
    [⟨fBusyMatrixCount, .ro, .lit 0⟩]⟩,
  ⟨.busyVector, 0x82008, [(0x20, 64), (0x4, 2)], .powb,
    [⟨fBusyVectorCount, .ro, .lit 0⟩]⟩,
  ⟨.busyXfer, 0x82010, [(0x20, 64), (0x4, 2)], .powb,
    [⟨fBusyXferCount, .ro, .lit 0⟩]⟩,
  ⟨.diePower, 0x83000, [(0x4, 5)], .pow,
    [⟨fDiePowerMw, .ro, .lit 0⟩]⟩,
  ⟨.pkgPower, 0x83014, [], .pow,
    [⟨fPkgPowerMw, .ro, .lit 0⟩]⟩,
  ⟨.temp, 0x83100, [(0x20, 5), (0x4, 8)], .pow,
    [⟨fTempTemp, .ro, .lit 0⟩]⟩,
  ⟨.tempMax, 0x831A0, [(0x4, 5)], .pow,
    [⟨fTempMaxTemp, .ro, .lit 0⟩]⟩,
  ⟨.smpCtrl, 0x84000, [], .pow,
    [⟨fSmpCtrlSmpEn, .rw, .lit 0⟩, ⟨fSmpCtrlSmpLog2, .rw, .lit 16⟩, ⟨fSmpCtrlSmpDest, .rw, .lit 0⟩, ⟨fSmpCtrlSmpRlog2, .rw, .lit 12⟩]⟩,
  ⟨.smpSeed, 0x84004, [], .pow,
    [⟨fSmpSeedSeed, .rw, .lit 1⟩]⟩,
  ⟨.smpBaseLo, 0x84008, [], .pow,
    [⟨fSmpBaseLoAddr, .rw, .lit 0⟩]⟩,
  ⟨.smpBaseHi, 0x8400C, [], .pow,
    [⟨fSmpBaseHiAddr, .rw, .lit 0⟩]⟩,
  ⟨.trcCtrl, 0x84100, [], .pow,
    [⟨fTrcCtrlEn, .rw, .lit 0⟩, ⟨fTrcCtrlSrcEn, .rw, .lit 0⟩]⟩,
  ⟨.trcMarkerLo, 0x84108, [], .pow,
    [⟨fTrcMarkerLoValue, .wo, .lit 0⟩]⟩,
  ⟨.trcMarkerHi, 0x8410C, [], .pow,
    [⟨fTrcMarkerHiValue, .wo, .lit 0⟩]⟩,
  ⟨.trcLoss, 0x84120, [(0x4, 4)], .pow,
    [⟨fTrcLossPackets, .ro, .lit 0⟩]⟩,
  ⟨.dumpBaseLo, 0x84200, [], .pow,
    [⟨fDumpBaseLoAddr, .rw, .lit 0⟩]⟩,
  ⟨.dumpBaseHi, 0x84204, [], .pow,
    [⟨fDumpBaseHiAddr, .rw, .lit 0⟩]⟩,
  ⟨.dumpCtrl, 0x84208, [], .pow,
    [⟨fDumpCtrlDumpLog2, .rw, .lit 24⟩, ⟨fDumpCtrlDumpRclass, .rw, .lit 0⟩]⟩,
  ⟨.dumpWr, 0x8420C, [], .pow,
    [⟨fDumpWrBytes, .ro, .lit 0⟩]⟩,
  ⟨.dumpRd, 0x84210, [], .pow,
    [⟨fDumpRdBytes, .rw, .lit 0⟩]⟩,
  ⟨.watchCtl, 0x84400, [(0x10, 16)], .pow,
    [⟨fWatchCtlEn, .rw, .lit 0⟩, ⟨fWatchCtlDir, .rw, .lit 0⟩, ⟨fWatchCtlDest, .rw, .lit 0⟩, ⟨fWatchCtlOneshot, .rw, .lit 0⟩, ⟨fWatchCtlLayerAny, .rw, .lit 0⟩, ⟨fWatchCtlOpAny, .rw, .lit 0⟩, ⟨fWatchCtlStepMode, .rw, .lit 0⟩, ⟨fWatchCtlStepLog2, .rw, .lit 0⟩, ⟨fWatchCtlOwner, .rw, .lit 0⟩]⟩,
  ⟨.watchId, 0x84404, [(0x10, 16)], .pow,
    [⟨fWatchIdLayerId, .rw, .lit 0⟩, ⟨fWatchIdOperatorId, .rw, .lit 0⟩]⟩,
  ⟨.watchStep, 0x84408, [(0x10, 16)], .pow,
    [⟨fWatchStepStep, .rw, .lit 0⟩]⟩,
  ⟨.arrCycle, 0x88000, [(0x80, 192), (0x4, 2)], .pow,
    [⟨fArrCycleCycle, .ro, .lit 0⟩]⟩,
  ⟨.arrCnt, 0x88008, [(0x80, 192), (0x8, 8)], .pow,
    [⟨fArrCntCnt, .rw, .lit 0⟩]⟩,
  ⟨.arrCntHi, 0x8800C, [(0x80, 192), (0x8, 8)], .pow,
    [⟨fArrCntHiCnt, .rw, .lit 0⟩]⟩,
  ⟨.arrCtl, 0x88048, [(0x80, 192), (0x4, 8)], .pow,
    [⟨fArrCtlEvent, .rw, .lit 0⟩, ⟨fArrCtlPart, .rw, .lit 0⟩, ⟨fArrCtlPartEn, .rw, .lit 0⟩, ⟨fArrCtlOvf, .w1c, .lit 0⟩]⟩,
  ⟨.unitCycle, 0x8E000, [(0x80, 17), (0x4, 2)], .pow,
    [⟨fUnitCycleCycle, .ro, .lit 0⟩]⟩,
  ⟨.unitCnt, 0x8E008, [(0x80, 17), (0x8, 6)], .pow,
    [⟨fUnitCntCnt, .rw, .lit 0⟩]⟩,
  ⟨.unitCntHi, 0x8E00C, [(0x80, 17), (0x8, 6)], .pow,
    [⟨fUnitCntHiCnt, .rw, .lit 0⟩]⟩,
  ⟨.unitCtl, 0x8E048, [(0x80, 17), (0x4, 6)], .pow,
    [⟨fUnitCtlEvent, .rw, .lit 0⟩, ⟨fUnitCtlPart, .rw, .lit 0⟩, ⟨fUnitCtlPartEn, .rw, .lit 0⟩, ⟨fUnitCtlOvf, .w1c, .lit 0⟩]⟩]

/-- Registers of the msix block. -/
def msixFams : List RegFam := [
  ⟨.msixTable, 0x90000, [(0x4, 8192)], .pcie,
    [⟨fMsixTableWord, .rw, .msixWord⟩]⟩,
  ⟨.msixPba, 0x98000, [(0x4, 64)], .pcie,
    [⟨fMsixPbaPending, .ro, .lit 0⟩]⟩]

/-- The families of the block that holds an offset (R597). -/
def famsAt (off : Nat) : List RegFam :=
  if off < 0x1000 then identityFams
  else if off < 0x2000 then (if 0x1000 ≤ off then clockFams else [])
  else if off < 0x3000 then (if 0x2000 ≤ off then positionFams else [])
  else if off < 0x8000 then (if 0x4000 ≤ off then journalFams else [])
  else if off < 0xA000 then (if 0x8000 ≤ off then motifFams else [])
  else if off < 0xB000 then (if 0xA000 ≤ off then pairFams else [])
  else if off < 0xC000 then (if 0xB000 ≤ off then sparseFams else [])
  else if off < 0xD000 then (if 0xC000 ≤ off then predFams else [])
  else if off < 0xE000 then (if 0xD000 ≤ off then storeFams else [])
  else if off < 0xF000 then (if 0xE000 ≤ off then vectorFams else [])
  else if off < 0x12000 then (if 0x10000 ≤ off then hbmFams else [])
  else if off < 0x13000 then (if 0x12000 ≤ off then hyphorFams else [])
  else if off < 0x28000 then (if 0x20000 ≤ off then engineFams else [])
  else if off < 0x40000 then (if 0x30000 ≤ off then scaleFams else [])
  else if off < 0x80000 then (if 0x40000 ≤ off then hostFams else [])
  else if off < 0x90000 then (if 0x80000 ≤ off then obsFams else [])
  else if off < 0xA0000 then (if 0x90000 ≤ off then msixFams else [])
  else []

end Sys2Proof.Machine
end

