-- ==== Sys2Proof/WellFormed.lean ====
section
/-! DEFINITION. Which commands name units the device has. A command that is not well formed names a partition, ring, array,
link, channel or the like beyond the numbers the manual gives (R14, R38, R141, R267, R373, R420, R482, R542, R597), or carries
a transaction of a shape that the manual does not know. -/

namespace Sys2Proof

/-- Partitions 0 to 63 (R38). -/
def partOk (p : Nat) : Bool := decide (p < 64)
/-- Rings 0 to 15 of a partition (R373). -/
def ringOk (r : Nat) : Bool := decide (r < 16)
/-- Logical arrays 0 to 191 (R24). -/
def arrayOk (a : Nat) : Bool := decide (a < 192)
/-- Links L0 to L47 (R420). -/
def linkOk (l : Nat) : Bool := decide (l < 48)
/-- Stacks HS0 to HS5 (R401). -/
def stackOk (k : Nat) : Bool := decide (k < 6)
/-- Device IDs are 12 bits wide (R25). -/
def devOk (d : Nat) : Bool := decide (d < 4096)
/-- Trigger outputs 0 to 15 (R482). -/
def trigOk (n : Nat) : Bool := decide (n < 16)

/-- Bytes of a BAR, and of one read (R369, R600). -/
def readIn (size off len : Nat) : Bool := decide (1 ≤ len) && decide (len ≤ 8) && decide (off + len ≤ size)

/-- A motif ID (R22, R23). -/
def faceMotif (m : Nat) : Bool :=
  let l := m / 8192
  decide (l ≤ 4) && decide (m / 256 % 32 = 0) && !(decide (l ≤ 2) && decide (m / 16 % 4 = 3)) && decide (m % (if l = 4 then 256 else 4 ^ l) = 0)

/-- A read names bytes of a BAR that the function has (R369), or a counter that the motif has: the device, the domain and the
quad show the counters of their children (R20, R21). -/
def readOk : ReadReq → Bool
  | .reg fn off len => partOk fn && readIn (if fn = 0 then 0x1000000 else 0x4000) off len
  | .wake fn off len => partOk fn && readIn 0x1000 off len
  | .face m domain k _ => decide (m < 65536) && faceMotif m && (!domain || decide (m / 8192 = 4)) &&
      (match k with | .prog n => decide (n < if m / 8192 < 2 then 8 else 6) | _ => true)

/-- The command names units that exist. -/
def Instr.wf : Instr → Bool
  | .nop .. | .waitTally .. | .matmul .. | .accSave .. | .accLoad .. | .ew2 .. | .axpb .. | .func .. | .reduce ..
  | .softmax .. | .norm .. | .pixnorm .. | .pool .. | .resize .. | .requant .. | .fill .. | .topk .. | .nms ..
  | .copy .. | .chainReduce .. | .broadcast .. | .barrier .. => true
  | .dispatch p q => partOk p && ringOk q
  | .commandStart _ _ => true
  | .completionWrite _ => true
  | .interruptCoalTimeout p q => partOk p && ringOk q
  | .doorbellPoll p b ws => partOk p && decide (b < 2) && decide (ws.length = 8)
  | .wakeWrite fn _ => partOk fn
  | .entryConsume p q e _ _ _ => partOk p && ringOk q && decide (e.length = 8)
  | .abortEntry p q e => partOk p && ringOk q && decide (e.length = 8)
  | .abortTakesEffect p _ ls _ => partOk p && ls.all fun x => ringOk x.1 && decide (x.2.1.length = 8)
  | .abortAck p => partOk p
  | .eventMergeTimeout p _ _ => partOk p
  | .functionLevelReset fn => partOk fn
  | .partReset p => partOk p
  | .bar4Access _ _ => true
  | .configRequest r => match r with | .bar4Size k => decide (k ≤ 6) | _ => true
  | .partitionEnable p => partOk p
  | .partitionDisable p => partOk p
  | .partitionDisableEffect p => partOk p
  | .storeClearDone p => partOk p
  | .domainWrite _ => true
  | .registerWrite fn off bs => partOk fn && decide (off < 0x1000000) && decide (0 < bs.length) && decide (bs.length ≤ 8)
  | .scEnable ch _ => decide (ch < 1024)
  | .arrayFault a _ _ => arrayOk a
  | .spareMapped a => arrayOk a
  | .idleTest a _ => arrayOk a
  | .tileStart a => arrayOk a
  | .weightSwap a => arrayOk a
  | .segmentSwap a => arrayOk a
  | .drainEnd a _ => arrayOk a
  | .chainHop _ _ => true
  | .scatterRetire b k => decide (b < 12) && decide (k < 64)
  | .tallyIncrement a t => arrayOk a && decide (t < 64)
  | .waitTallyTimeout _ => true
  | .remoteRequest r => devOk r.src && partOk r.part
  | .remotePacket p _ => devOk p.src && devOk p.dst && partOk p.part
  | .visible _ _ => true
  | .remoteTimeout _ _ => true
  | .linkEnable l => linkOk l
  | .linkTrained l => linkOk l
  | .ident l d k => linkOk l && devOk d && linkOk k
  | .timeExchange l xs _ => linkOk l && decide (xs.length = 16)
  | .linkReset l => linkOk l
  | .flitReceive l f _ => linkOk l && decide (f.payload.length = 240)
  | .nak l k => linkOk l && decide (k < 4096)
  | .replayTimeout l => linkOk l
  | .laneSpared l k => linkOk l && decide (k < 4)
  | .linkFail l => linkOk l
  | .linkRestored l => linkOk l
  | .descReceive peer _ => decide (peer < 16)
  | .pairEnable _ _ => true
  | .pairHoldoffExpiry _ => true
  | .claim k => decide (k < 16)
  | .heartbeatToggle => true
  | .alive => true
  | .checkpointCapture => true
  | .checkpointApply k _ _ => decide (k < 2)
  | .heartbeatMissing => true
  | .pairLinksSilent => true
  | .query => true
  | .queryTimeout => true
  | .takeover => true
  | .takeoverClaim _ => true
  | .takeoverDone l => l.all fun x => partOk x.1 && ringOk x.2.1
  | .actClaimResample _ => true
  | .fenceIn _ => true
  | .rejoin => true
  | .switchover => true
  | .release => true
  | .standbyReady => true
  | .processorFault d p => decide (d < 5) && decide (p < 4)
  | .hubWatchdogLoss => true
  | .encoderEdge e _ _ _ => decide (e < 2)
  | .encoderIndex e _ _ => decide (e < 2)
  | .positionLoad => true
  | .speedUpdate => true
  | .slipWindow => true
  | .triggerPulse n => trigOk n
  | .triggerPulseEnd n => trigOk n
  | .triggerRecord => true
  | .interlockChange _ _ _ => true
  | .interlockDiscrepancy => true
  | .latchClear => true
  | .motionWake _ _ _ => true
  | .positionHandover => true
  | .journalPost _ => true
  | .journalIntake t _ pl => decide (t < 65536) && decide (pl.length ≤ 4056)
  | .journalRecordWrite as bs => decide (as.length = 3) && decide (bs.length = 3)
  | .sectorErase => true
  | .powerFail => true
  | .journalRescan => true
  | .journalMediaFault f _ _ => decide (f < 2)
  | .freeze _ => true
  | .freezeFlit _ => true
  | .freezeCapture => true
  | .releaseFreeze => true
  | .smpSeedWrite _ => true
  | .marker _ => true
  | .tracePacketSend => true
  | .tracePacketExpire k => decide (k < 4)
  | .syncTimer => true
  | .alarmMergeTimeout _ _ => true
  | .dump _ w => decide (w < 16)
  | .dumpRdWrite _ => true
  | .powerWindow ds _ _ _ => decide (ds.length = 5)
  | .aclkDivChange d => decide (d ∈ [4, 5, 6, 8])
  | .tempUpdate ts _ => decide (ts.length = 5) && ts.all fun t => decide (t.length = 8)
  | .idleEntry => true
  | .reqRun => true
  | .reqStandby => true
  | .standbyEntry => true
  | .reqSleep => true
  | .sleepTimerWake => true
  | .perstRise => true
  | .warmReset _ => true
  | .powerOnReset p => decide (p.boot < 4) && decide (p.slot < 16)
  | .mainPowerLoss => true
  | .mainRailsGood p => decide (p.boot < 4) && decide (p.slot < 16)
  | .bootGo _ _ => true
  | .scrubRead k _ => stackOk k
  | .pageRetire k pg _ => stackOk k && decide (pg < 16777216)
  | .hbmClassWrite k _ => decide (k < 8)
  | .hbmRegionWrite n _ => decide (n < 8)
  | .vccAuxLoss => true
  | .pairHbInEdge _ => true
  | .collectiveTimeout _ => true
  | .refused _ => true
  | .pcieLinkTraining r w => decide (r ∈ [2, 5, 8, 16, 32, 64]) && decide (w ∈ [1, 2, 4, 8, 16])
  | .lowWordRead r => readOk r

end Sys2Proof
end

