-- ==== Sys2Proof/Machine/Ops.lean ====
section
/-! DEFINITION. The named operations over registers, memory and the tables of State. Every meaning reads and writes through
these. -/

namespace Sys2Proof.Machine

/-- The shape of every meaning: a command that names units the device has changes the device, any other stops (log 5). The
queue of waiting commands is never touched. -/
def run (i : Instr) (f : Device → Device) (s : State) : Host.Outcome State Fault Refusal :=
  if i.wf then .next { s with dev := f s.dev } else .fault .noSuchUnit

/-! ## Registers -/

/-- The indices that an offset within a family's span has, if it is the offset of one of its registers. -/
def famIdx : List (Nat × Nat) → Nat → Option (List Nat)
  | [], o => if o = 0 then some [] else none
  | (s, c) :: r, o =>
    let i := o / s
    if i < c then (famIdx r (o - i * s)).map (i :: ·) else none

/-- The family among a list that has a register at an offset, with the register's indices. -/
def famFind (off : Nat) : List RegFam → Option (RegFam × List Nat)
  | [] => none
  | f :: r =>
    if f.base ≤ off then
      match famIdx f.dims (off - f.base) with
      | some is => some (f, is)
      | none => famFind off r
    else famFind off r

/-- The register at a BAR0 offset (R597, R600). -/
def regFind (off : Nat) : Option (RegFam × List Nat) := famFind off (famsAt off)

/-- A field's reset value (R1, R572; logs 4 and 9). -/
def rstVal (v : Variant) (st : Straps) (is : List Nat) : Rst → Nat
  | .lit n => n
  | .variant => match v with | .c => 0 | .t => 1
  | .stepping => Config.stepping.toNat
  | .serialLo => Config.serial.toNat % 2 ^ 32
  | .serialHi => Config.serial.toNat / 2 ^ 32
  | .capW => match v with | .c => 750 | .t => 450
  | .throttleC => match v with | .c => 95 | .t => 100
  | .tripC => match v with | .c => 110 | .t => 115
  | .compat7 => b2n st.compat7
  | .boot => st.boot
  | .slot => st.slot
  | .role => b2n st.role
  | .minRate => if is = [0] then 900 else 0
  | .msixWord => match is.reverse with | k :: _ => if k % 4 = 3 then 1 else 0 | [] => 0

/-- A register's reset value. -/
def famRst (v : Variant) (st : Straps) (f : RegFam) (is : List Nat) : Nat :=
  f.flds.foldl (fun w x => setBits x.fld.hi x.fld.lo (rstVal v st is x.rst) w) 0

/-- The reset value of the register at an offset; 0 where there is none (R600). -/
def rst (d : Device) (off : Nat) : Word :=
  match regFind off with
  | some (f, is) => BitVec.ofNat 32 (famRst d.variant d.straps f is)
  | none => 0

/-- What a register holds. -/
def rget (d : Device) (off : Nat) : Word := tabGet (rst d off) off d.regs

/-- A register set to a word. -/
def rput (off : Nat) (w : Word) (d : Device) : Device := { d with regs := tabSet (rst d off) off w d.regs }

/-- The bits of a word that a register holds: its reserved bits read 0 (R6). -/
def heldBits (off w : Nat) : Word :=
  match regFind off with
  | some (f, _) => BitVec.ofNat 32 (f.flds.foldl (fun acc x => setBits x.fld.hi x.fld.lo (bits x.fld.hi x.fld.lo w) acc) 0)
  | none => 0

/-- A field of a register. -/
def fget (d : Device) (off : Nat) (f : Fld) : Nat := bits f.hi f.lo (rget d off).toNat

/-- A field of a register set. -/
def fput (off : Nat) (f : Fld) (v : Nat) (d : Device) : Device :=
  rput off (BitVec.ofNat 32 (setBits f.hi f.lo v (rget d off).toNat)) d

/-- A one-bit field as a truth value. -/
def fbit (d : Device) (off : Nat) (f : Fld) : Bool := decide (fget d off f = 1)

/-- A counter field advanced, stopping at its maximum. -/
def fsat (off : Nat) (f : Fld) (n : Nat) (d : Device) : Device :=
  fput off f (satAdd (f.hi + 1 - f.lo) (fget d off f) n) d

/-- A counter field advanced modulo its width. -/
def fwrap (off : Nat) (f : Fld) (n : Nat) (d : Device) : Device := fput off f (fget d off f + n) d

/-- The 64-bit (or shorter) number that a LO and a HI register hold. -/
def pair64 (d : Device) (lo hi : Nat) : Nat := (rget d lo).toNat + 2 ^ 32 * (rget d hi).toNat

/-- The registers without those of a set of offsets, which then hold their reset values. -/
def rreset (p : Nat → Bool) (d : Device) : Device := { d with regs := d.regs.filter fun e => !p e.1 }

/-! ## The tables of State -/

def arrOf (d : Device) (a : Nat) : Arr := tabGet {} a d.arrs
def setArr (a : Nat) (x : Arr) (d : Device) : Device := { d with arrs := tabSet {} a x d.arrs }
/-- Kept accumulations of arrays are discarded (R186). -/
def dropKept (as : List Nat) (d : Device) : Device :=
  as.foldl (fun d a => if (arrOf d a).kept.isSome then setArr a { arrOf d a with kept := none, active := {} } d else d) d
def partOf (d : Device) (p : Nat) : Part := tabGet {} p d.parts
def setPart (p : Nat) (x : Part) (d : Device) : Device := { d with parts := tabSet {} p x d.parts }
def ringOf (x : Part) (q : Nat) : Ring := tabGet {} q x.rings
def setRing (q : Nat) (r : Ring) (x : Part) : Part := { x with rings := tabSet {} q r x.rings }
def cqOf (x : Part) (q : Nat) : CqRt := tabGet {} q x.cqs
def setCq (q : Nat) (r : CqRt) (x : Part) : Part := { x with cqs := tabSet {} q r x.cqs }
def scOf (d : Device) (ch : Nat) : ScRt := tabGet {} ch d.scs
def setSc (ch : Nat) (x : ScRt) (d : Device) : Device := { d with scs := tabSet {} ch x d.scs }
def linkOf (d : Device) (l : Nat) : Link := tabGet {} l d.links
def setLink (l : Nat) (x : Link) (d : Device) : Device := { d with links := tabSet {} l x d.links }
def trigOf (d : Device) (n : Nat) : Trig := tabGet {} n d.trigs
def setTrig (n : Nat) (x : Trig) (d : Device) : Device := { d with trigs := tabSet {} n x d.trigs }

/-- The dispatched command with an id. -/
def cmdOf (d : Device) (id : Nat) : Option Cmd := d.cmds.find? fun c => decide (c.id = id)
/-- A dispatched command replaced. -/
def setCmd (c : Cmd) (d : Device) : Device :=
  { d with cmds := d.cmds.map fun x => if x.id = c.id then c else x }

/-- Something leaves the device (log 8). -/
def emit (o : Out) (d : Device) : Device := { d with out := d.out ++ [o] }

/-! ## Motifs and partitions (R22 to R46) -/

/-- Die, band, and position of a logical array (R24). -/
def dieOf (a : Nat) : Nat := a / 48
def bandOf (a : Nat) : Nat := a / 16

/-- Whether a motif ID is well formed (R23). -/
def motifOk (m : Nat) : Bool :=
  let lv := bits 15 13 m
  decide (lv ≤ 4) && decide (bits 12 8 m = 0) && !(decide (lv ≤ 2) && decide (bits 5 4 m = 3)) &&
  (match lv with
   | 0 => true
   | 1 => decide (bits 1 0 m = 0)
   | 2 => decide (bits 3 0 m = 0)
   | 3 => decide (bits 5 0 m = 0)
   | _ => decide (bits 7 0 m = 0))

/-- First logical array and number of arrays of a motif (R14, R24). -/
def motifArrays (m : Nat) : Nat × Nat :=
  let a := bits 7 6 m * 48 + bits 5 4 m * 16 + bits 3 2 m * 4 + bits 1 0 m
  match bits 15 13 m with
  | 0 => (a, 1)
  | 1 => (a, 4)
  | 2 => (a, 16)
  | 3 => (a, 48)
  | _ => (0, 192)

/-- The arrays of a motif. -/
def motifList (m : Nat) : List Nat := (List.range (motifArrays m).2).map (· + (motifArrays m).1)

/-- The bands that a motif contains whole (R19). -/
def motifBands (m : Nat) : List Nat :=
  if bits 15 13 m < 2 then [] else (List.range ((motifArrays m).2 / 16)).map (· + (motifArrays m).1 / 16)

/-- Whether a partition's ARRAY_MASK holds a logical array (R40). -/
def inMask (d : Device) (p a : Nat) : Bool := bit (a % 32) (rget d (oArrayMask p (a / 32))).toNat

/-- A partition's arrays. -/
def maskArrays (d : Device) (p : Nat) : List Nat := (List.range 192).filter (inMask d p)

/-- The partition named as owner of a band store (R42). -/
def bandOwner (d : Device) (b : Nat) : Nat :=
  bits (6 * (b % 5) + 5) (6 * (b % 5)) (rget d (oBandOwner + 4 * (b / 5))).toNat

/-- ENABLE of a partition. -/
def partEn (d : Device) (p : Nat) : Bool := fbit d (oPartCtrl p) fPartCtrlEnable

/-- BUSY: a command of the partition is queued or running (PART_CTRL). -/
def partBusy (d : Device) (p : Nat) : Bool := d.cmds.any fun c => decide (c.part = p)

/-- The enabled partition that holds a logical array (R41). -/
def holderOf (d : Device) (a : Nat) : Option Nat :=
  (List.range 64).find? fun p => partEn d p && inMask d p a

/-- AVAIL of a logical array (R53). -/
def avail (d : Device) (a : Nat) : Bool := bit (a % 32) (rget d (oAvailMask (a / 32))).toNat

/-- The device's own ID (R25). -/
def ownDev (d : Device) : Nat := fget d oDeviceId fDeviceIdDomain * 16 + fget d oDeviceId fDeviceIdSlot

/-- Pair roles (PAIR_STATUS). -/
def roleNone : Nat := 0
def roleActive : Nat := 1
def roleStandby : Nat := 2
def roleFenced : Nat := 3
def role (d : Device) : Nat := fget d oPairStatus fPairStatusRole

/-- RUN, IDLE or STANDBY (R492, R566). -/
def powered (d : Device) : Bool :=
  match d.clk.power with
  | .run | .idle | .standby => true
  | _ => false

/-! ## Addresses (R395 to R403) -/

/-- The local part of a device address. -/
def locAddr (a : Nat) : Nat := a % 2 ^ 48

/-- No reserved bit set, and no DEV where REMOTE is 0 (R396). -/
def addrForm (a : Nat) : Bool :=
  decide (bits 50 48 a = 0) && (bit 63 a || decide (bits 62 51 a = 0))

/-- The address is served on this device (R396). -/
def addrLocal (d : Device) (a : Nat) : Bool := !bit 63 a || decide (bits 62 51 a = ownDev d)

/-- HBM range (R397). -/
def isHbm (l : Nat) : Bool := decide (l < 0x6000000000)

/-- The stores (R252). -/
inductive Store where
  | row | word | band
  deriving DecidableEq, Repr

/-- Sizes and access units in bytes (R252). -/
def storeSize : Store → Nat
  | .row => 0x300000
  | .word => 0x40000
  | .band => 0x2000000
def storeUnit : Store → Nat
  | .row => 512
  | .word => 4
  | .band => 64

/-- The unit protected by one parity bit (R253). -/
def parityUnit : Store → Nat
  | .row => 64
  | .word => 4
  | .band => 64

/-- The store, the array or band, and the offset that a scratch-aperture address of 48 bits names; none where it is unmapped
(R396, R399, R400). -/
def scratchAt (l : Nat) : Option (Store × Nat × Nat) :=
  if decide (l < 2 ^ 48) && bits 47 40 l = 1 && decide (bits 37 36 l ≠ 3) && decide (bits 29 25 l = 0) then
    let off := bits 24 0 l
    let a := bits 39 38 l * 48 + bits 37 36 l * 16 + bits 35 34 l * 4 + bits 33 32 l
    match bits 31 30 l with
    | 0 => if off < storeSize .row then some (.row, a, off) else none
    | 1 => if off < storeSize .word then some (.word, a, off) else none
    | 2 => if decide (bits 35 32 l = 0) && decide (off < storeSize .band) then some (.band, a / 16, off) else none
    | _ => none
  else none

/-- Addresses of the stores in the scratch aperture (R399). -/
def arrayBase (a : Nat) : Nat :=
  2 ^ 40 + (a / 48) * 2 ^ 38 + (a / 16 % 3) * 2 ^ 36 + (a / 4 % 4) * 2 ^ 34 + (a % 4) * 2 ^ 32
def rowAddr (a off : Nat) : Nat := arrayBase a + off
def wordAddr (a off : Nat) : Nat := arrayBase a + 2 ^ 30 + off
def bandAddr (b off : Nat) : Nat := 2 ^ 40 + (b / 3) * 2 ^ 38 + (b % 3) * 2 ^ 36 + 2 ^ 31 + off

/-- The address is mapped: HBM or a scratch store (R397, R400). -/
def mapped (l : Nat) : Bool := isHbm l || (scratchAt l).isSome

/-- The register shadow (R397). -/
def isShadow (l : Nat) : Bool := decide (0x020000000000 ≤ l) && decide (l < 0x020001000000)

/-- Enabled stack-local regions as (base, n GiB) in GiB (R403). -/
def regions (d : Device) : List (Nat × Nat) :=
  (List.range 8).filterMap fun n =>
    let w := (tabGet 0 (oHbmRegion n) d.regs).toNat
    if bits 0 0 w = 1 then some (bits 6 1 w * 6, bits 12 7 w + 1) else none

/-- 1 GiB. -/
def gib : Nat := 2 ^ 30

/-- Stack and stack offset of an HBM address (R402, R403). -/
def hbmMap (d : Device) (l : Nat) : Nat × Nat :=
  match (regions d).find? fun r => decide (r.1 * gib ≤ l) && decide (l < (r.1 + 6 * r.2) * gib) with
  | some (b, n) =>
    let k := (l - b * gib) / (n * gib)
    (k, b * gib / 6 + (l - b * gib - k * (n * gib)))
  | none => ((l / 4096) % 6, (l / 4096 / 6) * 4096 + l % 4096)

/-- The entry of a stack's retirement list that serves a page: the last that holds it (R409; log 25). -/
def retiredAt (d : Device) (k page : Nat) : Option Nat :=
  (d.regs.filter fun e => decide (oRetireEntry k 0 ≤ e.1) && decide (e.1 < oRetireEntry k 128) &&
    decide (bits 31 31 e.2.toNat = 1) && decide (bits 23 0 e.2.toNat = page)).getLast?.map
    fun e => (e.1 - oRetireEntry k 0) / 4

/-- Where a stack offset lies: in the stack, or in the spare page that serves its page (R409). -/
def stackKey (d : Device) (k x : Nat) : Nat :=
  match retiredAt d k (x / 4096) with
  | some e => k * 2 ^ 37 + 2 ^ 36 + e * 4096 + x % 4096
  | none => k * 2 ^ 37 + x

/-- The place of a local address in `mem`: by stack for HBM, the aperture address for a scratch store. -/
def memKey (d : Device) (l : Nat) : Nat :=
  if isHbm l then stackKey d (hbmMap d l).1 (hbmMap d l).2 else l

/-! ## Memory -/

/-- A byte of memory at a place: 0 where nothing else has been written (R254, R411). -/
def memGet (d : Device) (k : Nat) : Byte := tabGet 0 k d.mem

/-- A byte of memory set. -/
def memSet (k : Nat) (b : Byte) (d : Device) : Device := { d with mem := tabSet 0 k b d.mem }

/-- The canonical form of memory: places strictly rising, no byte listed that is 0. -/
abbrev Memory.wf (d : Device) : Prop := tabWf (0 : Byte) d.mem

/-- The byte that a local address holds. -/
def byteAt (d : Device) (l : Nat) : Byte := memGet d (memKey d l)

/-- n bytes from a local address on. -/
def bytesAt (d : Device) (l n : Nat) : List Byte := (List.range n).map fun k => byteAt d (l + k)

/-- Bytes stored from a local address on, in ascending order. -/
def storeBytes : Nat → List Byte → Device → Device
  | _, [], d => d
  | l, b :: bs, d => storeBytes (l + 1) bs (memSet (memKey d l) b d)

/-- Every byte of a range of places set to 0. -/
def memClear (lo n : Nat) (d : Device) : Device := { d with mem := tabDrop lo n d.mem }

/-- The places of the parity units or 32-byte blocks that a range of local addresses touches (R253, R405). -/
def errKey (d : Device) (l : Nat) : Nat :=
  match scratchAt l with
  | some (s, _, off) => l - off % parityUnit s
  | none => memKey d l - memKey d l % 32

/-- A read of this address meets an error: a poisoned block, or a unit whose parity fails. -/
def badAt (d : Device) (l : Nat) : Bool := decide (errKey d l ∈ d.merr.poison) || decide (errKey d l ∈ d.merr.parity)

/-- The first address of a range whose read fails (R253, R406). -/
def firstBad (d : Device) (l n : Nat) : Option Nat :=
  if d.merr.poison = [] ∧ d.merr.parity = [] then none
  else ((List.range n).map (l + ·)).find? (badAt d)

/-- A failing read of a scratch store counted (R253). -/
def countParity (l : Nat) (d : Device) : Device :=
  match scratchAt l with
  | some (.row, a, _) => fsat (oStoreParity a) fStoreParityRowParity 1 d
  | some (.word, a, _) => fsat (oStoreParity a) fStoreParityWordParity 1 d
  | some (.band, b, _) => fsat (oBandParity b) fBandParityLineParity 1 d
  | none => d

end Sys2Proof.Machine
end

