-- ==== Sys2Proof/Machine/Events.lean ====
section
/-! DEFINITION. What the device reports by itself: intake into the journal (R501 to R504, R514), packets queued for the trace
port (R533 to R538), interrupt messages (R385, R598) and event records (R389 to R391). -/

namespace Sys2Proof.Machine

/-- Position as the 48-bit field that reports carry (R477, R500). -/
def posWord (d : Device) : Nat := unsigned 48 (d.pos.ctr / 65536)

/-! ## Journal intake -/

/-- Both flashes have failed (R514). -/
def jnlDead (d : Device) : Bool := fbit d oJnlStatus fJnlStatusJaFault && fbit d oJnlStatus fJnlStatusJbFault

/-- The priority types (R502); an EVENT record has priority when its code is an alarm's. -/
def jnlPrio (type : Nat) (payload : List Byte) : Bool :=
  match type with
  | 0x0003 => bit 15 (leNat (payload.take 2))
  | 0x0011 | 0x0020 | 0x00F0 | 0x00F1 => true
  | _ => false

/-- The entry of the drop table that counts a type (R504). -/
def dropKey (type : Nat) : Nat := if 0x1000 ≤ type ∧ type ≤ 0x7FFF then 0xFFFF else type

/-- A record that is not taken (R504). -/
def jnlDrop (type : Nat) (d : Device) : Device :=
  fsat oJnlDrops fJnlDropsDrops 1
    { d with jnl := { d.jnl with drops := tabSet 0 (dropKey type) (tabGet 0 (dropKey type) d.jnl.drops + 1) d.jnl.drops } }

/-- Whether the pending queue takes a record now (R503, R508). -/
def jnlTakes (d : Device) (prio : Bool) : Bool :=
  !jnlDead d && (if prio then decide (d.jnl.queue.length < 256) else decide (d.jnl.queue.length < 224) && !d.jnl.prio)

/-- A record put at the end of the pending queue with the next SEQ (R501, R503). -/
def jnlPush (type : Nat) (payload : List Byte) (d : Device) : Device :=
  fwrap oJnlNextSeq fJnlNextSeqSeq 1
    { d with jnl := { d.jnl with queue := d.jnl.queue ++
        [{ type := type, seq := (rget d oJnlNextSeq).toNat, time := d.clk.time, pos := d.pos.ctr / 65536,
           payload := payload }] } }

/-- A record offered to the journal (R503, R504, R514). -/
def journal (type : Nat) (payload : List Byte) (d : Device) : Device :=
  if jnlTakes d (jnlPrio type payload) then jnlPush type payload d else jnlDrop type d

/-- A CONFIG record: block base, offset, old value, new value (R502, R604). -/
def journalConfig (base off : Nat) (old new : Word) (d : Device) : Device :=
  journal 0x0002 (leBytes 4 base ++ leBytes 4 off ++ leBytes 4 old.toNat ++ leBytes 4 new.toNat) d

/-! ## Trace packets -/

/-- Bytes of a packet on the port (R533). -/
def pktBytes (p : TPkt) : Nat := 16 + 8 * p.payload.length

/-- 64-bit words that bytes hold. -/
def leDWords : List Byte → List DWord
  | a :: b :: c :: d :: e :: f :: g :: h :: r => BitVec.ofNat 64 (leNat [a, b, c, d, e, f, g, h]) :: leDWords r
  | _ => []

/-- EN of the trace port (TRC_CTRL). -/
def trcOn (d : Device) : Bool := fbit d oTrcCtrl fTrcCtrlEn

/-- A source of the port is enabled (TRC_CTRL): MARKER 0, EVENT 1, SAMPLE 2, DUMP 3. -/
def trcSrc (d : Device) (s : Nat) : Bool := trcOn d && bit s (fget d oTrcCtrl fTrcCtrlSrcEn)

/-- A source's FIFO. -/
def fifoOf (t : Trace) (s : Nat) : List TPkt :=
  match s with | 0 => t.fifo0 | 1 => t.fifo1 | 2 => t.fifo2 | _ => t.fifo3

/-- A source's FIFO replaced. -/
def setFifo (s : Nat) (l : List TPkt) (t : Trace) : Trace :=
  match s with
  | 0 => { t with fifo0 := l } | 1 => { t with fifo1 := l } | 2 => { t with fifo2 := l } | _ => { t with fifo3 := l }

/-- Bytes in a FIFO. -/
def fifoBytes (l : List TPkt) : Nat := (l.map pktBytes).sum

/-- A packet of a source dropped and counted (R535, R537). -/
def trcDrop (s : Nat) (p : TPkt) (d : Device) : Device :=
  fsat (oTrcLoss s) fTrcLossPackets 1
    { d with trc := { d.trc with lostPk := tabSet 0 s (tabGet 0 s d.trc.lostPk + 1) d.trc.lostPk,
                                 lostBy := tabSet 0 s (tabGet 0 s d.trc.lostBy + pktBytes p) d.trc.lostBy } }

/-- A packet offered to its source's FIFO of 64 KiB (R535). -/
def trcPut (s : Nat) (p : TPkt) (d : Device) : Device :=
  if trcSrc d s then
    if fifoBytes (fifoOf d.trc s) + pktBytes p ≤ 65536 then
      { d with trc := setFifo s (fifoOf d.trc s ++ [p]) d.trc }
    else trcDrop s p d
  else d

/-- A packet of the port's own (R535, step 2). -/
def trcOwn (p : TPkt) (d : Device) : Device :=
  if trcOn d then { d with trc := { d.trc with own := d.trc.own ++ [p] } } else d

/-- SYNC (R534, R539). -/
def syncPkt (d : Device) : TPkt :=
  { type := 1, stamp := d.clk.time,
    payload := [BitVec.ofNat 64 d.clk.time,
      BitVec.ofNat 64 (posWord d + fget d oHyTime fHyTimeAligned * 2 ^ 48)], since := d.clk.time }

/-! ## Event records -/

/-- An event record's 32 bytes (R389). -/
def evBytes (e : EvRec) (phase : Nat) : List Byte :=
  leBytes 4 (e.code + min e.count 32767 * 2 ^ 16 + phase * 2 ^ 31) ++ leBytes 4 e.source ++ leBytes 4 e.arg0 ++
  leBytes 4 e.arg1 ++ leBytes 8 e.time ++ leBytes 4 e.step ++ leBytes 4 0

/-- Vectors of a function: VF_VECTORS for a virtual function, the rest of 2,048 for the physical one, both 32 by default (R372). -/
def msixSize (d : Device) (fn : Nat) : Nat :=
  if fn = 0 then 2048 - 63 * fget d (oVfVectors 0) fVfVectorsCount else fget d (oVfVectors 0) fVfVectorsCount

def msixMask (fn v : Nat) : Nat := if fn = 0 then oMsixTable (4 * v + 3) else oVfMsixTable (fn - 1) (4 * v + 3)
def msixPba (fn v : Nat) : Nat := if fn = 0 then oMsixPba (v / 32) else oVfMsixPba (fn - 1)

/-- Interrupt message of a vector of a function: sent, or its pending bit set while it is masked; nothing for a vector that the
function does not have (R372, R598; log 9). The physical function's structures are those of partition 0. -/
def msixSend (fn v : Nat) (d : Device) : Device :=
  if msixSize d fn ≤ v then d
  else if bit 0 (rget d (msixMask fn v)).toNat then
    rput (msixPba fn v) (rget d (msixPba fn v) ||| BitVec.ofNat 32 (2 ^ (v % 32))) d
  else emit (.msix fn v) d

/-- A record's occurrences merged into an earlier one's: counts added, arguments of the last. -/
def evMerge (a b : EvRec) : EvRec :=
  { a with count := a.count + b.count, arg0 := b.arg0, arg1 := b.arg1, step := b.step }

/-- The same (CODE, SOURCE). -/
def evSame (a b : EvRec) : Bool := decide (a.code = b.code) && decide (a.source = b.source)

/-- A record merged into the entry of a list with its (CODE, SOURCE). -/
def evMergeIn (e : EvRec) (l : List EvRec) : List EvRec := l.map fun x => if evSame x e then evMerge x e else x

/-- A code of an alarm (R389). -/
def isAlarm (e : EvRec) : Bool := bit 15 e.code

/-- A record written to the event ring, its words 1 to 7 first (R383, R389), and the interrupt that follows (R385). -/
def evWrite (p : Nat) (e : EvRec) (d : Device) : Device :=
  let x := partOf d p
  let a := pair64 d (oEqBaseLo p) (oEqBaseHi p) + 32 * (x.evWritten % 4096)
  let bs := evBytes e (if x.evWritten / 4096 % 2 = 0 then 1 else 0)
  msixSend p (fget d (oEqCtrl p) fEqCtrlVector)
    (emit (.hostWrite a (bs.take 4)) (emit (.hostWrite (a + 4) (bs.drop 4))
      (setPart p { x with evWritten := x.evWritten + 1 } d)))

/-- The ring takes records: enabled, fewer than 4,096 unconsumed (R391), the device not fenced (R470). -/
def evRoom (d : Device) (p : Nat) : Bool :=
  fbit d (oEqCtrl p) fEqCtrlEnable && decide (role d ≠ roleFenced) && decide ((partOf d p).evWritten - (partOf d p).evConsumed < 4096)

/-- An alarm merged into the first entry with its CODE, which then stands for every source; none where no entry has its CODE. -/
def evMergeCode (e : EvRec) : List EvRec → Option (List EvRec)
  | [] => none
  | x :: r => if x.code = e.code then some ({ evMerge x e with source := 0xFFFFFFFF } :: r) else (evMergeCode e r).map (x :: ·)

/-- A table (of 256 entries in R391) that holds events while the ring has no room: the new list, and the
non-alarm occurrences that are lost. Where only alarms fill it, an alarm merges into the oldest entry with its CODE, whose SOURCE
becomes 0xFFFF_FFFF, or into the oldest entry (R391; log 79). -/
def evHold (cap : Nat) (e : EvRec) (l : List EvRec) : List EvRec × Nat :=
  if l.any (evSame · e) then (evMergeIn e l, 0)
  else if l.length < cap then (l ++ [e], 0)
  else if isAlarm e then
    match l.find? fun x => !isAlarm x with
    | some v => (l.erase v ++ [e], v.count)
    | none =>
      match evMergeCode e l, l with
      | some l, _ => (l, 0)
      | none, [] => ([e], 0)
      | none, x :: r => (evMerge x e :: r, 0)
  else (l, e.count)

/-- A record delivered to a partition's ring or held (R389, R391). -/
def evDeliver (p : Nat) (e : EvRec) (d : Device) : Device :=
  let x := partOf d p
  if evRoom d p && decide (x.evHeld = []) then evWrite p e d
  else
    let (l, lost) := evHold 256 e x.evHeld
    fsat (oEqLost p) fEqLostLost lost (setPart p { x with evHeld := l } d)

/-- Held events written while the ring has room (R391). -/
def evFlush : Nat → Nat → Device → Device
  | 0, _, d => d
  | fuel + 1, p, d =>
    match (partOf d p).evHeld with
    | [] => d
    | e :: r =>
      if evRoom d p then evFlush fuel p (evWrite p e (setPart p { partOf d p with evHeld := r } d)) else d

/-- The 16 most recent alarms once both flashes have failed (R514). -/
def faultLog (code : Nat) (d : Device) : Device :=
  let d := (List.range 15).foldl (fun d k =>
    rput (oFaultLog (15 - k)) (rget d (oFaultLog (14 - k))) (rput (oFaultTime (15 - k)) (rget d (oFaultTime (14 - k))) d)) d
  rput (oFaultLog 0) (BitVec.ofNat 32 code) (rput (oFaultTime 0) (BitVec.ofNat 32 (d.clk.time / 1000000)) d)

/-- Events whose record start-up reapplies: SPARE_MAPPED, ARRAY_RETIRED, HBM_PAGE_RETIRED (R54, R409, R452). -/
def evDurable (e : EvRec) : Bool := decide (e.code = 0x0006) || decide (e.code = 0x8001) || decide (e.code = 0x000A)

/-- The journal's record of an event (R502, R514). -/
def evJournal (e : EvRec) (d : Device) : Device :=
  if isAlarm e then
    if jnlDead d then faultLog e.code d else journal 0x0003 (evBytes e 0) d
  else if 5 ≤ e.code ∧ e.code ≤ 12 then journal 0x0003 (evBytes e 0) d
  else d

/-- What beside the ring and the journal an event record goes to: the trace port (R534, R538; log 15). -/
def evTrace (e : EvRec) (d : Device) : Device :=
    if isAlarm e then
      if trcOn d then
        if d.trc.alarmOpen.any (evSame · e) then
          { d with trc := { d.trc with alarmOpen := evMergeIn e d.trc.alarmOpen } }
        else if d.trc.alarmOpen.length < 64 then
          { d with trc := { d.trc with
              alarmOpen := d.trc.alarmOpen ++ [{ e with count := 0 }],
              alarms := d.trc.alarms ++ [{ type := 4, stamp := e.time, payload := leDWords (evBytes e 0),
                                           since := d.clk.time }] } }
        else
          { d with trc := { d.trc with alarmOpen := (evHold 64 e d.trc.alarmOpen).1 } }
      else d
    else trcPut 1 { type := 5, stamp := e.time, payload := leDWords (evBytes e 0), since := d.clk.time } d

/-- What beside the ring an event record goes to: trace and journal (log 15). -/
def evElsewhere (e : EvRec) (d : Device) : Device := evJournal e (evTrace e d)

/-- An occurrence of an event for a partition: a record at once, or merged into the open millisecond of its
(CODE, SOURCE) (R390); one that start-up reapplies reaches the journal by itself (R409, R452; log 15). `wide` says that trace and journal see it too. -/
def raiseAt (wide : Bool) (p : Nat) (e : EvRec) (d : Device) : Device :=
  let x := partOf d p
  if x.evOpen.any (evSame · e) then
    let step (o : EvRec) : EvRec := if evSame o e then (if o.count = 0 then e else evMerge o e) else o
    let d := setPart p { x with evOpen := x.evOpen.map step } d
    if wide && evDurable e then evJournal e d else d
  else
    let d := evDeliver p e (setPart p { x with evOpen := x.evOpen ++ [{ e with count := 0 }] } d)
    if wide then evElsewhere e d else d

/-- An event raised (R389, R392). -/
def raise (p code source arg0 arg1 step : Nat) (d : Device) : Device :=
  raiseAt true p { code := code, count := 1, source := source % 2 ^ 32, arg0 := arg0 % 2 ^ 32, arg1 := arg1 % 2 ^ 32,
                   time := d.clk.time, step := step } d

/-- An event of the device as a whole (R389). -/
def raiseDev (code source arg0 arg1 : Nat) (d : Device) : Device := raise 0 code source arg0 arg1 0 d

/-- SPARE_MAPPED and ARRAY_RETIRED: partition 0, and the partition that holds the array (R610). -/
def raiseArray (code a arg0 : Nat) (d : Device) : Device :=
  let d := raiseDev code a arg0 0 d
  match holderOf d a with
  | some (p + 1) =>
    raiseAt false (p + 1) { code := code, count := 1, source := a, arg0 := arg0, arg1 := 0, time := d.clk.time, step := 0 } d
  | _ => d

/-- RESERVATION_BREACH: a guarantee of rank b broken to keep one of rank a (R473). -/
def breach (a b amount : Nat) (d : Device) : Device :=
  let d := raiseDev 0x8003 a b amount d
  match b with
  | 2 => fsat oBreachCounts fBreachCountsRank2 1 d
  | 3 => fsat oBreachCounts fBreachCountsRank3 1 d
  | 4 => fsat oBreachCounts fBreachCountsRank4 1 d
  | 5 => fsat oBreachCounts fBreachCountsRank5 1 d
  | _ => d

/-- The end of a (CODE, SOURCE)'s millisecond (R390). -/
def evMergeEnd (p code source : Nat) (d : Device) : Device :=
  let x := partOf d p
  match x.evOpen.find? fun o => decide (o.code = code) && decide (o.source = source) with
  | none => d
  | some o =>
    if o.count = 0 then setPart p { x with evOpen := x.evOpen.erase o } d
    else
      let close (y : EvRec) : EvRec := if y = o then { o with count := 0 } else y
      let d := evTrace o (evDeliver p o (setPart p { x with evOpen := x.evOpen.map close } d))
      if evDurable o then d else evJournal o d

end Sys2Proof.Machine
end

