-- ==== Sys2Proof/Machine/Flags.lean ====
section
/-! DEFINITION. Completion statuses and flags (R341, R343), and how a command's work ends (R331, R332, R340). -/

namespace Sys2Proof.Machine

def stOk : Nat := 0x00
def stAborted : Nat := 0x01
def stShape : Nat := 0x10
def stPattern : Nat := 0x20
def stIndex : Nat := 0x21
def stEscape : Nat := 0x22
def stStream : Nat := 0x23
def stMemory : Nat := 0x40
def stParity : Nat := 0x41
def stRemote : Nat := 0x50
def stDeadline : Nat := 0x60
def stPermission : Nat := 0x70
def stMalformed : Nat := 0x7F

def flagEmpty : Nat := 1
def flagLate : Nat := 2
def flagFallback : Nat := 4

/-- A refusal before the start. -/
def refusedWith (st : Nat) : Done := { status := st }

/-- A field of a command's words (R313). -/
def cf (c : Cmd) (k hi lo : Nat) : Nat := bits hi lo (wordAt c.words k)

def opOf (c : Cmd) : Nat := cf c 0 7 0
def fixedTime (c : Cmd) : Bool := decide (cf c 0 8 8 = 1)
def extOf (c : Cmd) : Bool := decide (cf c 0 9 9 = 1)
def irqOf (c : Cmd) : Bool := decide (cf c 0 10 10 = 1)
def fenceOf (c : Cmd) : Bool := decide (cf c 0 11 11 = 1)
def domainOf (c : Cmd) : Bool := decide (cf c 0 12 12 = 1)
def targetOf (c : Cmd) : Nat := cf c 0 31 16
def seqOf (c : Cmd) : Nat := cf c 2 15 0
def waitEvOf (c : Cmd) : Nat := cf c 2 21 16
def waitEnOf (c : Cmd) : Bool := decide (cf c 2 22 22 = 1)
def sigEvOf (c : Cmd) : Nat := cf c 2 28 23
def sigEnOf (c : Cmd) : Bool := decide (cf c 2 29 29 = 1)
def stepOf (c : Cmd) : Nat := wordAt c.words 3

/-- Serial arithmetic: (s32)(a - b) ≥ 0 (R271, R328). -/
def serialGe (a b : Nat) : Bool := decide (0 ≤ signed 32 (unsigned 32 ((a : Int) - (b : Int))))

/-- Later by serial arithmetic: (s32)(a - b) > 0 (R313). -/
def serialLater (a b : Nat) : Bool := serialGe a b && decide (a % 2 ^ 32 ≠ b % 2 ^ 32)

/-- How the work of a FIXED_TIME command ends whose budget is given in cycles of the 6.4 GHz PLL: later than start + B + 2 µs it
is a DEADLINE_MISS whose DETAIL is the overrun in µs, rounded up (R331, R332, R340). -/
def deadlinePll (c : Cmd) (pll took : Nat) (x : Done) : Done :=
  let due := pll + 12800
  if fixedTime c ∧ x.status = stOk ∧ due < took then
    { status := stDeadline, detail := min (ceilDiv (took - due) 6400) 0xFFFF }
  else x

/-- The same for a budget in ACLK cycles, at the division in effect at the start (R331, R556). -/
def deadline (c : Cmd) (budget took : Nat) (x : Done) : Done := deadlinePll c (budget * c.div) took x

/-- A command's work ends (R340); a miss after ACLK was stepped down is a breach of rank 2 by rank 0 (R474). -/
def endCmd (c : Cmd) (x : Done) (d : Device) : Device :=
  let d := setCmd { c with phase := .ended, done := x } d
  if x.status = stDeadline then
    let d := fsat (oDeadlineMisses c.part) fDeadlineMissesMisses 1 d
    if c.div < fget d oAclkCtrl fAclkCtrlDiv then breach 0 2 1 d else d
  else d

/-- A command's work waits for its input dump: not that of a FIXED_TIME command, nor of one that has been stopped (R545, R546). -/
def waitsDump (c : Cmd) : Bool := decide (c.dumpIn ≠ []) && !fixedTime c && c.stop.isNone

/-- The command with an id, when it runs with one of these opcodes and its work may go on. -/
def runningAs (d : Device) (id : Nat) (ops : Nat → Bool) : Option Cmd :=
  match cmdOf d id with
  | some c => if c.phase = .running ∧ ops (opOf c) ∧ waitsDump c = false then some c else none
  | none => none

/-- An engine's programmable counters advanced: the counters of a unit whose EVENT is this one (R520 to R522). `ctl` and
`cnt` give the unit's registers, n their number. -/
def perfUnit (n : Nat) (ctl cnt hi : Nat → Nat) (event : Nat) (part : Option Nat) (k : Nat) (d : Device) : Device :=
  (List.range n).foldl (fun d i =>
    let w := (tabGet 0 (ctl i) d.regs).toNat
    if event ≠ 0 ∧ bits 7 0 w = event ∧ (bit 14 w = false ∨ some (bits 13 8 w) = part) then
      let v := pair64 d (cnt i) (hi i) + k
      let d := rput (cnt i) (BitVec.ofNat 32 v) (rput (hi i) (BitVec.ofNat 32 (v / 2 ^ 32 % 2 ^ 16)) d)
      if 2 ^ 48 ≤ v then rput (ctl i) (BitVec.ofNat 32 (setBits 15 15 1 w)) d else d
    else d) d

/-- Array a counts an event (R521). -/
def perfArr (a event : Nat) (part : Option Nat) (k : Nat) (d : Device) : Device :=
  perfUnit 8 (oArrCtl a) (oArrCnt a) (oArrCntHi a) event part k d

/-- A band (0 to 11), a die (12 to 15) or the hub (16) counts an event (R521). -/
def perfOne (u event : Nat) (part : Option Nat) (k : Nat) (d : Device) : Device :=
  perfUnit 6 (oUnitCtl u) (oUnitCnt u) (oUnitCntHi u) event part k d

/-- 64-byte units that a range touches (R521). -/
def units64 (l n : Nat) : Nat := if n = 0 then 0 else (l + n - 1) / 64 - l / 64 + 1

/-- A read or write of HBM counted by the hub (R521). -/
def hbmRead (l n : Nat) (part : Option Nat) (d : Device) : Device := if isHbm l then perfOne 16 0x20 part (units64 l n) d else d
def hbmWrite (l n : Nat) (part : Option Nat) (d : Device) : Device := if isHbm l then perfOne 16 0x21 part (units64 l n) d else d

end Sys2Proof.Machine
end

