-- ==== Sys2Proof/Machine/Mem.lean ====
section
/-! DEFINITION. Memory with its errors: HBM blocks corrected and poisoned (R405, R406), pages that retire (R408), scratch
parity (R253, R605), and checked reads and writes. -/

namespace Sys2Proof.Machine

/-- A page is to be retired, unless it already waits to be (R408). -/
def wantRetire (k page : Nat) (unc : Bool) (d : Device) : Device :=
  if d.hbm.retiring.any fun x => decide (x.1 = k) && decide (x.2.1 = page) then d
  else { d with hbm := { d.hbm with retiring := d.hbm.retiring ++ [(k, page, unc)] } }

/-- 24 hours in ns (R408). -/
def day : Nat := 86400000000000

/-- A single-bit error corrected in the block of a local address (R405), and the page's count of 24 hours (R408). -/
def correctedAt (l : Nat) (d : Device) : Device :=
  let (k, x) := hbmMap d l
  let d := fsat (oHbmEcc k) fHbmEccCorrected 1 d
  let seen := (d.hbm.corrected.filter fun e => decide (d.clk.time < e.2.2 + day)) ++ [(k, x / 4096, d.clk.time)]
  let d := { d with hbm := { d.hbm with corrected := seen } }
  if fget d oHbmCtrl fHbmCtrlRetireThresh ≤ (seen.filter fun e => decide (e.1 = k) && decide (e.2.1 = x / 4096)).length then
    wantRetire k (x / 4096) false d
  else d

/-- A block of HBM found uncorrectable: poisoned, counted, reported to the partition whose read found it, 0 for the device's own;
its page retires (R389, R406, R408). -/
def poisonAt (p l : Nat) (d : Device) : Device :=
  let (k, x) := hbmMap d l
  let key := memKey d l - memKey d l % 32
  if key ∈ d.merr.poison then d
  else
    let d := { d with merr := { d.merr with poison := nsInsert key d.merr.poison } }
    let d := fsat (oHbmUnc k) fHbmUncUncorrectable 1 d
    let d := raise p 0x8002 k (l % 2 ^ 32) (l / 2 ^ 32) 0 d
    wantRetire k (x / 4096) true d

/-- A parity unit of a scratch store fails from now on (R253). -/
def flipAt (l : Nat) (d : Device) : Device :=
  if (scratchAt l).isSome then { d with merr := { d.merr with parity := nsInsert (errKey d l) d.merr.parity } } else d

/-- Waits for a bank, reads that met a write, and stall cycles, counted (R223, R256, R257, R259, R261, R262; log 77). -/
def countWaits (c : Circ) (d : Device) : Device :=
  let d := (c.rowWaits.filter fun x => decide (x.1 < 192)).foldl (fun d x => fsat (oRowRetry x.1) fRowRetryRetries x.2 d) d
  let d := (c.wordWaits.filter fun x => decide (x.1 < 192)).foldl (fun d x => fsat (oWordRetry x.1) fWordRetryRetries x.2 d) d
  let d := (c.bandWaits.filter fun x => decide (x.1 < 12)).foldl (fun d x => fsat (oBandRetry x.1) fBandRetryRetries x.2 d) d
  let d := (c.stalls.filter fun x => decide (x.1 < 12)).foldl (fun d x => fsat (oScatterStall x.1) fScatterStallStalls x.2 d) d
  (c.collisions.filter fun x => decide (x.1 < 192)).foldl (fun d x => fsat (oRowCollision x.1) fRowCollisionCollisions x.2 d) d

/-- What a step of a partition's command, or for p = 0 of the device, meets in memory: waits for banks, and errors (log 5). -/
def applyCirc (p : Nat) (c : Circ) (d : Device) : Device :=
  let d := countWaits c d
  let d := (c.soft.filter isHbm).foldl (fun d l => correctedAt l d) d
  let d := (c.hard.filter isHbm).foldl (fun d l => poisonAt p l d) d
  c.flips.foldl (fun d l => flipAt l d) d

/-- What a checked read of a range meets: none, or the status of the failure and the device with it counted (R253, R406). -/
def readFail (d : Device) (l n : Nat) : Option (Nat × Device) :=
  match firstBad d l n with
  | none => none
  | some a => if (scratchAt a).isSome then some (stParity, countParity a d) else some (stMemory, d)

/-- The first addresses of the units of scratch stores that fail within a range. -/
def failingUnits (d : Device) (l n : Nat) : List Nat :=
  d.merr.parity.filter fun k => decide (k < l + n) &&
    (match scratchAt k with | some (s, _, _) => decide (l < k + parityUnit s) | none => false)

/-- Every failing unit that a read of a range meets is counted (R253). -/
def countRange (l n : Nat) (d : Device) : Device := (failingUnits d l n).foldl (fun d k => countParity k d) d

/-- The unit that a write at a local address is made in: the access unit of a store, or a 32-byte block (R252, R406). -/
def unitAt (l : Nat) : Nat :=
  match scratchAt l with
  | some (s, _, _) => storeUnit s
  | none => 32

/-- Pieces of a range that lie each in one unit: address and length. -/
def pieces : Nat → Nat → Nat → List (Nat × Nat)
  | 0, _, _ => []
  | fuel + 1, l, n =>
    if n = 0 then [] else
      let k := min (unitAt l - l % unitAt l) n
      (l, k) :: pieces fuel (l + k) (n - k)

/-- The error marks of the places of a unit. -/
def unitKeys (d : Device) (l : Nat) : List Nat :=
  let u := unitAt l
  let start := l - l % u
  match scratchAt l with
  | some (s, _, _) => (List.range (u / parityUnit s)).map fun k => start + k * parityUnit s
  | none => [errKey d l]

/-- One unit, or part of one, written (R406, R605): a part of a unit whose parity fails is not written; a whole unit passes its
check afterwards. -/
def writeUnit (l : Nat) (bs : List Byte) (d : Device) : Device × Option Nat :=
  if bs.length = unitAt l then
    let ks := unitKeys d l
    let d := storeBytes l bs d
    ({ d with merr := { poison := d.merr.poison.filter (!ks.contains ·), parity := d.merr.parity.filter (!ks.contains ·) } },
      none)
  else if (scratchAt l).isSome && (unitKeys d l).any (d.merr.parity.contains ·) then (countParity l d, some stParity)
  else (storeBytes l bs d, none)

/-- Pieces written in order: the part of a unit that fails its check is left out, and its failure is the result (R605). -/
def writePieces : List (Nat × Nat) → List Byte → Device → Device × Option Nat
  | [], _, d => (d, none)
  | (l, n) :: r, bs, d =>
    match writeUnit l (bs.take n) d with
    | (d, none) => writePieces r (bs.drop n) d
    | (d, some st) => ((writePieces r (bs.drop n) d).1, some st)

/-- Bytes written from a local address on, with the checks of R253, R406 and R605: the device, and the status of a
failure. -/
def writeMem (l : Nat) (bs : List Byte) (d : Device) : Device × Option Nat :=
  if d.merr.poison = [] ∧ d.merr.parity = [] then (storeBytes l bs d, none)
  else writePieces (pieces bs.length l bs.length) bs d

/-- A write whose check is not part of the writer's result. -/
def put (l : Nat) (bs : List Byte) (d : Device) : Device := (writeMem l bs d).1

/-- A write of one of the device's own rings in HBM (R486, R531, R544); outside HBM nothing is written (log 18). -/
def putHbm (l : Nat) (bs : List Byte) (d : Device) : Device :=
  if isHbm (l + bs.length - 1) then put l bs d else d

/-- A store cleared: every unit 0 with valid parity (R254). -/
def clearRange (l n : Nat) (d : Device) : Device :=
  let d := memClear l n d
  { d with merr := { d.merr with parity := d.merr.parity.filter fun k => decide (k < l ∨ l + n ≤ k) } }

def clearArray (a : Nat) (d : Device) : Device :=
  clearRange (wordAddr a 0) (storeSize .word) (clearRange (rowAddr a 0) (storeSize .row) d)
def clearBand (b : Nat) (d : Device) : Device := clearRange (bandAddr b 0) (storeSize .band) d

/-! ## Stores that are held (R254, R453) -/

/-- An array's stores answer no access now: the array is being substituted, or they are being cleared. -/
def heldArray (d : Device) (a : Nat) : Bool := (arrOf d a).failing || d.parts.any fun e => e.2.clrArrays.contains a

/-- A band store answers no access now: it is being cleared. -/
def heldBand (d : Device) (b : Nat) : Bool := d.parts.any fun e => e.2.clrBands.contains b

/-- The store that holds a local address answers no access now. -/
def heldAt (d : Device) (l : Nat) : Bool :=
  match scratchAt l with
  | some (.band, b, _) => heldBand d b
  | some (_, a, _) => heldArray d a
  | none => false

/-- An access to a range, which begins and ends in stores, waits. -/
def heldRange (d : Device) (l n : Nat) : Bool := heldAt d l || heldAt d (l + n - 1)

/-- The word of an array's word store at a word index. -/
def wsWord (d : Device) (a w : Nat) : Nat := leNat (bytesAt d (wordAddr a (4 * w)) 4)

end Sys2Proof.Machine
end

