-- ==== Sys2Proof/Machine/Outputs.lean ====
section
/-! DEFINITION. Output pins that many conditions decide, and changes of power state: ILLUM_EN (R492 to R494), TRIG (R487),
POWER_STATE and SYNC (R540). -/

namespace Sys2Proof.Machine

/-- TRIG outputs are held low (R487). -/
def trigBlocked (d : Device) : Bool := !powered d || decide (role d = roleStandby) || decide (role d = roleFenced)

/-- ILLUM_ENn (R492). -/
def illumOn (d : Device) (n : Nat) : Bool :=
  bit n (fget d oIllumCtrl fIllumCtrlEn) && decide (d.ilk.st = .active) &&
  (!bit n (fget d oIllumCtrl fIllumCtrlGate) || d.ilk.gate) &&
  decide (role d ≠ roleStandby) && decide (role d ≠ roleFenced) && powered d

/-- The illumination and trigger outputs as the device's state now demands (R487, R492, R494). -/
def outputs (d : Device) : Device :=
  let il := b2n (illumOn d 0) + 2 * b2n (illumOn d 1) + 4 * b2n (illumOn d 2) + 8 * b2n (illumOn d 3)
  { d with pins := { d.pins with illum := BitVec.ofNat 4 il, trig := if trigBlocked d then 0 else d.pins.trig } }

/-- The code of a power state in POWER_STATE packets (R534). -/
def powerCode (p : Power) : Nat :=
  match p with
  | .run => 0 | .idle => 1 | .standby => 2 | _ => 3

/-- POWER_STATE, with the packets dropped at the transition (R534, R540). -/
def powerPkt (old new drops : Nat) (d : Device) : TPkt :=
  { type := 3, stamp := d.clk.time, payload := [BitVec.ofNat 64 (old + 8 * new + min drops 0xFFFFFF * 256)],
    since := d.clk.time }

/-- A change among RUN, IDLE and STANDBY: POWER_STATE, then SYNC, and the outputs (R540, R561, R562). -/
def powerTo (p : Power) (d : Device) : Device :=
  if d.clk.power = p then d
  else
    let d := trcOwn (powerPkt (powerCode d.clk.power) (powerCode p) 0 d) d
    let d := trcOwn (syncPkt d) d
    outputs { d with clk := { d.clk with power := p, standbyWanted := false } }

/-- A dispatch, remote access or BAR4 access: the quiet time restarts, and the device returns to RUN (R561, R562). -/
def wakeRun (d : Device) : Device :=
  let d := { d with clk := { d.clk with busyAt := d.clk.time } }
  match d.clk.power with
  | .idle | .standby => powerTo .run d
  | _ => d

/-- Registers of the always-on domain: clocks and power but ACLK_CTRL and BOOT_CTRL, position and interlock, journal, LOCK
(R565, R597; log 26). -/
def alwaysOn (off : Nat) : Bool :=
  (decide (0x1000 ≤ off) && decide (off < 0x3000) && decide (off ≠ oAclkCtrl) && decide (off ≠ oBootCtrl)) ||
  (decide (0x4000 ≤ off) && decide (off < 0x8000)) || decide (off = oLock) || decide (off = oLockedWrites)

/-- The main dies lose their power: everything but the always-on domain is as after a power-on reset (R565, R567). -/
def mainReset (d : Device) : Device :=
  { variant := d.variant, straps := d.straps, images := d.images, lockWritten := d.lockWritten, nextId := d.nextId,
    pins := { d.pins with hbOut := false, fenceOut := false, claim := false, trig := 0, illum := 0, coreVid := 0 },
    clk := { d.clk with capOver := 0, capUnder := 0, delayTiles := false, hot := [], divWanted := none, standbyWanted := false,
                        aclk := 0, fclk := 0, hclk := 0, accumulating := true },
    pcie := { held := d.pcie.held }, regs := d.regs.filter fun e => alwaysOn e.1,
    align := { stepped := d.align.stepped }, pos := d.pos, trigs := d.trigs, ilk := d.ilk, jnl := d.jnl, free := d.free,
    out := d.out }

end Sys2Proof.Machine
end

