-- ==== Sys2Proof/Machine/Links.lean ====
section
/-! DEFINITION. Hyphor routes, sending, replay and rerouting (R417 to R421, R428, R430, R434, R435, R437, R459). -/

namespace Sys2Proof.Machine

/-- Link states (LINK_STATUS). -/
def lkDown : Nat := 0
def lkTraining : Nat := 1
def lkAligning : Nat := 2
def lkUp : Nat := 3
def lkFailed : Nat := 4
def lkMiscabled : Nat := 5

def linkState (d : Device) (l : Nat) : Nat := fget d (oLinkStatus l) fLinkStatusState
def setState (l v : Nat) (d : Device) : Device := fput (oLinkStatus l) fLinkStatusState v d

/-- The far end that R420 gives a link, as (device, link); none for a global link that is unused. -/
def farEnd (d : Device) (l : Nat) : Option (Nat × Nat) :=
  let D := ownDev d / 16
  let s := ownDev d % 16
  if l < 30 then some (16 * D + (s + l / 2 + 1) % 16, 2 * (14 - l / 2) + l % 2)
  else if l < 46 then
    if 16 * s + (l - 30) = D then none else some (16 * (16 * s + (l - 30)) + D / 16, 30 + D % 16)
  else some (fget d (oSpareCfg (l - 46)) fSpareCfgPeerDev, 46 + fget d (oSpareCfg (l - 46)) fSpareCfgPeerLink)

/-- The domain links to a slot (R420). -/
def domainLinks (d : Device) (t : Nat) : List Nat :=
  let dd := (t + 16 - ownDev d % 16) % 16
  if dd = 0 then [] else [2 * (dd - 1), 2 * (dd - 1) + 1]

/-- The links over which packets for a device leave (R428). -/
def nextLinks (d : Device) (dst : Nat) : List Nat :=
  let r := dst / 16
  if r = ownDev d / 16 then domainLinks d (dst % 16)
  else if r / 16 = ownDev d % 16 then [30 + r % 16]
  else domainLinks d (r / 16)

/-- A link to the peer of an active/standby pair: it carries pair packets and no other traffic (R459). -/
def pairLink (d : Device) (l : Nat) : Bool :=
  fbit d oPairCtrl fPairCtrlPairEn && (domainLinks d (fget d oPairCtrl fPairCtrlPeerSlot)).contains l

/-- A link that may carry traffic. -/
def carries (d : Device) (l : Nat) : Bool := decide (linkState d l = lkUp) && !pairLink d l

/-- The lowest slot through which a relay reaches a slot: both its links are UP. The far one's state is the surroundings' (log 38). -/
def relayTo (n : Nat) (d : Device) (t : Nat) : Option Nat :=
  (List.range 16).find? fun q =>
    bit q (fget d oHyCtrl fHyCtrlSlots) && decide (q ≠ t) && decide (q ≠ ownDev d % 16) && (domainLinks d q).any (carries d) &&
    Config.peerLinkUp n q t

/-- The link of a slot's that carries the traffic of link l: both links of a pair are used (R428). -/
def pick (d : Device) (t l : Nat) : Option Nat :=
  let ks := (domainLinks d t).filter (carries d)
  ks[l % 2 % max 1 ks.length]?

/-- The link towards the relay that serves access to the pair's peer, for what its link l would carry (R459). -/
def pairRelay (d : Device) (l : Nat) : Option Nat :=
  (relayTo d.free d (fget d oPairCtrl fPairCtrlPeerSlot)).bind fun q => pick d q l

/-- The link that carries a link's traffic: itself, one that R435 or R459 put in its place, or none. -/
def carrier (d : Device) (l : Nat) : Option Nat :=
  if pairLink d l then pairRelay d l
  else match tabGet 49 l d.rem.routes with
    | 49 => some l
    | 48 => none
    | k => if pairLink d k then none else some k

/-- The link for a packet: those of a pair that can be used now are taken in turn (R428). -/
def chooseLink (d : Device) (dst pseq : Nat) : Option Nat :=
  let ks := (nextLinks d dst).filterMap fun l => (carrier d l).filter (carries d)
  ks[pseq % max 1 ks.length]?

/-! ## Flits sent (R417 to R419; log 13) -/

/-- The flits of a packet, 240 bytes each. -/
def flitsOf (p : Packet) : Nat :=
  let n := match p.load with
    | .write _ _ bs _ _ _ _ | .narrow _ _ _ _ _ bs _ _ _ _ | .data _ _ bs _ _ | .narrowData _ _ _ _ _ bs _ _ _ _ | .bytes _ _ bs => bs.length
    | .share _ _ ws table => 4 * (ws.length + table.length)
    | _ => 0
  max 1 (ceilDiv n 240)

/-- FTYPE of a packet's flits. -/
def ftypeOf (p : Packet) : Nat := match p.load with | .desc _ => 4 | _ => 1

/-- A flit's header (R417). -/
def header (p : Packet) (lseq ack : Nat) (nak last : Bool) : BitVec 96 :=
  BitVec.ofNat 96 (ftypeOf p + lseq * 2 ^ 4 + ack * 2 ^ 16 + b2n nak * 2 ^ 28 + b2n last * 2 ^ 29 + b2n p.resp * 2 ^ 30 + p.hop * 2 ^ 31 +
    p.src * 2 ^ 34 + p.dst * 2 ^ 46 + p.part * 2 ^ 58 + p.pseq.toNat * 2 ^ 64)

/-- The class of a packet's buffer credits (R419). -/
def creditClass (p : Packet) : Nat := 2 * p.hop + b2n p.resp

/-- Unacknowledged flits of a link (R418). -/
def unacked (x : Link) : Nat := (x.replay.map fun e => e.2.1).sum

/-- The last n flits of a packet leave on a link, the first of them with an LSEQ. -/
def sendFlits (l : Nat) (e : Nat × Nat × Packet) (d : Device) : Device :=
  let ack := ((linkOf d l).rxNext + 4095) % 4096
  let hs := (List.range e.2.1).map fun k => header e.2.2 ((e.1 + k) % 4096) ack false (decide (k + 1 = e.2.1))
  perfOne 16 0x25 (some e.2.2.part) e.2.1 (emit (.packet l e.2.2 hs) d)

/-- A link takes a packet now: it is UP and no pair link, nothing of the packet's class waits, the far end has room for the class, and
the replay buffer for the flits. -/
def linkTakes (d : Device) (l : Nat) (p : Packet) : Bool :=
  let x := linkOf d l
  carries d l && !(x.waiting.any fun y => decide (creditClass y = creditClass p)) && !x.noCredit.contains (creditClass p) &&
  (decide (x.replay = []) || decide (unacked x + flitsOf p ≤ 256))

/-- A packet on a link: sent and kept for replay, or waiting (R418, R419, R434). -/
def transmit (l : Nat) (p : Packet) (d : Device) : Device :=
  let x := linkOf d l
  if linkTakes d l p then
    let e := (x.txNext, flitsOf p, p)
    sendFlits l e (setLink l { x with txNext := (x.txNext + flitsOf p) % 4096, replay := x.replay ++ [e] } d)
  else setLink l { x with waiting := x.waiting ++ [p] } d

/-- A packet sent on its way; without a route it waits at the first link of its route (R432, R434). -/
def routeSend (p : Packet) (d : Device) : Device :=
  match chooseLink d p.dst p.pseq.toNat with
  | some l => transmit l p d
  | none =>
    match nextLinks d p.dst with
    | l :: _ => setLink l { linkOf d l with waiting := (linkOf d l).waiting ++ [p] } d
    | [] => d

/-- The key of a packet stream (R430). -/
def streamKey (dev part : Nat) (resp : Bool) : Nat := (dev * 64 + part) * 2 + b2n resp

/-- The link that this device's next packet of a stream takes; 0xFFFFFFFF for none. -/
def nextLink (d : Device) (dst part : Nat) (resp : Bool) : Nat :=
  (chooseLink d dst (tabGet 0 (streamKey dst part resp) d.rem.txSeq)).getD 0xFFFFFFFF

/-- A packet of this device with its PSEQ (R430). -/
def sendPacket (dst part : Nat) (resp : Bool) (load : Payload) (d : Device) : Device :=
  let k := streamKey dst part resp
  let n := tabGet 0 k d.rem.txSeq
  let d := { d with rem := { d.rem with txSeq := tabSet 0 k ((n + 1) % 2 ^ 32) d.rem.txSeq } }
  routeSend { src := ownDev d, dst := dst, part := part, resp := resp, pseq := BitVec.ofNat 32 n, hop := 0, load := load } d

/-- The device in a slot of the own domain. -/
def slotDev (d : Device) (t : Nat) : Nat := ownDev d / 16 * 16 + t

/-- A DESC flit to a member (R444). -/
def sendDesc (t part : Nat) (x : Desc) (d : Device) : Device :=
  routeSend { src := ownDev d, dst := slotDev d t, part := part, resp := false, pseq := 0, hop := 0, load := .desc x } d

/-- Packets that wait at a link are sent again on what is now their way. -/
def flushWaiting (l : Nat) (d : Device) : Device :=
  let x := linkOf d l
  x.waiting.foldl (fun d p => routeSend p d) (setLink l { x with waiting := [] } d)

/-- The same at every link. -/
def flushLinks (d : Device) : Device :=
  (d.links.filter fun e => decide (e.2.waiting ≠ [])).foldl (fun d e => flushWaiting e.1 d) d

/-! ## Acknowledgement and replay (R418) -/

/-- The first m flits leave a replay buffer. -/
def dropFlits : Nat → List (Nat × Nat × Packet) → List (Nat × Nat × Packet)
  | _, [] => []
  | m, (f, n, p) :: r => if n ≤ m then dropFlits (m - n) r else ((f + m) % 4096, n - m, p) :: r

/-- Flits acknowledged up to a link sequence leave the replay buffer. -/
def ackUpTo (k : Nat) (x : Link) : Link :=
  match x.replay with
  | [] => x
  | e :: _ =>
    let m := (k + 4096 - e.1) % 4096 + 1
    if m ≤ unacked x then { x with replay := dropFlits m x.replay, tries := 0 } else x

/-- The first unacknowledged flit is sent again, with all that follow it (R418). -/
def replayFrom (l : Nat) (d : Device) : Device :=
  let x := linkOf d l
  match x.replay with
  | [] => d
  | e :: _ =>
    let d := emit (.flitReplay l e.1) (fsat (oLinkErr l) fLinkErrReplays 1 (setLink l { x with tries := x.tries + 1 } d))
    x.replay.foldl (fun d e => sendFlits l e d) d

/-! ## Failures (R434, R435, R437) -/

/-- Far device of a link. -/
def farDevice (d : Device) (l : Nat) : Option Nat := (farEnd d l).map (·.1)

/-- The other link of a pair. -/
def sibling (l : Nat) : Nat := if l % 2 = 0 then l + 1 else l - 1

/-- STANDS_FOR of a spare link. -/
def standsFor (d : Device) (k : Nat) : Nat := fget d (oSpareCfg (k - 46)) fSpareCfgStandsFor

/-- A spare link to a failed link's far device that is UP: a free one, or one that stands in for the other link of the pair (R435,
R437). -/
def spareFor (d : Device) (l : Nat) : Option Nat :=
  if 46 ≤ l then none
  else
    let ks := [46, 47].filter fun k => carries d k && decide (farDevice d k = farDevice d l)
    (ks.find? fun k => decide (standsFor d k = 0x3F)).or (ks.find? fun k => decide (l < 30) && decide (standsFor d k = sibling l))

/-- The slot that a domain link leads to. -/
def slotOf (d : Device) (l : Nat) : Nat := (ownDev d % 16 + l / 2 + 1) % 16

/-- The link that takes over a failed link's traffic, 48 for none (R435). -/
def newRoute (n : Nat) (d : Device) (l : Nat) : Nat :=
  match spareFor d l with
  | some k => k
  | none =>
    if 30 ≤ l then 48
    else if carries d (sibling l) then sibling l
    else match relayTo n d (slotOf d l) with
      | some q => (pick d q l).getD 48
      | none => 48

/-- The links whose traffic a link carries. -/
def carried (d : Device) (l : Nat) : List Nat := (d.rem.routes.filter fun e => decide (e.2 = l)).map (·.1)

/-- STANDS_FOR of both spare links as the routes now are: the first link that a spare stands in for (R437; log 38). -/
def standIns (d : Device) : Device :=
  [46, 47].foldl (fun d k => fput (oSpareCfg (k - 46)) fSpareCfgStandsFor ((carried d k).headD 0x3F) d) d

/-- The route of a link's traffic set: 49 is the link itself, 48 none. -/
def setRoute (l k : Nat) (d : Device) : Device := standIns { d with rem := { d.rem with routes := tabSet 49 l k d.rem.routes } }

/-! ### The time master (R424) -/

/-- A slot's device is reached, and in how many hops: by a domain link, of which one may be about to come UP, or by a relay. -/
def hopsTo (n : Nat) (d : Device) (coming : Option Nat) (t : Nat) : Option Nat :=
  if t = ownDev d % 16 then some 0
  else if (domainLinks d t).any fun k => decide (some k = coming) || decide (linkState d k = lkUp) then some 1
  else if (relayTo n d t).isSome then some 2 else none

/-- The time master: the lowest slot present whose device is reachable, with the hops to it (R424). -/
def masterOf (n : Nat) (d : Device) (coming : Option Nat) : Option (Nat × Nat) :=
  (List.range 16).findSome? fun t =>
    if bit t (fget d oHyCtrl fHyCtrlSlots) then (hopsTo n d coming t).map fun h => (t, h) else none

/-- What a lost route leaves of the alignment: with the same master still reached TIME stays aligned over the new route; else it is
aligned no longer until the next exchanges (R424; log 41). -/
def alignLost (d : Device) : Device :=
  if fbit d oHyTime fHyTimeAligned then
    let (n, d) := drawFree d
    match masterOf n d none with
    | some (t, h) =>
      let same := decide (t = fget d oHyTime fHyTimeMaster)
      fput oHyTime fHyTimeAligned (b2n same) (fput oHyTime fHyTimeMaster t (fput oHyTime fHyTimeHops h d))
    | none => fput oHyTime fHyTimeAligned 0 d
  else d

/-! ### New routes -/

/-- A new route for one link's traffic, with LINK_REROUTED (R435). -/
def rerouteOne (report : Bool) (l : Nat) (d : Device) : Device :=
  let (n, d) := drawFree d
  let k := newRoute n d l
  let d := setRoute l k d
  if report then raiseDev 0x0008 l (if k = 48 then 0xFFFFFFFF else k) 0 d else d

/-- What a link has not had acknowledged, and what waits at it, goes another way. -/
def divert (l : Nat) (d : Device) : Device :=
  let x := linkOf d l
  flushWaiting l (setLink l { x with replay := [], tries := 0, waiting := x.replay.map (·.2.2) ++ x.waiting } d)

/-- A link's traffic, and what it carried for others, takes new routes; unacknowledged flits are resent on them (R434, R435,
R437). -/
def reroute (report : Bool) (l : Nat) (d : Device) : Device :=
  let ls := carried d l
  let d := if 46 ≤ l then d else rerouteOne report l d
  divert l (alignLost (ls.foldl (fun d k => rerouteOne report k d) d))

/-- A link fails (R434). -/
def linkFail (l : Nat) (d : Device) : Device :=
  if linkState d l = lkUp then reroute true l (setState l lkFailed d) else d

/-- A NAK arrives (R418). -/
def nak (l ack : Nat) (d : Device) : Device :=
  if linkState d l = lkUp then
    let d := setLink l (ackUpTo ack (linkOf d l)) d
    if (linkOf d l).replay = [] then flushWaiting l d
    else if 8 ≤ (linkOf d l).tries then linkFail l d else flushWaiting l (replayFrom l d)
  else d

/-- 2 µs without an acknowledgement (R418); a flit replayed 8 times without one fails the link (R434). -/
def replayTimeout (l : Nat) (d : Device) : Device :=
  if linkState d l = lkUp ∧ (linkOf d l).replay ≠ [] then
    if 8 ≤ (linkOf d l).tries then linkFail l d else replayFrom l d
  else d

/-- A data lane is replaced by the spare lane, or, when that is in use, the link fails (R433, R434). -/
def laneSpared (l lane : Nat) (d : Device) : Device :=
  if linkState d l = lkUp then
    if fget d (oLinkStatus l) fLinkStatusLaneOut = 7 then raiseDev 0x0007 l lane 0 (fput (oLinkStatus l) fLinkStatusLaneOut lane d)
    else linkFail l d
  else d

/-! ## Meanings -/

/-- NAK (R418). -/
def execNak (l ack : Nat) (s : State) := run (.nak l ack) (nak l ack) s
/-- REPLAY_TIMEOUT (R418). -/
def execReplayTimeout (l : Nat) (s : State) := run (.replayTimeout l) (replayTimeout l) s
/-- LANE_SPARED (R433). -/
def execLaneSpared (l lane : Nat) (s : State) := run (.laneSpared l lane) (laneSpared l lane) s
/-- LINK_FAIL (R434). -/
def execLinkFail (l : Nat) (s : State) := run (.linkFail l) (linkFail l) s

end Sys2Proof.Machine
end

