-- ==== Sys2Proof/Machine/Operands.lean ====
section
/-! DEFINITION. Numbers: exact rationals, rounding (R139, R140), floating formats (R99), FP32 arithmetic, containers (R62, R96)
and block float (R103 to R107). -/

namespace Sys2Proof.Machine

/-! ## Rounding -/

/-- n / d to the nearest natural number; a tie goes away from zero, or to the even neighbour for a LEGACY7 ring. -/
def divRound (ev : Bool) (n d : Nat) : Nat :=
  let q := n / d
  let r := n % d
  if 2 * r < d then q else if d < 2 * r then q + 1 else if ev && decide (q % 2 = 0) then q else q + 1

/-- round(n / d) (R139, R140). -/
def roundQ (ev : Bool) (n : Int) (d : Nat) : Int :=
  if n < 0 then -(divRound ev n.natAbs d : Int) else (divRound ev n.natAbs d : Int)

/-- 2^z, for a negative z its denominator. -/
def pow2 (z : Int) : Nat := 2 ^ z.toNat

/-- floor(log2(n / d)) for n, d > 0. -/
def floorLog2 (n d : Nat) : Int :=
  let k : Int := (n.log2 : Int) - (d.log2 : Int)
  if d * pow2 k ≤ n * pow2 (-k) then k else k - 1

/-! ## Floating formats (R99) -/

/-- A floating format: bits of precision, exponent bits, exponent of the least normal number, and whether the top exponent holds
infinities and NaNs. -/
structure Fmt where
  prec : Nat
  ebits : Nat
  emin : Int
  ieee : Bool
  deriving DecidableEq, Repr

def fp32 : Fmt := ⟨24, 8, -126, true⟩
def fp16 : Fmt := ⟨11, 5, -14, true⟩
def bf16 : Fmt := ⟨8, 8, -126, true⟩
def e4m3 : Fmt := ⟨4, 4, -6, false⟩
def e5m2 : Fmt := ⟨3, 5, -14, true⟩

/-- A floating value: a sign and n / d, an infinity, or a NaN. -/
inductive Fl where
  | fin (neg : Bool) (n d : Nat)
  | inf (neg : Bool)
  | nan
  deriving DecidableEq, Repr

/-- m × 2^e. -/
def flScale (neg : Bool) (m : Nat) (e : Int) : Fl := .fin neg (m * pow2 e) (pow2 (-e))

/-- The value that the bits of a format hold. -/
def flDecode (f : Fmt) (w : Nat) : Fl :=
  let mb := f.prec - 1
  let m := w % 2 ^ mb
  let ex := (w / 2 ^ mb) % 2 ^ f.ebits
  let neg := bit (mb + f.ebits) w
  if ex = 2 ^ f.ebits - 1 ∧ f.ieee then (if m = 0 then .inf neg else .nan)
  else if ex = 2 ^ f.ebits - 1 ∧ m = 2 ^ mb - 1 then .nan
  else if ex = 0 then flScale neg m (f.emin - mb)
  else flScale neg (2 ^ mb + m) (f.emin - mb + ((ex : Int) - 1))

/-- The bits of a format's largest finite value, without sign. -/
def maxBits (f : Fmt) : Nat :=
  if f.ieee then (2 ^ f.ebits - 1) * 2 ^ (f.prec - 1) - 1 else 2 ^ (f.prec - 1 + f.ebits) - 2

/-- The sign bit of a format. -/
def signBit (f : Fmt) (neg : Bool) : Nat := b2n neg * 2 ^ (f.prec - 1 + f.ebits)

/-- n / d rounded to a format's precision, as bits without sign, and whether it is beyond the largest finite value (R139). -/
def flRound (f : Fmt) (ev : Bool) (n d : Nat) : Nat × Bool :=
  if n = 0 then (0, false)
  else
    let mb : Int := (f.prec : Int) - 1
    let e := max (f.emin - mb) (floorLog2 n d - mb)
    let m := divRound ev (n * pow2 (-e)) (d * pow2 e)
    let (m, e) := if m = 2 ^ f.prec then (2 ^ (f.prec - 1), e + 1) else (m, e)
    let w := if m < 2 ^ (f.prec - 1) then m else m - 2 ^ (f.prec - 1) + ((e + mb - f.emin).toNat + 1) * 2 ^ (f.prec - 1)
    if maxBits f < w then (maxBits f, true) else (w, false)

/-- A value in the bits of a format, what lies beyond it taken as the largest finite value, a NaN as 0; and whether the
element counts as saturated (R100, R137). -/
def flSat (f : Fmt) (ev : Bool) : Fl → Nat × Bool
  | .fin neg n d => let (w, o) := flRound f ev n d; (signBit f neg + w, o)
  | .inf neg => (signBit f neg + maxBits f, true)
  | .nan => (0, true)

/-- A value rounded to FP32, beyond the largest finite value an infinity. -/
def rnd32 (ev : Bool) : Fl → Fl
  | .fin neg n d => let (w, o) := flRound fp32 ev n d; if o then .inf neg else flDecode fp32 (signBit fp32 neg + w)
  | x => x

/-- A value rounded to FP32 with saturation: the value, and 1 when it was set to the largest finite value. -/
def sat32 (ev : Bool) (x : Fl) : Fl × Nat :=
  let (w, o) := flSat fp32 ev x
  (flDecode fp32 w, b2n o)

/-- A non-finite value as R100 takes it, in the format it came from: the value, and 1 when it was not finite. -/
def finite (f : Fmt) : Fl → Fl × Nat
  | .fin neg n d => (.fin neg n d, 0)
  | .inf neg => (flDecode f (signBit f neg + maxBits f), 1)
  | .nan => (.fin false 0 1, 1)

/-- An integer as a value. -/
def flInt (z : Int) : Fl := .fin (decide (z < 0)) z.natAbs 1

/-- n / d as a value. -/
def flRat (n : Int) (d : Nat) : Fl := .fin (decide (n < 0)) n.natAbs d

/-- The rational of a finite value; 0 for any other. -/
def flNum : Fl → Int × Nat
  | .fin true n d => (-(n : Int), d)
  | .fin false n d => (n, d)
  | _ => (0, 1)

def flNeg : Fl → Fl
  | .fin s n d => .fin (!s) n d
  | .inf s => .inf (!s)
  | .nan => .nan

def flAbs : Fl → Fl
  | .fin _ n d => .fin false n d
  | .inf _ => .inf false
  | .nan => .nan

/-- Exact sum. -/
def flAdd : Fl → Fl → Fl
  | .fin s n d, .fin t m e =>
    if s = t then .fin s (n * e + m * d) (d * e)
    else if n * e = m * d then .fin false 0 1
    else if m * d < n * e then .fin s (n * e - m * d) (d * e)
    else .fin t (m * d - n * e) (d * e)
  | .inf s, .inf t => if s = t then .inf s else .nan
  | .inf s, .fin .. => .inf s
  | .fin .., .inf t => .inf t
  | _, _ => .nan

/-- Exact product. -/
def flMul : Fl → Fl → Fl
  | .fin s n d, .fin t m e => .fin (s != t) (n * m) (d * e)
  | .inf s, .inf t => .inf (s != t)
  | .inf s, .fin t m _ => if m = 0 then .nan else .inf (s != t)
  | .fin s n _, .inf t => if n = 0 then .nan else .inf (s != t)
  | _, _ => .nan

/-- Exact quotient; a quotient by 0 is an infinity, 0 / 0 a NaN. -/
def flDiv : Fl → Fl → Fl
  | .fin s n d, .fin t m e =>
    if m = 0 then (if n = 0 then .nan else .inf (s != t)) else .fin (s != t) (n * e) (d * m)
  | .inf s, .fin t _ _ => .inf (s != t)
  | .fin s _ _, .inf t => .fin (s != t) 0 1
  | _, _ => .nan

/-- a ≤ b for numbers; −0 equals +0; false for a NaN. -/
def flLe : Fl → Fl → Bool
  | .nan, _ => false
  | _, .nan => false
  | .inf true, _ => true
  | _, .inf false => true
  | .inf false, _ => false
  | _, .inf true => false
  | a, b => decide ((flNum a).1 * (flNum b).2 ≤ (flNum b).1 * (flNum a).2)

def flLt (a b : Fl) : Bool := flLe a b && !flLe b a
def flMax (a b : Fl) : Fl := if flLe a b then b else a
def flMin (a b : Fl) : Fl := if flLe a b then a else b
def flZero : Fl := .fin false 0 1
def flOne : Fl := .fin false 1 1

/-! ## Kinds and containers (R62, R93, R96) -/

/-- The container of an integer of P bits (R62). -/
def container (p : Nat) : Nat := if p ≤ 1 then 1 else if p ≤ 2 then 2 else if p ≤ 4 then 4 else if p ≤ 8 then 8 else 16

/-- The container width of a KIND, P the declared width (R96). -/
def kindWidth (kind p : Nat) : Nat :=
  match kind with
  | 2 => 32 | 3 => 16 | 4 => 16 | 5 => 8 | 6 => 8 | 7 => 4 | 8 => 8 | _ => container p

/-- The floating format of a KIND. -/
def kindFmt (kind : Nat) : Fmt :=
  match kind with
  | 2 => fp32 | 4 => bf16 | 5 => e4m3 | 6 => e5m2 | _ => fp16

/-- The range of an integer of P bits. -/
def loOf (p : Nat) (sgn : Bool) : Int := if sgn then -(2 ^ (p - 1) : Int) else 0
def hiOf (p : Nat) (sgn : Bool) : Int := if sgn then (2 ^ (p - 1) : Int) - 1 else (2 ^ p : Int) - 1

/-- A stored integer read from its whole container and clamped to its declared range, and 1 when it was clamped (R70, R98). -/
def intElem (p : Nat) (sgn : Bool) (w : Nat) : Int × Nat :=
  let z : Int := if sgn then signed (container p) w else (w : Int)
  let q := clip (loOf p sgn) (hiOf p sgn) z
  (q, b2n (decide (q ≠ z)))

/-! ## Block float (R103 to R107) -/

/-- The exponent x of a block's unit (R103). -/
def unitExp (e : Nat) (pm : Nat) : Int := (e : Int) - 127 - ((pm : Int) - 2)

/-- x × 2^(−k) rounded to an integer. -/
def scaleRound (ev : Bool) (n : Int) (d : Nat) (k : Int) : Int := roundQ ev (n * pow2 (-k)) (d * pow2 k)

/-- The largest mantissa (R103). -/
def mantMax (pm : Nat) : Int := (2 ^ (pm - 1) : Int) - 1

/-- The least exponent at which a largest magnitude n / d fits (R104). -/
def blockExp (ev : Bool) (pm n d : Nat) : Nat :=
  if n = 0 then 0
  else
    let e := (floorLog2 n d + 127).toNat
    let fits (e : Nat) : Bool := decide (scaleRound ev n d (unitExp e pm) ≤ mantMax pm)
    min 254 (if fits e then e else e + 1)

/-- A larger magnitude of two. -/
def magMax (a b : Nat × Nat) : Nat × Nat := if a.1 * b.2 < b.1 * a.2 then b else a

/-- A storage block formed from values: exponent, mantissas, saturations (R104). -/
def formBlock (ev : Bool) (pm : Nat) (vs : List (Int × Nat)) : Nat × List Int × Nat :=
  let m := vs.foldl (fun m v => magMax m (v.1.natAbs, v.2)) (0, 1)
  let e := blockExp ev pm m.1 m.2
  let ms := vs.map fun v => scaleRound ev v.1 v.2 (unitExp e pm)
  let qs := ms.map (clip (-mantMax pm) (mantMax pm))
  (e, qs, (ms.zip qs).countP fun x => decide (x.1 ≠ x.2))

/-- A stored mantissa, and 1 when it was substituted (R105). -/
def bfpElem (pm w : Nat) : Int × Nat :=
  let z := signed (container pm) w
  let q := clip (-mantMax pm) (mantMax pm) z
  (q, b2n (decide (q ≠ z)))

/-- A mantissa brought to the pass exponent (R107). -/
def align (ev : Bool) (ep e : Nat) (m : Int) : Int := roundQ ev m (2 ^ (ep - e))

/-! ## Full width (R162, R163) -/

/-- Addition at full width: FP32 bits or int32, with 1 when the sum saturates (log 31). -/
def addFull (fp ev : Bool) (a b : Nat) : Nat × Nat :=
  if fp then
    if bits 30 23 a = 255 ∨ bits 30 23 b = 255 then ((Config.addNonFinite (BitVec.ofNat 32 a) (BitVec.ofNat 32 b)).toNat, 0)
    else
      let (w, o) := flSat fp32 ev (flAdd (flDecode fp32 a) (flDecode fp32 b))
      (w, b2n o)
  else
    let z := signed 32 a + signed 32 b
    let q := clip (-2147483648) 2147483647 z
    (unsigned 32 q, b2n (decide (q ≠ z)))

end Sys2Proof.Machine
end

