-- ==== Sys2Proof/Machine/MatCmd.lean ====
section
/-! DEFINITION. The command head's checks, the fields of MATMUL (R59, R92, R93, R122, R155, R190, R228, R275, R313, R318 to R320)
and the checks that they decide by themselves (step 1 of R301). -/

namespace Sys2Proof.Machine

/-! ## The head (R28, R29, R40, R42, R53, R313, R316, R317) -/

/-- Level of the target motif. -/
def levelOf (c : Cmd) : Nat := bits 15 13 (targetOf c)

/-- The split mode of the division of a motif of level l (R28). -/
def splitAt (c : Cmd) (l : Nat) : Nat := cf c 5 (2 * l - 1) (2 * l - 2)
def dsplitOf (c : Cmd) : Nat := cf c 5 9 8

/-- A mode 0b11, or a mode set for a division above the target (R28, R29). -/
def splitBad (c : Cmd) : Bool :=
  (List.range 4).any fun k => decide (splitAt c (k + 1) = 3) || (decide (levelOf c ≤ k) && decide (splitAt c (k + 1) ≠ 0))

/-- The opcodes that DOMAIN_SCOPE allows (R316). -/
def domainOp (op : Nat) : Bool := decide (op ∈ [0x10, 0x48, 0x49, 0x4A])

/-- The MALFORMED checks of every command (R7, R23, R28, R29, R313, R315, R316, R394). -/
def headBad (c : Cmd) : Bool :=
  c.bad || !motifOk (targetOf c) || decide (cf c 0 15 13 ≠ 0) || decide (cf c 2 31 30 ≠ 0) || decide (cf c 5 31 10 ≠ 0) ||
  splitBad c || decide (dsplitOf c = 3) || (domainOf c && (!domainOp (opOf c) || decide (levelOf c ≠ 4))) ||
  (!domainOf c && decide (dsplitOf c ≠ 0))

/-- Some of the words from k to l is not 0. -/
def wordsSet (c : Cmd) (k l : Nat) : Bool := (List.range (l + 1 - k)).any fun i => decide (wordAt c.words (k + i) ≠ 0)

/-- The slots of the members of a partition's domain motif, ascending (R30, R46). -/
def members (d : Device) (p : Nat) : List Nat := (List.range 16).filter fun s => bit s (fget d (oPartCtrl p) fPartCtrlDomainMembers)
def ownSlot (d : Device) : Nat := fget d oDeviceId fDeviceIdSlot

/-- The PERMISSION checks of every command (R40, R42, R46, R47, R317). -/
def headPerm (d : Device) (c : Cmd) : Bool :=
  (fixedTime c && !fbit d (oEngCtrl c.part) fEngCtrlFtEnable) ||
  (motifList (targetOf c)).any (fun a => !inMask d c.part a) ||
  (motifBands (targetOf c)).any (fun b => decide (bandOwner d b ≠ c.part)) ||
  (domainOf c && (!(members d c.part).contains (ownSlot d) || c.unlike))

/-- The target contains a retired array (R53). -/
def retiredTarget (d : Device) (c : Cmd) : Bool := (motifList (targetOf c)).any fun a => !avail d a

/-- The lowest slot among the members that cannot be reached (R49). -/
def unreachable (d : Device) (c : Cmd) (x : Circ) : Option Nat :=
  if domainOf c then (members d c.part).find? fun s => decide (s ≠ ownSlot d) && x.unreach.contains s else none

/-! ## Fields of MATMUL -/

def mPa (c : Cmd) : Nat := cf c 6 3 0 + 1
def mPw (c : Cmd) : Nat := cf c 6 7 4 + 1
def mAS (c : Cmd) : Bool := decide (cf c 6 8 8 = 1)
def mWS (c : Cmd) : Bool := decide (cf c 6 9 9 = 1)
def mBin (c : Cmd) : Bool := decide (cf c 6 10 10 = 1)
def mZp (c : Cmd) : Bool := decide (cf c 6 11 11 = 1)
/-- M of the N:M pattern, 1 for dense; and N (R59). -/
def mM (c : Cmd) : Nat := 2 ^ cf c 6 13 12
def mN (c : Cmd) : Nat := if cf c 6 13 12 = 0 then 1 else cf c 6 14 14 + 1
def mNM (c : Cmd) : Bool := decide (cf c 6 13 12 ≠ 0)
/-- X of R74 and log2 M (R59). -/
def mX (c : Cmd) : Nat := cf c 6 13 12
def mP (c : Cmd) : Nat := cf c 6 23 16 + 1
def mAK (c : Cmd) : Nat := cf c 7 3 0
def mWK (c : Cmd) : Nat := cf c 7 11 8
def mEsc (c : Cmd) : Bool := decide (cf c 7 12 12 = 1)
def mOK (c : Cmd) : Nat := cf c 7 19 16
def mPo (c : Cmd) : Nat := cf c 7 28 24 + 1
def mOS (c : Cmd) : Bool := decide (cf c 7 29 29 = 1)
def mFp (c : Cmd) : Bool := decide (cf c 7 30 30 = 1)
def mPrick (c : Cmd) : Nat := cf c 8 31 0 + 2 ^ 32 * cf c 9 15 0
def mRt (c : Cmd) : Nat := cf c 9 31 16
def mReal (c : Cmd) : Nat := cf c 10 31 0
def mARow (c : Cmd) : Nat := cf c 11 12 0
def mWRow (c : Cmd) : Nat := cf c 11 25 13
def mORow (c : Cmd) : Nat := cf c 12 12 0
def mPbRow (c : Cmd) : Nat := cf c 12 25 13
def mPbSize (c : Cmd) : Nat := cf c 12 28 26
def mFuseRow (c : Cmd) : Nat := cf c 13 12 0
def mFuse (c : Cmd) : Nat := cf c 13 14 13
def mFusePos (c : Cmd) : Nat := cf c 13 15 15
def mFuseFmt (c : Cmd) : Nat := cf c 13 18 16
def mSc (c : Cmd) : Nat := cf c 13 20 19
def mScNum (c : Cmd) : Nat := cf c 13 30 21
def mAst (c : Cmd) : Nat := cf c 14 31 16
def mWst (c : Cmd) : Nat := cf c 15 15 0
def mAstK (c : Cmd) : Nat := cf c 15 17 16
def mWstK (c : Cmd) : Nat := cf c 15 19 18
def mT (c : Cmd) : Nat := cf c 15 27 20 + 1
def mKeep (c : Cmd) : Bool := decide (cf c 15 28 28 = 1)
def mCont (c : Cmd) : Bool := decide (cf c 15 29 29 = 1)
def mWcb (c : Cmd) : Nat := cf c 16 15 0
def mAcb (c : Cmd) : Nat := cf c 16 31 16
def mSl (c : Cmd) : Nat := cf c 17 15 0
def mOst (c : Cmd) : Nat := cf c 17 31 16
def mTk (c : Cmd) : Nat := cf c 18 15 0
def mCbG (c : Cmd) : Nat := cf c 18 24 16 + 1
def mTopk (c : Cmd) : Nat := cf c 18 31 25
def mAbm (c : Cmd) : Nat := cf c 19 15 0
def mWbm (c : Cmd) : Nat := cf c 19 31 16
def mASp (c : Cmd) : Nat := cf c 20 1 0
def mWSp (c : Cmd) : Nat := cf c 20 3 2
/-- SP_MODE and NM_POLICY in effect: a FIXED_TIME command runs as FIXED_DENSE and FAULT (R192). -/
def mSp (c : Cmd) : Nat := if fixedTime c then 0 else cf c 20 5 4
def mNmSrc (c : Cmd) : Bool := decide (cf c 20 6 6 = 1)
def mFallback (c : Cmd) : Bool := !fixedTime c && decide (cf c 20 7 7 = 1)
def mScat (c : Cmd) : Nat := cf c 20 9 8
def mTkAxis (c : Cmd) : Nat := cf c 20 10 10
def mPred (c : Cmd) : Nat := cf c 20 12 11
def mH (c : Cmd) : Nat := cf c 20 14 13 + 1
def mCmp (c : Cmd) : Nat := cf c 20 15 15
def mLs (c : Cmd) : Nat := 32 * 2 ^ cf c 20 17 16
def mGate (c : Cmd) : Nat := cf c 20 19 18
def mFill (c : Cmd) : Nat := cf c 20 21 20
def mGrid (c : Cmd) : Nat := cf c 20 29 22
def mPair (c : Cmd) : Nat := cf c 21 15 0
def mTap (c : Cmd) : Nat := cf c 21 31 16
def mInExt (c : Cmd) : Nat := cf c 22 23 0
def mOutExt (c : Cmd) : Nat := cf c 23 23 0
def mTable (c : Cmd) : Nat := cf c 24 18 0
def mDist (c : Cmd) : Nat := cf c 24 30 19
def mSeedA (c : Cmd) : Nat := cf c 25 15 0
def mSeedW (c : Cmd) : Nat := cf c 25 31 16
def mImap (c : Cmd) : Nat := cf c 26 15 0
def mSpan (c : Cmd) : Nat := cf c 26 31 16
def mGp (c : Cmd) : Nat := cf c 27 15 0

/-- AZP (R122). -/
def mAzp (c : Cmd) : Int := if mAS c then signed 16 (cf c 14 15 0) else (cf c 14 15 0 : Nat)

/-- The predictor kinds. -/
def isStoch (c : Cmd) : Bool := decide (mPred c = 1)
def isTop (c : Cmd) : Bool := decide (mPred c = 2)
def isPred (c : Cmd) : Bool := decide (mPred c ≠ 0)

/-- Effective weight width (R61), columns of a channel (R67, R237), most channels (R67, R237). -/
def mPwe (c : Cmd) : Nat := mPw c + b2n (mZp c)
def mCols (c : Cmd) : Nat := if isStoch c then 1 else mPwe c
def mCmax (c : Cmd) : Nat := 512 / mCols c
/-- Weights enter the cells as two's complement (R61). -/
def mWTwos (c : Cmd) : Bool := mWS c || mZp c

/-- Non-integer operands (R93). -/
def aReal (c : Cmd) : Bool := decide (mAK c ≠ 0)
def wReal (c : Cmd) : Bool := decide (mWK c ≠ 0)
def anyReal (c : Cmd) : Bool := aReal c || wReal c

/-- Container widths (R62, R96). -/
def mCa (c : Cmd) : Nat := kindWidth (mAK c) (mPa c)
def mCw (c : Cmd) : Nat := kindWidth (mWK c) (mPw c)

/-- Width in bits of an element of the output format (Bo of R167). -/
def elemBits (c : Cmd) : Nat :=
  match mOK c with
  | 2 => 32 | 3 => 16 | 4 => 16
  | _ => if mPo c = 32 then 32 else container (mPo c)

/-- Output element width in bits (R279). -/
def outBits (c : Cmd) : Nat := if mTopk c ≠ 0 ∧ mTkAxis c = 1 then 64 else elemBits c

/-- Fused element width in bits (R122). -/
def fuseBits (c : Cmd) : Nat := match mFuseFmt c with | 0 => 8 | 1 => 16 | 2 => 32 | 3 => 16 | _ => 32

/-- LEGACY7 rounding (R140). -/
def evOf (c : Cmd) : Bool := c.legacy

/-- Promotion interval (R157, R239). -/
def interval (c : Cmd) : Nat :=
  if isStoch c then 512 / mLs c
  else if anyReal c then 1
  else if mPa c ≤ 10 then 2 ^ (10 - mPa c) else 1

/-- Planes accumulate in two groups (R159). -/
def splitPlanes (c : Cmd) : Bool := decide (10 < mPa c) && !isStoch c

/-- Some division is RED (R28, R48). -/
def anyRed (c : Cmd) : Bool :=
  (List.range 4).any (fun k => decide (k < levelOf c) && decide (splitAt c (k + 1) = 2)) || (domainOf c && decide (dsplitOf c = 2))
def anyOut (c : Cmd) : Bool :=
  (List.range 4).any (fun k => decide (k < levelOf c) && decide (splitAt c (k + 1) = 0)) || (domainOf c && decide (dsplitOf c = 0))

/-! ## The MALFORMED checks of the fields -/

/-- R60. -/
def badMode (c : Cmd) : Bool :=
  (mBin c && (decide (cf c 6 9 0 ≠ 0) || mZp c)) || (mAS c && decide (mPa c = 1)) || (mWS c && decide (mPw c = 1)) ||
  (mZp c && decide (mPw c = 16)) || (decide (cf c 6 13 12 ≤ 1) && decide (cf c 6 14 14 = 1)) ||
  decide (cf c 6 15 15 ≠ 0) || decide (cf c 6 31 24 ≠ 0)

/-- R93 and R94. -/
def badFormats (c : Cmd) : Bool :=
  decide (8 < mAK c) || decide (8 < mWK c) || decide (cf c 7 4 4 = 1) || decide (cf c 7 7 5 ≠ 0) || decide (cf c 7 15 13 ≠ 0) ||
  (mEsc c && decide (mWK c < 7)) || (aReal c && (!mAS c || decide (mPa c = 1))) || (wReal c && (!mWS c || decide (mPw c = 1))) ||
  (anyReal c && (mBin c || !mFp c)) || (wReal c && mZp c)

/-- R122 and R123. -/
def badOutput (c : Cmd) : Bool :=
  !(decide (mOK c ∈ [0, 2, 3, 4])) || decide (cf c 7 23 20 ≠ 0) ||
  (decide (mOK c = 0) && decide (17 ≤ mPo c) && decide (mPo c ≤ 31)) ||
  (decide (mOK c ≠ 0) && (decide (mPo c ≠ 1) || mOS c)) || (mOS c && decide (mPo c = 1)) ||
  (decide (cf c 14 15 0 ≠ 0) && (anyReal c || mBin c)) ||
  decide (mAzp c < loOf (mPa c) (mAS c)) || decide (hiOf (mPa c) (mAS c) < mAzp c) ||
  (decide (mAK c = 1) != decide (mAstK c = 1)) || (decide (mWK c = 1) != decide (mWstK c = 1)) || decide (mAstK c = 3) || decide (mWstK c = 3) ||
  decide (mSc c = 3) || (decide (mSc c = 2) && !(decide (mOK c = 0) && mOS c && decide (2 ≤ mPo c) && decide (mPo c ≤ 16))) ||
  decide (mFuse c = 3) || decide (4 < mFuseFmt c) || (decide (mFuse c = 0) && (decide (mFusePos c ≠ 0) || decide (mFuseFmt c ≠ 0)))

/-- R191. -/
def badSparse (c : Cmd) : Bool :=
  let sp := cf c 20 5 4
  decide (mASp c = 3) || decide (mWSp c = 3) || decide (sp = 3) || decide (mScat c = 3) ||
  (decide (mWSp c ≠ 0) && mNM c) ||
  (decide (sp ≠ 0) && ((decide (mASp c = 0) && decide (mWSp c = 0)) || mNM c || mKeep c || mCont c || decide (mScat c ≠ 0))) ||
  ((mNmSrc c || decide (cf c 20 7 7 = 1)) && !mNM c) || (decide (cf c 20 7 7 = 1) && !mNmSrc c) ||
  (mNmSrc c && !(decide (mWK c ∈ [0, 7, 8]))) || (mNmSrc c && decide (16 * mN c < mCw c * mM c)) ||
  (decide (mScat c ≠ 0) && (decide (mTopk c ≠ 0) || decide (mFuse c ≠ 0) || decide (mSc c ≠ 0) || decide (cf c 14 15 0 ≠ 0) ||
    mKeep c || mCont c || domainOf c || anyRed c)) ||
  (decide (mScat c = 1) && (decide (2 ≤ levelOf c) || (decide (levelOf c = 1) && decide (splitAt c 1 ≠ 0)))) ||
  (decide (mScat c = 2) && (decide (levelOf c < 2) || (decide (levelOf c = 4) && decide (splitAt c 4 ≠ 0)) ||
    (decide (3 ≤ levelOf c) && decide (splitAt c 3 ≠ 0)) || mFp c))

/-- R183. -/
def badKept (c : Cmd) : Bool :=
  (mKeep c || mCont c) && (decide (levelOf c ≠ 0) || domainOf c || (decide (mTopk c ≠ 0) && mKeep c))

/-- R228 and R229. -/
def badPredict (c : Cmd) : Bool :=
  let far := decide (mGate c = 1) || decide (mGate c = 3)
  let weak := decide (mGate c = 2) || decide (mGate c = 3)
  decide (mPred c = 3) || decide (mFill c = 3) ||
  (isStoch c && (decide (mPa c < 2) || decide (8 < mPa c) || decide (mPw c < 2) || decide (8 < mPw c) || !mAS c || !mWS c ||
    anyReal c || mBin c || mZp c || mNM c || decide (cf c 14 15 0 ≠ 0) || decide (mASp c ≠ 0) || decide (mWSp c ≠ 0) || !mFp c ||
    decide (8192 < mP c * mLs c))) ||
  (isTop c && (decide (mPa c < mH c) || mBin c || anyReal c)) ||
  (isPred c && (decide (mTopk c ≠ 0) || decide (mFuse c ≠ 0) || decide (mSc c ≠ 0) || decide (mScat c ≠ 0) || mKeep c || mCont c ||
    decide (mFill c ≠ 0) || weak)) ||
  (decide (mGate c ≠ 0) && (decide (mScat c ≠ 0) || mKeep c)) ||
  (!far && (decide (mDist c ≠ 0) || decide (mGrid c ≠ 0) || decide (mSpan c ≠ 0))) ||
  (decide (mFill c ≠ 0) && decide (mTopk c ≠ 0))

/-- Reserved fields of R318 and R319. -/
def badReserved (c : Cmd) : Bool :=
  decide (cf c 7 31 31 ≠ 0) || decide (cf c 11 31 26 ≠ 0) || decide (cf c 12 31 29 ≠ 0) || decide (cf c 13 31 31 ≠ 0) ||
  decide (cf c 15 31 30 ≠ 0) || decide (cf c 20 31 30 ≠ 0) || decide (cf c 22 31 24 ≠ 0) || decide (cf c 23 31 24 ≠ 0) ||
  decide (cf c 24 31 31 ≠ 0) || decide (cf c 27 31 16 ≠ 0) || wordsSet c 28 31

/-- The MALFORMED checks that a MATMUL's own fields decide (step 1 of R301). TOPK_AXIS 1 allows no OUT division (R178). -/
def matmulBad (c : Cmd) : Bool :=
  headBad c || badMode c || badFormats c || badOutput c || badSparse c || badKept c || badPredict c || badReserved c ||
  decide (64 < mTopk c) || (decide (mTopk c ≠ 0) && decide (mTkAxis c = 1) && anyOut c) ||
  decide (mPrick c % 64 ≠ 0)

end Sys2Proof.Machine
end

