-- ==== Sys2Proof/Machine/ScaleChan.lean ====
section
/-! DEFINITION. Running-maximum scale channels (R141 to R149). -/

namespace Sys2Proof.Machine

/-! ## The commands of a channel -/

/-- NARROW of a COPY (R323). -/
def tNarrow (c : Cmd) : Nat := cf c 14 11 10
/-- The scale channel of a NARROW COPY, as fixed at its start (R438). -/
def narChan (c : Cmd) : Nat := c.thresh

/-- The scale channel that a started command names (R141, R438). -/
def chanOf (c : Cmd) : Option Nat :=
  if opOf c = 0x10 then (if mSc c = 0 then none else some (mScNum c))
  else if opOf c = 0x40 ∧ tNarrow c ≠ 0 then some (narChan c)
  else none

/-- No command of an earlier step of the channel has started and not completed: the first tile may start (R145). -/
def stepFree (d : Device) (c : Cmd) : Bool :=
  match chanOf c with
  | none => true
  | some ch => !d.cmds.any fun x => decide (x.id ≠ c.id) && decide (x.phase ≠ .queued) && decide (chanOf x = some ch) &&
      serialLater (stepOf c) (stepOf x)

/-! ## The channel's registers -/

/-- History entry k of a channel, FP16 bits. -/
def scHist (d : Device) (ch k : Nat) : Nat := bits (16 * (k % 2) + 15) (16 * (k % 2)) (rget d (oScHist ch (k / 2))).toNat

/-- The sixteen history entries set, entry 0 first. -/
def setHist (ch : Nat) (l : List Nat) (d : Device) : Device :=
  (List.range 8).foldl (fun d k => rput (oScHist ch k) (BitVec.ofNat 32 (l.getD (2 * k) 0 + 2 ^ 16 * l.getD (2 * k + 1) 0)) d) d

/-- Whether FP16 bits hold a finite value. -/
def finite16 (w : Nat) : Bool := decide (bits 14 10 w ≠ 31)

/-- A history entry as R144 takes it (log 30). -/
def histVal (w : Nat) : Nat := if finite16 w then w else (Config.scaleEntry w).toNat % 0x7C00

/-- A write of SC_CTRL: ENABLE from 0 to 1 initialises the channel (R141, R142). -/
def scEnable (ch : Nat) (v : Word) (d : Device) : Device :=
  let on := bit 0 v.toNat && !fbit d (oScCtrl ch) fScCtrlEnable
  let pol := if bits 2 1 v.toNat = 3 then fget d (oScCtrl ch) fScCtrlPolicy else bits 2 1 v.toNat
  let d := rput (oScCtrl ch) (BitVec.ofNat 32 (setBits 2 1 pol (bits 16 0 v.toNat))) d
  if on then
    let d := setHist ch (List.replicate 16 (fget d (oScInit ch) fScInitInitMax)) d
    let d := fput (oScState ch) fScStateCurMax 0 (rput (oScClipped ch) 0 (rput (oScEvents ch) 0 d))
    setSc ch {} (fput (oScStatus ch) fScStatusUnderRun 0 d)
  else d

/-- M: the largest of the first n history entries (R144). -/
def histMax (d : Device) (ch n : Nat) : Nat :=
  ((List.range n).map fun k => histVal (scHist d ch k)).foldl
    (fun m w => if flLt (flDecode fp16 m) (flDecode fp16 w) then w else m) (histVal (scHist d ch 0))

/-- D of a command (R144). -/
def scaleDiv (isInt : Bool) (po : Nat) : Nat := if isInt ∧ 2 ≤ po then 2 ^ (po - 1) - 1 else 1

/-- s = fp16(M / D), at least 2^-24, as FP16 bits (R144). -/
def scaleFrom (ev : Bool) (m dd : Nat) : Nat :=
  let (w, _) := flSat fp16 ev (flDiv (flDecode fp16 m) (.fin false dd 1))
  if bit 15 w ∨ w = 0 then 1 else w

/-- CUR_MAX is less than s × (2^(Po-1) - 1) / 16 (R148). -/
def underUsed (cur s po : Nat) : Bool :=
  flLt (flDecode fp16 cur) (flMul (flDecode fp16 s) (.fin false (2 ^ (po - 1) - 1) 16))

/-- The open step closes: history and under-use (R143, R148, R149). -/
def scClose (ch part policy : Nat) (d : Device) : Device :=
  let x := scOf d ch
  let cur := fget d (oScState ch) fScStateCurMax
  let d := setHist ch (cur :: (List.range 15).map (scHist d ch)) d
  let under := match x.last with | some (true, s, po) => underUsed cur s po | _ => false
  let n := fget d (oScStatus ch) fScStatusUnderRun + 1
  if under then
    if x.window ≤ n then
      let d := fput (oScStatus ch) fScStatusUnderSticky 1 (fput (oScStatus ch) fScStatusUnderRun 0
        (fsat (oScEvents ch) fScEventsUnderCount 1 d))
      if policy = 0 then d else raise part 0x0002 ch x.window 0 (rget d (oScStep ch)).toNat d
    else fput (oScStatus ch) fScStatusUnderRun n d
  else fput (oScStatus ch) fScStatusUnderRun 0 d

/-- A command with a step number uses the channel: a step is closed, opened, joined, or found later than the command's (R143,
R144, R146). -/
def scUse (c : Cmd) (ch dd : Nat) (d : Device) : Device :=
  let t := stepOf c
  let cur := (rget d (oScStep ch)).toNat
  if !(scOf d ch).isOpen || serialLater t cur then
    let d := if (scOf d ch).isOpen then scClose ch c.part c.policy d else d
    let n := fget d (oScCtrl ch) fScCtrlWindow + 1
    let m := histMax d ch n
    let d := setSc ch { isOpen := true, m := m, window := n, clipT := fget d (oScCtrl ch) fScCtrlClipT } d
    rput (oScStep ch) (BitVec.ofNat 32 t) (rput (oScState ch) (BitVec.ofNat 32 (2 ^ 16 * scaleFrom c.legacy m dd)) d)
  else if t = cur then d
  else fput (oScStatus ch) fScStatusStale 1 d

/-- CUR_MAX takes a magnitude, as FP16 bits without sign (R144). -/
def scMax (ch w : Nat) (d : Device) : Device :=
  if fget d (oScState ch) fScStateCurMax < w then fput (oScState ch) fScStateCurMax w d else d

/-- Over the threshold (R147). -/
def scOver (d : Device) (ch clipped written : Nat) : Bool := decide (written < clipped * 2 ^ (scOf d ch).clipT)

/-- SAT_COUNT advances (R149). -/
def scSat (ch : Nat) (d : Device) : Device :=
  fput (oScStatus ch) fScStatusSatSticky 1 (fsat (oScEvents ch) fScEventsSatCount 1 d)

/-- The scale that a command writes its outputs with, as FP16 bits: s_r in a recomputation (R144, R148, R150). -/
def cmdScale (d : Device) (c : Cmd) : Nat :=
  match c.retry with
  | some s => s
  | none => scaleFrom c.legacy (scOf d (mScNum c)).m (scaleDiv (decide (mOK c = 0)) (mPo c))

/-- A command that used a step completes: it is the step's last so far (R148). -/
def scEnd (c : Cmd) (d : Device) : Device :=
  if c.scaled then
    if opOf c = 0x10 then
      setSc (mScNum c) { scOf d (mScNum c) with last := some (decide (mSc c = 2), cmdScale d c, mPo c) } d
    else
      setSc c.thresh { scOf d c.thresh with last := some (false, 0, 1) } d
  else d

/-! ## Meanings -/

/-- SC_ENABLE (R142). -/
def execScEnable (ch : Nat) (v : Word) (s : State) := run (.scEnable ch v) (scEnable ch v) s

end Sys2Proof.Machine
end

