-- ==== Sys2Proof/Machine/Fetch.lean ====
section
/-! DEFINITION. The ring fetcher, completion records and interrupts (R307 to R315, R373 to R394, R611). -/

namespace Sys2Proof.Machine

/-! ## Completion rings (R382 to R385) -/

/-- Entries of a ring from its LOG2SIZE. -/
def cqSize (d : Device) (p q : Nat) : Nat := 2 ^ fget d (oCqCtrl p q) fCqCtrlLog2size
def sqSize (d : Device) (p q : Nat) : Nat := 2 ^ fget d (oSqCtrl p q) fSqCtrlLog2size
def cqEn (d : Device) (p q : Nat) : Bool := fbit d (oCqCtrl p q) fCqCtrlEnable
def sqEn (d : Device) (p q : Nat) : Bool := fbit d (oSqCtrl p q) fSqCtrlEnable
def sqLegacy (d : Device) (p q : Nat) : Bool := fbit d (oSqCtrl p q) fSqCtrlLegacy7

/-- The ring is full: records written exceed the consumed count by M, modulo 65,536 (R384). -/
def cqFull (d : Device) (p q : Nat) : Bool :=
  let x := cqOf (partOf d p) q
  decide (cqSize d p q ≤ (x.written + 65536 - x.consumed % 65536) % 65536)

/-- Records are written now: enabled, not full, the device not fenced (R384, R470). -/
def cqOpen (d : Device) (p q : Nat) : Bool := cqEn d p q && !cqFull d p q && decide (role d ≠ roleFenced)

/-- A completion record's words 1 to 3, and word 0 (R382). -/
def recTail (r : Rec) : List Byte :=
  leBytes 4 r.tilePos ++ leBytes 4 (r.tileCh % 2 ^ 24 + r.sq * 2 ^ 24) ++ leBytes 4 (r.detail % 2 ^ 16 + r.slot % 2 ^ 15 * 2 ^ 16)
def recFirst (r : Rec) (phase : Nat) : List Byte :=
  leBytes 4 (r.status + r.flags * 2 ^ 8 + r.rtype * 2 ^ 11 + phase * 2 ^ 15 + r.seq * 2 ^ 16)

/-- A message of a completion ring, when one is due (R385). -/
def cqMessage (p q : Nat) (d : Device) : Device :=
  let x := cqOf (partOf d p) q
  if x.irqPending ∧ max 1 (fget d (oCqCoal p q) fCqCoalCoalCount) ≤ x.since then
    msixSend p (fget d (oCqCtrl p q) fCqCtrlVector)
      (setPart p (setCq q { x with since := 0, irqPending := false } (partOf d p)) d)
  else d

/-- A record written into its ring: words 1 to 3, then word 0 (R383), then the interrupt (R385). -/
def cqWrite (p q : Nat) (r : Rec) (d : Device) : Device :=
  let x := cqOf (partOf d p) q
  let m := cqSize d p q
  let a := pair64 d (oCqBaseLo p q) (oCqBaseHi p q) + 16 * (x.written % m)
  let d := emit (.hostWrite (a + 4) (recTail r)) d
  let d := emit (.hostWrite a (recFirst r (if x.written / m % 2 = 0 then 1 else 0))) d
  let irq := r.irq || decide (r.status ≠ stOk) || decide (r.rtype ≠ 0)
  cqMessage p q (setPart p (setCq q
    { x with written := x.written + 1, since := x.since + 1, irqPending := x.irqPending || irq } (partOf d p)) d)

/-- A record of this ring can be posted: it is written at once, or the buffer of 256 held records has room (R384). -/
def cqRoom (d : Device) (p q : Nat) : Bool :=
  decide ((partOf d p).held.length < 256) || (cqOpen d p q && !(partOf d p).held.any (fun h => decide (h.1 = q)))

/-- A record finds its ring full: CQ_FULL once per episode (R384). -/
def cqNoteFull (p q : Nat) (d : Device) : Device :=
  let x := cqOf (partOf d p) q
  if cqEn d p q && cqFull d p q && !x.full then
    raise p 0x0011 q (partOf d p).held.length 0 0 (setPart p (setCq q { x with full := true } (partOf d p)) d)
  else d

/-- A record posted to its ring, or held behind those held before it (R383, R384). -/
def cqPost (p q : Nat) (r : Rec) (d : Device) : Device :=
  let x := partOf d p
  if cqOpen d p q && !x.held.any (fun h => decide (h.1 = q)) then cqWrite p q r d
  else cqNoteFull p q (setPart p { x with held := x.held ++ [(q, r)] } d)

/-- Held records written in order while their rings have room: `rest` are those looked at and kept. -/
def cqFlushGo (p : Nat) : List (Nat × Rec) → List (Nat × Rec) → Device → Device
  | [], kept, d => setPart p { partOf d p with held := kept } d
  | (q, r) :: more, kept, d =>
    if cqOpen d p q && !kept.any (fun h => decide (h.1 = q)) then
      let y := cqOf (partOf d p) q
      let d := setPart p (setCq q { y with full := false } (partOf d p)) d
      cqFlushGo p more kept (cqWrite p q r d)
    else cqFlushGo p more (kept ++ [(q, r)]) d

/-- Held records of a partition written as far as their rings take them; a ring that fills again begins an episode (R384). -/
def cqFlush (p : Nat) (d : Device) : Device :=
  let d := cqFlushGo p (partOf d p).held [] d
  (List.range 16).foldl (fun d q =>
    if (partOf d p).held.any (fun h => decide (h.1 = q)) then cqNoteFull p q d
    else if cqFull d p q then d
    else
      let y := cqOf (partOf d p) q
      if y.full then setPart p (setCq q { y with full := false } (partOf d p)) d else d) d

/-- COAL_TIME has passed since the first pending record (R385). -/
def coalTimeout (p q : Nat) (d : Device) : Device :=
  let x := cqOf (partOf d p) q
  if x.irqPending ∧ fget d (oCqCoal p q) fCqCoalCoalTime ≠ 0 ∧ role d ≠ roleFenced then
    msixSend p (fget d (oCqCtrl p q) fCqCtrlVector)
      (setPart p (setCq q { x with since := 0, irqPending := false } (partOf d p)) d)
  else d

/-- The completion ring of a submission ring (R382). -/
def ringCq (d : Device) (p sq : Nat) : Nat := fget d (oSqCtrl p sq) fSqCtrlCq

/-! ## Which rings are served (R45, R470, R577, R578) -/

/-- A partition named in PAIR_PARTS (R462). -/
def pairPart (d : Device) (p : Nat) : Bool := bit (p % 32) (rget d (oPairParts (p / 32))).toNat

/-- The fetcher serves the partition's rings: not while fenced, nor, while standby, those of PAIR_PARTS. -/
def ringsServed (d : Device) (p : Nat) : Bool :=
  decide (role d ≠ roleFenced) && !(decide (role d = roleStandby) && pairPart d p)

/-- New entries of the partition are taken: enabled, no disable pending (R45). -/
def takesEntries (d : Device) (p : Nat) : Bool := partEn d p && !(partOf d p).disabling && ringsServed d p

/-- An abort of the partition has taken effect and is not acknowledged (R337). -/
def abortOn (x : Part) : Bool := match x.abort with | .effective _ _ => true | _ => false

/-- An abort request; further ones are ignored while one is in progress (R386). -/
def abortRequest (p sq slot : Nat) (d : Device) : Device :=
  match (partOf d p).abort with
  | .none => setPart p { partOf d p with abort := .requested sq slot, aborted := 0, abortLate := false } d
  | _ => d

/-! ## Doorbells (R373 to R378) -/

/-- HEAD and EXP_GEN of a ring (SQ_STATE). -/
def headOf (d : Device) (p q : Nat) : Nat := fget d (oSqState p q) fSqStateHead
def expGen (d : Device) (p q : Nat) : Nat := fget d (oSqState p q) fSqStateExpGen

/-- The pending count that a doorbell word gives (R378, R393). -/
def pendingCount (legacy : Bool) (n head gen tail sqGen : Nat) : Int :=
  if legacy then (((tail + 65536 - head) % 65536 : Nat) : Int)
  else signed 16 (unsigned 16 ((sqGen : Int) - gen)) * n + tail - head

/-- The submission side of a slot (R378, R386). -/
def pollSq (p q : Nat) (w : Nat) (d : Device) : Device :=
  if sqEn d p q then
    let n := sqSize d p q
    let c := pendingCount (sqLegacy d p q) n (headOf d p q) (expGen d p q) (bits 15 0 w) (bits 31 16 w)
    let ab := bit 32 w
    let r := ringOf (partOf d p) q
    let d := if 0 ≤ c ∧ c ≤ n then setPart p (setRing q { r with announced := c.toNat } (partOf d p)) d
             else raise p 0x0010 q (w % 2 ^ 32) (w / 2 ^ 32) 0 d
    let d := if ab && !r.abortBit then abortRequest p q 0 d else d
    setPart p (setRing q { ringOf (partOf d p) q with abortBit := ab } (partOf d p)) d
  else d

/-- The completion side of a slot. -/
def pollCq (p q : Nat) (w : Nat) (d : Device) : Device :=
  if cqEn d p q then setPart p (setCq q { cqOf (partOf d p) q with consumed := bits 63 48 w } (partOf d p)) d else d

/-- The event ring's count in slot 0. -/
def pollEq (p : Nat) (w : Nat) (d : Device) : Device :=
  let x := partOf d p
  if fbit d (oEqCtrl p) fEqCtrlEnable then
    setPart p { x with evConsumed := x.evWritten - (x.evWritten + 8192 - bits 45 33 w) % 8192 } d
  else d

/-- The block holds the slot of an enabled ring, or is the first of a partition whose event ring is on (R375). -/
def blockPolled (d : Device) (p block : Nat) : Bool :=
  (List.range 8).any (fun i => sqEn d p (8 * block + i) || cqEn d p (8 * block + i)) ||
  (decide (block = 0) && fbit d (oEqCtrl p) fEqCtrlEnable)

/-- Where a doorbell block lies in host memory (R373). -/
def blockAddr (d : Device) (p block : Nat) : Nat := pair64 d (oDbBaseLo p) (oDbBaseHi p) + 64 * block

/-- Rings of a block go on after a stop: the slot is read again (R379). -/
def pollRings (p block : Nat) (d : Device) : Device :=
  let x := partOf d p
  setPart p { x with
    pollDue := x.pollDue.erase block
    rings := (List.range 8).foldl (fun rs i =>
      let r := tabGet {} (8 * block + i) rs
      if r.stopped then tabSet {} (8 * block + i) { r with stopped := false } rs else rs) x.rings } d

/-- One doorbell block read (R373 to R375). -/
def doorbellPoll (p block : Nat) (ws : List DWord) (d : Device) : Device :=
  if blockPolled d p block && ringsServed d p then
    let d := emit (.hostRead (blockAddr d p block) 64) d
    let d := (List.range 8).foldl (fun d i =>
      let w := (ws.getD i 0).toNat
      pollCq p (8 * block + i) w (pollSq p (8 * block + i) w d)) d
    let d := if block = 0 then pollEq p (ws.getD 0 0).toNat d else d
    evFlush 256 p (cqFlush p (pollRings p block d))
  else d

/-- A write into a wake page: both of the partition's blocks are to be polled (R371). -/
def wakeWrite (fn off : Nat) (d : Device) : Device :=
  if off = 0 then setPart fn { partOf d fn with pollDue := [0, 1] } d else d

/-! ## Submission entries (R376 to R380) -/

/-- HEAD advances past an entry (R377, R380); a ring that is being disabled stops once its entries are consumed (SQ_CTRL). -/
def headAdvance (p q : Nat) (d : Device) : Device :=
  let n := sqSize d p q
  let d :=
    if sqLegacy d p q then fwrap (oSqState p q) fSqStateHead 1 d
    else if headOf d p q + 1 = n then fwrap (oSqState p q) fSqStateExpGen 1 (fput (oSqState p q) fSqStateHead 0 d)
    else fwrap (oSqState p q) fSqStateHead 1 d
  let r := ringOf (partOf d p) q
  let r := { r with announced := r.announced - 1, reading := none }
  let d := perfOne 16 0x24 (some p) 1 d
  if r.disabling ∧ r.announced = 0 then
    fput (oSqCtrl p q) fSqCtrlEnable 0 (setPart p (setRing q { r with disabling := false } (partOf d p)) d)
  else setPart p (setRing q r (partOf d p)) d

/-- The ring slot at HEAD: HEAD16 mod N in LEGACY7 (R377, R382, R393). -/
def headSlot (d : Device) (p q : Nat) : Nat := headOf d p q % sqSize d p q

/-- An ENTRY_ERROR record (R380). -/
def entryError (p q st seq : Nat) (d : Device) : Device :=
  cqPost p (ringCq d p q) { status := st, rtype := 1, seq := seq, sq := q, slot := headSlot d p q } d

/-- HEAD advances past an entry that yields an ENTRY_ERROR record, once the record can be posted (R380, R384). -/
def entryFails (p q st seq : Nat) (d : Device) : Device :=
  if cqRoom d p (ringCq d p q) then headAdvance p q (entryError p q st seq d) else d

def ew (e : List Word) (k hi lo : Nat) : Nat := bits hi lo (wordAt e k)

/-- The entry carries its pass's generation, or its ring has none (R379, R393). -/
def entryValid (d : Device) (p q : Nat) (e : List Word) : Bool :=
  sqLegacy d p q || decide (ew e 3 15 0 = expGen d p q)

/-- A reserved field of the entry is not 0 (R376, R393). -/
def entryReserved (legacy : Bool) (e : List Word) : Bool :=
  decide (ew e 2 31 26 ≠ 0) || decide (ew e 3 31 16 ≠ 0) || (legacy && decide (ew e 3 15 0 ≠ 0)) ||
  (e.drop 4).any (fun w => decide (w ≠ 0))

/-- A control entry that asks for an abort and is well formed (R376, R380). -/
def isAbortEntry (legacy : Bool) (e : List Word) : Bool :=
  decide (ew e 2 17 17 = 1) && !entryReserved legacy e && decide (wordAt e 0 = 0) && decide (wordAt e 1 = 0) &&
  decide (ew e 2 15 0 = 0) && decide (ew e 2 16 16 = 0) && decide (ew e 2 25 18 = 1)

/-- A command-list entry that is well formed (R376, R380). -/
def isListEntry (legacy : Bool) (e : List Word) : Bool :=
  decide (ew e 2 17 17 = 0) && !entryReserved legacy e && decide (ew e 2 15 0 ≠ 0) && decide (ew e 0 5 0 = 0) &&
  decide (ew e 2 25 18 = 0)

/-- An entry of the ring can be taken now, whatever the other rings hold. -/
def entryReady (d : Device) (p q : Nat) : Bool :=
  let r := ringOf (partOf d p) q
  takesEntries d p && sqEn d p q && decide (0 < r.announced) && decide (r.reading = none) && !abortOn (partOf d p)

/-- The 64-byte slots of a list in device memory that can be read, from address l on, and whether all could be
(R380; log 24). -/
def localList (d : Device) (l : Nat) : Nat → List Word × Bool
  | 0 => ([], true)
  | n + 1 =>
    if mapped l && (firstBad d l 64).isNone then
      let (ws, ok) := localList d (l + 64) n
      (leWords (bytesAt d l 64) ++ ws, ok)
    else ([], false)

/-- A list begins to be read (R308, R380). -/
def listOpen (p q : Nat) (ws : List Word) (ok : Bool) (d : Device) : Device :=
  setPart p (setRing q { ringOf (partOf d p) q with
    reading := some { slot := headSlot d p q, words := ws, broken := !ok, seq := 0 } } (partOf d p)) d

/-- Where an entry's list lies (R376). -/
def listAddr (e : List Word) : Nat := wordAt e 0 + 2 ^ 32 * wordAt e 1

/-- The words of an entry's list: from host memory as the step's operands give them, or from this device (R376, R380). -/
def entryList (d : Device) (e list : List Word) (good : Nat) : List Word × Bool :=
  let len := ew e 2 15 0
  if ew e 2 16 16 = 0 then
    let n := min len good
    ((List.range (16 * n)).map fun k => list.getD k 0, decide (len ≤ good))
  else localList d (locAddr (listAddr e)) len

/-- The read of an entry's list from host memory, 64 bytes a slot (R376). -/
def askList (e : List Word) (d : Device) : Device :=
  if ew e 2 16 16 = 0 then emit (.hostRead (listAddr e) (64 * ew e 2 15 0)) d else d

/-- A stop at an entry that is not valid: the slot is read again at the next poll (R379). -/
def staleStop (p q : Nat) (d : Device) : Device :=
  fsat (oStaleEntries p) fStaleEntriesStops 1 (setPart p (setRing q { ringOf (partOf d p) q with stopped := true } (partOf d p)) d)

/-- The control entry of an abort consumed (R380, R386). -/
def takeAbort (p q : Nat) (d : Device) : Device := headAdvance p q (abortRequest p q (headSlot d p q) d)

/-- The read of the entry at HEAD from host memory (R376, R379). The model reads an entry at a time; R379 lets one read take
up to 8. -/
def askEntry (p q : Nat) (d : Device) : Device :=
  emit (.hostRead (pair64 d (oSqBaseLo p q) (oSqBaseHi p q) + 32 * headSlot d p q) 32) d

/-! ## Dispatch (R308, R314, R315, R394, R611) -/

/-- The engines. -/
inductive Engine where
  | matrix | vector | transfer
  deriving DecidableEq, Repr

/-- The engine whose queue a command enters; none for a command that has no queue (R314, R322, R611). -/
def engineOf (c : Cmd) : Option Engine :=
  let op := opOf c
  if op = 0x00 ∨ op = 0x01 then
    match cf c 6 1 0 with
    | 0 => some .matrix | 1 => some .vector | 2 => some .transfer | _ => none
  else if op = 0x10 ∨ op = 0x11 ∨ op = 0x12 then some .matrix
  else if 0x20 ≤ op ∧ op ≤ 0x3F then some .vector
  else if op = 0x40 ∨ op = 0x48 ∨ op = 0x49 ∨ op = 0x4A then some .transfer
  else none

/-- The queue a command enters; none where the fetcher completes it at once (R611). -/
def queueOf (c : Cmd) : Option Engine := if motifOk (targetOf c) then engineOf c else none

/-- The command is one of the domain motif (R47). -/
def domainMotif (c : Cmd) : Bool := domainOf c && decide (bits 15 13 (targetOf c) = 4)

/-- Two commands share a queue: each motif, the domain motif among them, has its own (R17, R307). -/
def sameQueue (a b : Cmd) : Bool :=
  decide (a.part = b.part) && decide (targetOf a = targetOf b) && decide (domainMotif a = domainMotif b) && decide (queueOf a = queueOf b)

/-- Opcodes that allow an extension (R314, R346, R443). -/
def extAllowed (op : Nat) : Bool := decide (op = 0x10)

/-- A 32-byte command in the 64-byte form, and whether R394 refuses it. -/
def widen (ctrl : Nat) (w : List Word) : List Word × Bool :=
  let g (k hi lo : Nat) : Nat := bits hi lo (wordAt w k)
  let z : Word := 0
  let n (v : Nat) : Word := BitVec.ofNat 32 v
  let op := g 0 7 0
  let badHead := decide (g 0 9 8 ≠ 0) || decide (g 0 12 12 ≠ 0)
  let head : List Word := [w.getD 0 0, w.getD 1 0, n (g 2 15 0), z, z, z]
  if op = 0x10 then
    (head ++ [w.getD 3 0, w.getD 4 0, w.getD 5 0, w.getD 6 0, n 0xFFFFFFFF, n (g 7 25 0),
      n (g 2 28 16 + bits 22 10 ctrl * 2 ^ 13 + bits 25 23 ctrl * 2 ^ 26), z, z, z],
      badHead || decide (g 2 31 29 ≠ 0) || decide (g 7 31 26 ≠ 0))
  else if op = 0x40 then
    (head ++ [w.getD 3 0, w.getD 4 0, w.getD 5 0, w.getD 6 0, n (g 7 23 0), n 1, z, z, z, z],
      badHead || decide (g 2 31 16 ≠ 0) || decide (g 7 31 24 ≠ 0))
  else if op = 0x00 then
    (head ++ [z, z, z, z, z, z, z, z, z, z],
      badHead || decide (g 2 31 16 ≠ 0) || (w.drop 3).any (fun x => decide (x ≠ 0)))
  else (head ++ [z, z, z, z, z, z, z, z, z, z], true)

/-- The next command of a list: its words, whether its encoding breaks R315 or R394, and the words left; none where the list
ends within it because the rest cannot be read. -/
def nextCommand (legacy : Bool) (ctrl : Nat) (l : ListRead) : Option (List Word × Bool × List Word) :=
  if legacy then
    if l.words = [] then none
    else
      let (ws, bad) := widen ctrl (l.words.take 8)
      some (ws, bad, l.words.drop 8)
  else
    let w := l.words.take 16
    let rest := l.words.drop 16
    if w = [] then none
    else if bit 9 (wordAt w 0) then
      if rest = [] then (if l.broken then none else some (w, true, []))
      else some (w ++ rest.take 16, !extAllowed (bits 7 0 (wordAt w 0)), rest.drop 16)
    else some (w, false, rest)

/-- The buffer of held records is full: nothing is dispatched (R384). -/
def heldFull (x : Part) : Bool := decide (256 ≤ x.held.length)

/-- The fetcher may dispatch for the partition: it is enabled (R41), no abort is in effect (R337), records have room (R384). -/
def dispatchOk (d : Device) (p : Nat) : Bool :=
  partEn d p && !abortOn (partOf d p) && !heldFull (partOf d p) && ringsServed d p

/-- A command that the fetcher completes at once (R611). -/
def fetchMalformed (c : Cmd) : Cmd := { c with phase := .ended, done := refusedWith stMalformed }

/-- The list of a ring after a command has been taken from it: HEAD advances with the last one (R380). -/
def listAfter (p q seq : Nat) (l : ListRead) (rest : List Word) (d : Device) : Device :=
  if rest = [] ∧ l.broken = false then headAdvance p q d
  else setPart p (setRing q { ringOf (partOf d p) q with reading := some { l with words := rest, seq := seq } } (partOf d p)) d

/-- A command as it is read from a ring's list. -/
def listCmd (d : Device) (p q : Nat) (l : ListRead) (ws : List Word) (bad : Bool) : Cmd :=
  let lg := sqLegacy d p q
  { id := d.nextId, part := p, sq := q, slot := l.slot, legacy := lg, bad := bad, words := ws,
    gen := if lg then headOf d p q else expGen d p q }

/-- A command enters the device. -/
def addCmd (c : Cmd) (d : Device) : Device := { d with cmds := d.cmds ++ [c], nextId := d.nextId + 1 }

/-! ## Completion (R312, R329, R340) -/

/-- The order event of a completing command (R329). -/
def signalEvent (c : Cmd) (d : Device) : Device :=
  if sigEnOf c then
    let e := sigEvOf c
    if c.done.status = stOk ∨ c.done.status = stDeadline then fwrap (oEvent c.part e) fEventCount 1 d
    else rput (oEventErr c.part (e / 32)) (rget d (oEventErr c.part (e / 32)) ||| BitVec.ofNat 32 (2 ^ (e % 32))) d
  else d

/-- A status as reported: ABORT_LATE while an abort is in progress (R338), no flag unless OK (R343). -/
def reported (x : Part) (dn : Done) : Done :=
  if dn.status = stOk then
    (match x.abort with | .none => dn | _ => { dn with flags := dn.flags ||| flagLate })
  else { dn with flags := 0 }

/-- ABORT_COUNTS and the counts of the acknowledgement (R339). -/
def countAbort (c : Cmd) (dn : Done) (d : Device) : Device :=
  let x := partOf d c.part
  let d := if dn.status = stAborted then
      let d := fsat (oAbortCounts c.part) fAbortCountsAborted 1 d
      if abortOn x then setPart c.part { x with aborted := x.aborted + 1 } d else d
    else d
  if bit 1 dn.flags then
    fsat (oAbortCounts c.part) fAbortCountsLate 1 (setPart c.part { partOf d c.part with abortLate := true } d)
  else d

/-- A command's completion record (R340, R382). -/
def cmdRec (c : Cmd) (dn : Done) : Rec :=
  { status := dn.status, flags := dn.flags, seq := seqOf c, tilePos := dn.tilePos, tileCh := dn.tileCh, sq := c.sq,
    detail := dn.detail, slot := c.slot, irq := irqOf c }

/-- Commands of the device that were dispatched before one. -/
def before (d : Device) (c : Cmd) : List Cmd := d.cmds.takeWhile fun x => decide (x.id ≠ c.id)

/-- The completions of a matrix or vector queue follow list order (R307, R339). A command that has no queue completes before every
command of its partition that the fetcher reads after it (R611). -/
def turnToEnd (d : Device) (c : Cmd) : Bool :=
  !(before d c).any fun x =>
    (decide (x.part = c.part) && (queueOf x).isNone) || (decide (queueOf c = some .matrix ∨ queueOf c = some .vector) && sameQueue c x)

/-- The end of a part of another device's command: that device hears how it ended (R48; log 60). -/
def memberEnd (c : Cmd) (dev id : Nat) (d : Device) : Device :=
  let x := c.done
  sendPacket dev c.part true (.shareDone id x.status x.flags x.detail x.tilePos x.tileCh)
    (scEnd c { d with cmds := d.cmds.filter fun y => decide (y.id ≠ c.id) })

/-- The completion of a command whose work and dumps have ended: order event, record, counts; the command leaves its queue. While
the buffer of held records is full and the record would be held too, it waits (R384). A fenced device that holds a FIXED_TIME
completion breaks rank 2 for rank 1 (R474). -/
def completionWrite (id : Nat) (d : Device) : Device :=
  match cmdOf d id with
  | none => d
  | some c =>
    let q := ringCq d c.part c.sq
    if c.phase ≠ .ended ∨ c.dumpIn ≠ [] ∨ c.dumpOut ≠ [] then d
    else match c.member with
    | some (dev, n) => memberEnd c dev n d
    | none =>
      if turnToEnd d c = false ∨ cqRoom d c.part q = false then d
      else
      let dn := reported (partOf d c.part) c.done
      let d := countAbort c dn (signalEvent c d)
      let d := if fixedTime c ∧ role d = roleFenced then breach 1 2 1 d else d
      let x := partOf d c.part
      let d := setPart c.part (if serialLater (stepOf c) x.lastStep then { x with lastStep := stepOf c } else x) (scEnd c d)
      cqPost c.part q (cmdRec c dn)
        { d with cmds := d.cmds.filter (fun x => decide (x.id ≠ id)), clk := { d.clk with busyAt := d.clk.time } }

/-- The next announced entry of a ring, without regard to turns (R376, R379, R380). -/
def entryTake (p q : Nat) (e list : List Word) (good : Nat) (c : Circ) (d : Device) : Device :=
  if entryReady d p q then
    let d := askEntry p q d
    if entryValid d p q e then
      let lg := sqLegacy d p q
      if isAbortEntry lg e then takeAbort p q d
      else if isListEntry lg e then
        let d := applyCirc p c (askList e d)
        let (ws, ok) := entryList d e list good
        if ws = [] then entryFails p q stMemory 0 d else listOpen p q ws ok d
      else entryFails p q stMalformed 0 d
    else staleStop p q d
  else d

/-- The queue of a command has a free place (R308). -/
def queueRoom (d : Device) (c : Cmd) : Bool := decide ((d.cmds.filter fun x => sameQueue x c).length < 64)

/-- The list that a ring reads can go on now (R308, R380). -/
def listReady (d : Device) (p q : Nat) : Bool :=
  match (ringOf (partOf d p) q).reading with
  | none => false
  | some l => dispatchOk d p &&
    (match nextCommand (sqLegacy d p q) (rget d (oSqCtrl p q)).toNat l with
     | none => l.broken
     | some (ws, bad, _) =>
       let c := listCmd d p q l ws bad
       (queueOf c).isNone || queueRoom d c)

/-! ### Turns (R381) -/

/-- The first number of a list after `last`, cyclically among n. -/
def nextAfter (n last : Nat) (l : List Nat) : Option Nat := ((List.range n).map fun k => (last + 1 + k) % n).find? l.contains

/-- Rings of a partition with an entry to read. -/
def ringsReady (d : Device) (p : Nat) (x : Part) : List Nat :=
  (x.rings.filter fun r => !r.2.stopped && entryReady d p r.1).map (·.1)

/-- The fetcher's next entry is this ring's: no list can go on, and its partition, and in it the ring, comes next in round-robin
after the one served last (R381). Which of several lists that have been blocked goes on first is left to the sender (log 5). -/
def entryTurn (d : Device) (p q : Nat) : Bool :=
  decide (nextAfter 64 d.fetchLast ((d.parts.filter fun e => decide (ringsReady d e.1 e.2 ≠ [])).map (·.1)) = some p) &&
  decide (nextAfter 16 (partOf d p).ringLast (ringsReady d p (partOf d p)) = some q) &&
  !d.parts.any fun e => e.2.rings.any fun r => listReady d e.1 r.1

/-- The fetcher has served an entry of a ring (R381). -/
def turnTo (p q : Nat) (d : Device) : Device := setPart p { partOf d p with ringLast := q } { d with fetchLast := p }

/-- The next announced entry of a ring, when it is its turn (R376, R379 to R381). -/
def entryConsume (p q : Nat) (e list : List Word) (good : Nat) (c : Circ) (d : Device) : Device :=
  if entryTurn d p q then entryTake p q e list good c (turnTo p q d) else d

/-- A control entry with CTRL_OP ABORT (R386). -/
def abortEntry (p q : Nat) (e : List Word) (d : Device) : Device :=
  if isAbortEntry (sqLegacy d p q) e then entryConsume p q e [] 0 {} d else d

/-! ### Handing over -/

/-- The next command of the list that a ring reads is handed to its queue, once that has room; one that has no
queue completes at once (R308, R380, R393, R611). -/
def dispatch (p q : Nat) (d : Device) : Device :=
  match (ringOf (partOf d p) q).reading with
  | none => d
  | some l =>
    if dispatchOk d p then
      match nextCommand (sqLegacy d p q) (rget d (oSqCtrl p q)).toNat l with
      | none => if l.broken then entryFails p q stMemory l.seq d else d
      | some (ws, bad, rest) =>
        let c := listCmd d p q l ws bad
        match queueOf c with
        | none => completionWrite c.id (listAfter p q (seqOf c) l rest (addCmd (fetchMalformed c) d))
        | some _ =>
          if queueRoom d c then
            wakeRun (listAfter p q (seqOf c) l rest (addCmd c d))
          else d
    else d

/-- The acknowledgement of an abort, once no command of the partition is left and its record can be posted (R339, R384, R388). -/
def abortAck (p : Nat) (d : Device) : Device :=
  let x := partOf d p
  match x.abort with
  | .effective sq slot =>
    if (d.cmds.any fun c => decide (c.part = p)) || !cqRoom d p (ringCq d p sq) then d
    else
      let d := setPart p { x with abort := .none, aborted := 0, abortLate := false } d
      cqPost p (ringCq d p sq)
        { flags := if x.abortLate then flagLate else 0, rtype := 2, tilePos := x.aborted, sq := sq, slot := slot } d
  | _ => d

/-! ## Meanings -/

/-- DISPATCH (R308). -/
def execDispatch (part sq : Nat) (s : State) := run (.dispatch part sq) (dispatch part sq) s
/-- COMPLETION_WRITE (R340). -/
def execCompletionWrite (id : Nat) (s : State) := run (.completionWrite id) (completionWrite id) s
/-- INTERRUPT_COAL_TIMEOUT (R385). -/
def execInterruptCoalTimeout (part cq : Nat) (s : State) := run (.interruptCoalTimeout part cq) (coalTimeout part cq) s
/-- DOORBELL_POLL (R375). -/
def execDoorbellPoll (part block : Nat) (words : List DWord) (s : State) :=
  run (.doorbellPoll part block words) (doorbellPoll part block words) s
/-- WAKE_WRITE (R371). -/
def execWakeWrite (fn off : Nat) (s : State) := run (.wakeWrite fn off) (wakeWrite fn off) s
/-- ENTRY_CONSUME (R380). -/
def execEntryConsume (part sq : Nat) (entry list : List Word) (good : Nat) (c : Circ) (s : State) :=
  run (.entryConsume part sq entry list good c) (entryConsume part sq entry list good c) s
/-- ABORT_ENTRY (R386). -/
def execAbortEntry (part sq : Nat) (entry : List Word) (s : State) := run (.abortEntry part sq entry) (abortEntry part sq entry) s
/-- ABORT_ACK (R339). -/
def execAbortAck (part : Nat) (s : State) := run (.abortAck part) (abortAck part) s
/-- EVENT_MERGE_TIMEOUT (R390). -/
def execEventMergeTimeout (part code source : Nat) (s : State) :=
  run (.eventMergeTimeout part code source) (evMergeEnd part code source) s

end Sys2Proof.Machine
end

