-- ==== Sys2Proof/Machine/Host.lean ====
section
/-! DEFINITION. Partitions, their resets, and what the host does through BAR4 and configuration requests (R26, R44, R45, R254,
R368, R370, R372, R565, R570). -/

namespace Sys2Proof.Machine

/-! ## Enabling and disabling a partition -/

/-- Band stores that a partition owns (R42). -/
def ownedBands (d : Device) (p : Nat) : List Nat := (List.range 12).filter fun b => decide (bandOwner d b = p)

/-- Some store of the partition is being cleared (R254). -/
def clearingFor (d : Device) (p : Nat) : Bool :=
  d.parts.any fun e => e.2.clrArrays.any (inMask d p) || e.2.clrBands.any fun b => decide (bandOwner d b = p)

/-- The mask shares an array with another enabled partition (R44). -/
def overlaps (d : Device) (p : Nat) : Bool :=
  (List.range 64).any fun o => decide (o ≠ p) && partEn d o &&
    (List.range 6).any fun w => decide (rget d (oArrayMask p w) &&& rget d (oArrayMask o w) ≠ 0)

/-- The mask holds a retired array (R54). -/
def holdsRetired (d : Device) (p : Nat) : Bool :=
  (List.range 6).any fun w => decide (rget d (oArrayMask p w) &&& ~~~ rget d (oAvailMask w) ≠ 0)

/-- A field of a register changed, and the change journalled (R604). -/
def fputConfig (base off : Nat) (f : Fld) (v : Nat) (d : Device) : Device :=
  let old := rget d off
  let d := fput off f v d
  if rget d off = old then d else journalConfig base (off - base) old (rget d off) d

/-- ENABLE becomes 1. `old` is what PART_CTRL held before the write. -/
def partOn (p : Nat) (old : Word) (d : Device) : Device :=
  let d := fput (oPartCtrl p) fPartCtrlEnable 1 (setPart p { partOf d p with enabling := false } d)
  journalConfig 0x8000 (oPartCtrl p - 0x8000) old (rget d (oPartCtrl p)) d

/-- A write of 1 to ENABLE (R44, R45, R54, R254), PART_CTRL holding `old` before the write. A refused enable waits for nothing. -/
def partitionEnableFrom (p : Nat) (old : Word) (d : Device) : Device :=
  if partEn d p then setPart p { partOf d p with disabling := false } d
  else if overlaps d p || holdsRetired d p then
    fput (oPartCtrl p) fPartCtrlOverlapErr 1 (setPart p { partOf d p with enabling := false } d)
  else if clearingFor d p then setPart p { partOf d p with enabling := true } d
  else partOn p old d

/-- A write of 1 to ENABLE alone. -/
def partitionEnable (p : Nat) (d : Device) : Device := partitionEnableFrom p (rget d (oPartCtrl p)) d

/-- Every unit of the stores of a partition's arrays and bands written 0; the clearing is under way, and one that was under way goes
on (R254). -/
def clearStores (p : Nat) (d : Device) : Device :=
  let as := maskArrays d p
  let bs := ownedBands d p
  let x := partOf d p
  let d := setPart p { x with clrArrays := as.foldr nsInsert x.clrArrays, clrBands := bs.foldr nsInsert x.clrBands } d
  bs.foldl (fun d b => clearBand b d) (as.foldl (fun d a => clearArray a d) d)

/-- A pending disable takes effect once BUSY is 0 (R45, R254). -/
def partitionDisableEffect (p : Nat) (d : Device) : Device :=
  if (partOf d p).disabling && !partBusy d p then
    let d := setPart p { partOf d p with disabling := false } d
    clearStores p (fputConfig 0x8000 (oPartCtrl p) fPartCtrlEnable 0 d)
  else d

/-- A write of 0 to ENABLE: it takes effect at once while BUSY is 0 (R45, R254). -/
def partitionDisable (p : Nat) (d : Device) : Device :=
  if partEn d p then partitionDisableEffect p (setPart p { partOf d p with disabling := true } d)
  else setPart p { partOf d p with enabling := false } d

/-- Registers that a partition reset restores (R597): the partition's pages of the host and engine blocks, its busy
counters, SAT_COUNT of its arrays. -/
def partRegs (d : Device) (p off : Nat) : Bool :=
  (decide (0x40000 + 0x1000 * p ≤ off) && decide (off < 0x40000 + 0x1000 * p + 0x800)) ||
  (decide (0x20000 + 0x200 * p ≤ off) && decide (off < 0x20000 + 0x200 * p + 0x200)) ||
  (decide (oBusyMatrix p 0 ≤ off) && decide (off < oBusyMatrix p 0 + 0x20)) ||
  (decide (oSatCount 0 ≤ off) && decide (off < oSatCount 192) && inMask d p ((off - oSatCount 0) / 4))

/-- A partition reset (R254, R368, R565, R568): rings, order events and registers; an abort ends without acknowledgement. -/
def partReset (p : Nat) (d : Device) : Device :=
  let x := partOf d p
  let d := rreset (partRegs d p) d
  let d := setPart p { enabling := x.enabling, disabling := x.disabling, clrArrays := x.clrArrays, clrBands := x.clrBands } d
  clearStores p (dropKept (maskArrays d p) d)

/-- The MSI-X structures of a function at their reset values (R598; log 9). -/
def msixRegs (fn off : Nat) : Bool :=
  if fn = 0 then decide (0x90000 ≤ off) && decide (off < 0xA0000)
  else decide (oVfMsixTable (fn - 1) 0 ≤ off) && decide (off < oVfMsixTable (fn - 1) 0 + 0x400)

/-- A Function Level Reset (R368). -/
def functionLevelReset (fn : Nat) (d : Device) : Device :=
  let d := rreset (msixRegs fn) (partReset fn d)
  if fn = 0 then { d with pcie := { d.pcie with vfEnable := false } } else d

/-- The write of the domain number (R26). -/
def domainWrite (v : Word) (d : Device) : Device :=
  if fbit d oDeviceId fDeviceIdDomainSet then d
  else fput oDeviceId fDeviceIdDomainSet 1 (fput oDeviceId fDeviceIdDomain (bits 11 4 v.toNat) d)

/-! ## BAR4 and configuration requests -/

/-- Every address of a range is mapped (R370, R397). -/
def rangeMapped (l n : Nat) : Bool :=
  (isHbm l && isHbm (l + n - 1)) ||
  (match scratchAt l, scratchAt (l + n - 1) with
   | some (s, a, _), some (t, b, _) => decide (s = t) && decide (a = b)
   | _, _ => false)

/-- The local address that an offset of BAR4 reaches (R370). -/
def bar4Addr (d : Device) (off : Nat) : Nat := fget d (oWinBase 0) fWinBaseBase * 2 ^ 30 + off

/-- A request lies within BAR4 (R367, R369). -/
def inBar4 (d : Device) (off n : Nat) : Bool := decide (off + n ≤ 2 ^ (30 + d.pcie.bar4))

/-- A request through BAR4 is served (R369, R370). -/
def bar4Serve (req : Bar4Req) (c : Circ) (d : Device) : Device :=
  match req with
  | .read off len =>
    let l := bar4Addr d off
    if len = 0 ∨ !inBar4 d off len ∨ !rangeMapped l len then emit .unsupported d
    else
      let d := perfOne 16 0x23 none (units64 l len) (hbmRead l len none (applyCirc 0 c (wakeRun d)))
      emit (.readData (bytesAt d l len) (firstBad d l len).isSome) (countRange l len d)
  | .write off bs =>
    let l := bar4Addr d off
    if bs = [] ∨ !inBar4 d off bs.length ∨ !rangeMapped l bs.length then emit .unsupported d
    else
      let d := perfOne 16 0x22 none (units64 l bs.length) (hbmWrite l bs.length none (applyCirc 0 c (wakeRun d)))
      put l bs d

/-- A request through BAR4 reaches a store that is being cleared or substituted (R254, R453). -/
def bar4Held (req : Bar4Req) (d : Device) : Bool :=
  match req with
  | .read off len => heldRange d (bar4Addr d off) len
  | .write off bs => heldRange d (bar4Addr d off) bs.length

/-- A request through BAR4: served, or held until its store answers again (R254, R370, R453). -/
def bar4Access (req : Bar4Req) (c : Circ) (d : Device) : Device :=
  if bar4Held req d then wakeRun { d with waiting := d.waiting ++ [.bar4 req c] } else bar4Serve req c d

/-- A configuration request (R367, R372, R570, R571). -/
def configRequest (req : CfgReq) (d : Device) : Device :=
  if d.pcie.held then d
  else match d.clk.power with
    | .run | .idle | .standby | .awaitImage =>
      let d := match req with
        | .vfEnable on => { d with pcie := { d.pcie with vfEnable := on } }
        | .bar4Size k => { d with pcie := { d.pcie with bar4 := k } }
        | .other => d
      emit .cfgOk d
    | _ => emit .cfgRetry d

/-- The PCI Express link completes training (R367, R392). -/
def pcieLinkTraining (rate width : Nat) (d : Device) : Device :=
  let d := { d with pcie := { d.pcie with rate := rate, width := width } }
  if rate ≤ 8 ∨ width < 16 then raiseDev 0x0012 0 rate width d else d

/-! ## Meanings -/

/-- PARTITION_ENABLE (R44). -/
def execPartitionEnable (part : Nat) (s : State) := run (.partitionEnable part) (partitionEnable part) s
/-- PARTITION_DISABLE (R45). -/
def execPartitionDisable (part : Nat) (s : State) := run (.partitionDisable part) (partitionDisable part) s
/-- PARTITION_DISABLE_EFFECT (R254). -/
def execPartitionDisableEffect (part : Nat) (s : State) := run (.partitionDisableEffect part) (partitionDisableEffect part) s
/-- FUNCTION_LEVEL_RESET (R368). -/
def execFunctionLevelReset (fn : Nat) (s : State) := run (.functionLevelReset fn) (functionLevelReset fn) s
/-- PART_RESET (R565). -/
def execPartReset (part : Nat) (s : State) := run (.partReset part) (partReset part) s
/-- DOMAIN_WRITE (R26). -/
def execDomainWrite (v : Word) (s : State) := run (.domainWrite v) (domainWrite v) s
/-- BAR4_ACCESS (R370). -/
def execBar4Access (req : Bar4Req) (c : Circ) (s : State) := run (.bar4Access req c) (bar4Access req c) s
/-- CONFIG_REQUEST (R570). -/
def execConfigRequest (req : CfgReq) (s : State) := run (.configRequest req) (configRequest req) s
/-- PCIE_LINK_TRAINING (R367). -/
def execPcieLinkTraining (rate width : Nat) (s : State) := run (.pcieLinkTraining rate width) (pcieLinkTraining rate width) s

end Sys2Proof.Machine
end

