-- ==== Sys2Proof/Machine/Prick.lean ====
section
/-! DEFINITION. Prickings (R277 to R284, R293), the division of a command over arrays (R28 to R34, R285, R286) and the checks that
depend on them (steps 3 and 4 of R301). -/

namespace Sys2Proof.Machine

/-! ## The table (R277, R278) -/

def pk (c : Cmd) (k hi lo : Nat) : Nat := bits hi lo (wordAt c.prick k)

def pLev (c : Cmd) : Nat := pk c 0 2 0
def pCuse (c : Cmd) : Nat := pk c 0 11 3 + 1
def pBcast (c : Cmd) : Nat := pk c 0 18 12
def pK (c : Cmd) : Nat := pk c 1 23 0
def pRun (c : Cmd) : Nat := pk c 2 23 0
def pNC (c : Cmd) : Nat := pk c 3 23 0
def pWPass (c : Cmd) : Nat := pk c 4 12 0
def pWTs (c : Cmd) : Nat := pk c 4 25 13
def pOTs (c : Cmd) : Nat := pk c 5 31 0
def pList (c : Cmd) : Nat := pk c 6 15 0
def pListLev (c : Cmd) : Nat := pk c 6 18 16
def pListOps (c : Cmd) : Nat := pk c 6 21 19
def pLimit (c : Cmd) : Nat := pk c 7 23 0
def lBound (c : Cmd) (l : Nat) : Nat := pk c (8 + 4 * l) 23 0
def lRed (c : Cmd) (l : Nat) : Bool := decide (pk c (8 + 4 * l) 24 24 = 1)
def lOrder (c : Cmd) (l : Nat) : Nat := pk c (8 + 4 * l) 27 25
/-- The stride of a level for activations 0, weights 1 or outputs 2. -/
def lStride (c : Cmd) (l op : Nat) : Int := signed 32 (pk c (9 + 4 * l + op) 31 0)

/-- The levels of a dimension in ascending ORDER. -/
def levelsOf (c : Cmd) (red : Bool) : List Nat :=
  (List.range 6).filterMap fun o => (List.range (pLev c)).find? fun l => decide (lOrder c l = o) && (lRed c l == red)

/-- Input sites or positions that the POS levels number. -/
def posBounds (c : Cmd) : Nat := ((levelsOf c false).map (lBound c)).foldl (· * ·) 1
def redBounds (c : Cmd) : Nat := ((levelsOf c true).map (lBound c)).foldl (· * ·) 1

/-- NP: the plan's position extent (R281, R306). -/
def pNP (c : Cmd) : Nat := if mScat c ≠ 0 then 4096 else posBounds c

/-- The real position extent (R275, R304). -/
def realExt (c : Cmd) : Nat := if mReal c = 0xFFFFFFFF then pNP c else mReal c

/-- K_p, the passes Q of the plan, blocks along K (R293). -/
def mKp (c : Cmd) : Nat := 512 * mM c / mN c
def pQ (c : Cmd) : Nat := ceilDiv (pK c) (mKp c)
def pNB (c : Cmd) : Nat := ceilDiv (pK c) 32
/-- Storage blocks of a weight line in its exponent tensor (R131). -/
def wBlocks (c : Cmd) : Nat := ceilDiv (pK c * mN c) (32 * mM c)

/-! ## Addresses (R281 to R283) -/

/-- pos_part, the coordinates of the list given. -/
def posPart (c : Cmd) (lst : Nat → Nat) (op j : Nat) : Int :=
  ((levelsOf c false).foldl (fun (x : Int × Nat) l =>
    let d := x.2 % lBound c l
    let v := if pListLev c = l + 1 ∧ bit op (pListOps c) = true then lst d else d
    (x.1 + v * lStride c l op, x.2 / lBound c l)) ((0 : Int), j)).1

/-- The digit of the list level in a position (R287). -/
def listDigit (c : Cmd) (j : Nat) : Nat :=
  ((levelsOf c false).foldl (fun (x : Nat × Nat) l =>
    (if pListLev c = l + 1 then x.2 % lBound c l else x.1, x.2 / lBound c l)) (0, j)).1

/-- Offset in storage blocks of the run that holds element k. -/
def redPart (c : Cmd) (k : Nat) : Int :=
  ((levelsOf c true).foldl (fun (x : Int × Nat) l =>
    (x.1 + ((x.2 % lBound c l : Nat) : Int) * lStride c l 0, x.2 / lBound c l)) ((0 : Int), k / pRun c)).1

/-- a_bit with pos_part given. -/
def aBit (c : Cmd) (pp : Int) (k : Nat) : Int :=
  (mARow c * 4096 : Nat) + (pp + redPart c k) * ((32 * mCa c : Nat) : Int) + ((k % pRun c * mCa c : Nat) : Int)

/-- w_row with pos_part given. -/
def wRow (c : Cmd) (pp : Int) (t i : Nat) : Int := ((mWRow c + t * pWTs c + i * pWPass c : Nat) : Int) + pp

/-- o_bit with pos_part given. -/
def oBit (c : Cmd) (pp : Int) (ch : Nat) : Int :=
  (mORow c * 4096 : Nat) + (pp + ((ch / pCuse c * pOTs c + ch % pCuse c : Nat) : Int)) * (outBits c : Int)

/-- The fused element's bit address (R282). -/
def fuseBit (c : Cmd) (lst : Nat → Nat) (j ch : Nat) : Int :=
  let pp := ((levelsOf c false).foldl (fun (x : Int × Nat) l =>
    let d := x.2 % lBound c l
    let v := if pListLev c = l + 1 ∧ bit 2 (pListOps c) = true then lst d else d
    (if bit l (pBcast c) then x.1 else x.1 + v * lStride c l 2, x.2 / lBound c l)) ((0 : Int), j)).1
  let cp : Nat := if bit 6 (pBcast c) then 0 else ch / pCuse c * pOTs c + ch % pCuse c
  (mFuseRow c * 4096 : Nat) + (pp + (cp : Int)) * (fuseBits c : Int)

/-- A coordinate of an array's list (R281, R296). -/
def listAt (d : Device) (c : Cmd) (a k : Nat) : Nat := wsWord d a ((pList c + k) % 65536)

/-! ## Shares (R30, R31) -/

/-- What one array does of a command: positions, channels and passes as (first, number), its place in the RED divisions above it,
outermost first, and whether its member of a domain command applies the output stage. -/
structure Share where
  arr : Nat
  pos : Nat × Nat
  ch : Nat × Nat
  ps : Nat × Nat
  red : List Nat
  outs : Bool := true
  deriving DecidableEq, Repr

/-- Child j's range of an extent divided over n children (R31). -/
def divide (x : Nat × Nat) (n j : Nat) : Nat × Nat :=
  (x.1 + j * (x.2 / n) + min j (x.2 % n), x.2 / n + (if j < x.2 % n then 1 else 0))

/-- A share's part for child j of n under a split mode (R28, R31). -/
def divideBy (mode n j : Nat) (s : Share) : Share :=
  match mode with
  | 0 => { s with ch := divide s.ch n j }
  | 1 => { s with pos := divide s.pos n j }
  | _ => { s with ps := divide s.ps n j, red := s.red ++ [j] }

/-- Children of a motif by its level, the unit at a chain position, and arrays of a motif (R14, R30). -/
def children (l : Nat) : Nat := if l = 3 then 3 else 4
def chainAt (l j : Nat) : Nat := if l = 4 then (match j with | 2 => 3 | 3 => 2 | n => n) else j
def arraysIn (l : Nat) : Nat := match l with | 0 => 1 | 1 => 4 | 2 => 16 | 3 => 48 | _ => 192

/-- The arrays' shares of a motif of level l, in chain order (R28 to R34). -/
def sharesUnder (c : Cmd) : Nat → Nat → Share → List Share
  | 0, a, s => [{ s with arr := a }]
  | l + 1, a, s => (List.range (children (l + 1))).flatMap fun j =>
      sharesUnder c l (a + chainAt (l + 1) j * arraysIn l) (divideBy (splitAt c (l + 1)) (children (l + 1)) j s)

/-- A share that does no work. -/
def emptyShare (s : Share) : Bool := decide (s.pos.2 = 0) || decide (s.ch.2 = 0) || decide (s.ps.2 = 0)

/-- The part of the member at an index among n, the whole command where there is one (R48). -/
def memberPart (c : Cmd) (n j : Nat) : Share :=
  { divideBy (dsplitOf c) n j { arr := 0, pos := (0, pNP c), ch := (0, pNC c), ps := (0, pQ c), red := [] } with red := [] }

/-- The indices of the members of n that hold work (R31). -/
def working (c : Cmd) (n : Nat) : List Nat := (List.range n).filter fun j => !emptyShare (memberPart c n j)

/-- The member at an index with work applies the output stage: any of them, or under RED the last (R33, R48). -/
def memberEnds (c : Cmd) (n j : Nat) : Bool := decide (dsplitOf c ≠ 2) || decide ((working c n).getLast? = some j)

/-- This device's index among the members of the command's domain motif. -/
def ownIndex (d : Device) (c : Cmd) : Nat := (members d c.part).findIdx fun m => decide (m = ownSlot d)

/-- The part of the member at an index among n, with its place at the end of a RED domain. -/
def partOfMember (c : Cmd) (n j : Nat) : Share := { memberPart c n j with outs := memberEnds c n j }

/-- The whole command, or this member's part of a domain command (R48). -/
def ownPart (d : Device) (c : Cmd) : Share :=
  if domainOf c then partOfMember c (members d c.part).length (ownIndex d c)
  else { arr := 0, pos := (0, pNP c), ch := (0, pNC c), ps := (0, pQ c), red := [] }

/-- The shares under a part that are not empty, in chain order (R31). -/
def sharesOf (c : Cmd) (s : Share) : List Share :=
  (sharesUnder c (levelOf c) (motifArrays (targetOf c)).1 s).filter fun s => !emptyShare s

/-- This device's shares. -/
def shares (d : Device) (c : Cmd) : List Share := sharesOf c (ownPart d c)

/-- The shares of every member of the command: of each device of a domain command, and of this one otherwise (R30, R48). -/
def allShares (d : Device) (c : Cmd) : List (List Share) :=
  if domainOf c then
    let n := (members d c.part).length
    (List.range n).map fun j => sharesOf c (partOfMember c n j)
  else [shares d c]

/-- Hops of one chain in the order in which they are made, and the array that ends with the sum; `ms` gives places in the RED
divisions and arrays (R33, R34). -/
def hopsOf : Nat → List (List Nat × Nat) → List (Nat × Nat) × Option Nat
  | 0, ms => ([], ms.head?.map (·.2))
  | n + 1, ms =>
    (List.range 16).foldl (fun acc k =>
      let sub := (ms.filter fun m => decide (m.1.head? = some k)).map fun m => (m.1.tail, m.2)
      match hopsOf n sub, acc.2 with
      | (_, none), _ => acc
      | (hs, some x), none => (acc.1 ++ hs, some x)
      | (hs, some x), some y => (acc.1 ++ hs ++ [(y, x)], some x)) ([], none)

/-- The members of the chain to which a share belongs: those with the same outputs. -/
def chainOf (ss : List Share) (s : Share) : List Share := ss.filter fun t => decide (t.pos = s.pos) && decide (t.ch = s.ch)
def chainHops (ss : List Share) (s : Share) : List (Nat × Nat) × Option Nat :=
  hopsOf s.red.length ((chainOf ss s).map fun t => (t.red, t.arr))

/-- All hops of a tile group, chain by chain. -/
def allHops (ss : List Share) : List (Nat × Nat) :=
  (ss.filter fun s => decide ((chainOf ss s).head? = some s)).flatMap fun s => (chainHops ss s).1

/-- The share is its device's last member of its chain (R33). -/
def endsChain (ss : List Share) (s : Share) : Bool := decide ((chainHops ss s).2 = some s.arr)

/-- The share is its chain's last member, which applies the output stage (R33). -/
def isLast (ss : List Share) (s : Share) : Bool := s.outs && endsChain ss s

/-! ## Tiles (R168, R286) -/

/-- Position tiles, tile groups per channel tile, channel tiles, tile groups of a share. -/
def posTiles (c : Cmd) (s : Share) : Nat := ceilDiv s.pos.2 (mP c)
def posGroups (c : Cmd) (s : Share) : Nat := ceilDiv (posTiles c s) (mT c)
def chTiles (c : Cmd) (s : Share) : Nat := ceilDiv s.ch.2 (pCuse c)
def groupsOf (c : Cmd) (s : Share) : Nat := chTiles c s * posGroups c s

/-- First channel and channels of a tile group. -/
def groupCh (c : Cmd) (s : Share) (g : Nat) : Nat × Nat :=
  let t := g / posGroups c s
  (s.ch.1 + t * pCuse c, min (pCuse c) (s.ch.2 - t * pCuse c))

/-- The tiles of a group as (first position, positions). -/
def groupTiles (c : Cmd) (s : Share) (g : Nat) : List (Nat × Nat) :=
  let k := g % posGroups c s * mT c
  (List.range (min (mT c) (posTiles c s - k))).map fun τ =>
    (s.pos.1 + (k + τ) * mP c, min (mP c) (s.pos.2 - (k + τ) * mP c))

/-- The positions of a group as (entry, position) (R168). -/
def groupPos (c : Cmd) (s : Share) (g : Nat) : List (Nat × Nat) :=
  (groupTiles c s g).zipIdx.flatMap fun (t, τ) => (List.range t.2).map fun k => (τ * mP c + k, t.1 + k)

/-- A tile group that is not run: THROUGHPUT, every position masked (R305). -/
def skipped (c : Cmd) (s : Share) (g : Nat) : Bool :=
  !fixedTime c && (groupPos c s g).all fun x => decide (realExt c ≤ x.2)

/-- Segments of a number of passes (R158). -/
def segments (c : Cmd) (passes : Nat) : Nat := max 1 (ceilDiv passes (interval c))

/-- λ_b (R165). -/
def slotsOf (c : Cmd) (s : Share) : Nat :=
  (segments c s.ps.2).log2 + (if s.red ≠ [] ∨ (domainOf c ∧ dsplitOf c = 2) then 1 else 0)

/-- The promotion-buffer levels that are full, and the passes of the open segment, before the command's first pass (R185). -/
def contFrom (d : Device) (c : Cmd) (a : Nat) : Nat × Nat :=
  match mCont c, (arrOf d a).kept with
  | true, some k => (k.fullMask, k.segPasses)
  | _, _ => (0, 0)

/-- The highest level of the promotion buffer that a share uses: the chain slot, or the highest that the procedure of R164 fills; none
where it holds no slot (R155, R156, R165, R185; log 45). -/
def slotTop (d : Device) (c : Cmd) (s : Share) : Option Nat :=
  let chain := decide (s.red ≠ []) || (domainOf c && decide (dsplitOf c = 2))
  let (m, k) := contFrom d c s.arr
  let top := m + max 1 (ceilDiv (k + s.ps.2) (interval c)) - 1
  if chain then some (max (slotsOf c s - 1) top.log2) else if top = 0 then none else some top.log2

/-- T_acc, T_buf and the test of R169. -/
def tAcc (c : Cmd) : Nat := (if splitPlanes c then 128 else 256) / mP c
def tMax (c : Cmd) (s : Share) : Nat :=
  let l := slotsOf c s
  if l = 0 then tAcc c else min (tAcc c) (65536 * 2 ^ mPbSize c / (l * mP c * pCuse c * 4))

/-! ## MALFORMED by the pricking (step 3 of R301) -/

/-- Reserved words and fields, and fields whose value R277 and R278 do not list. -/
def prickFields (c : Cmd) : Bool :=
  let n := pLev c
  decide (n = 0) || decide (n = 7) || decide (pk c 0 31 19 ≠ 0) || decide (pk c 1 31 24 ≠ 0) || decide (pk c 2 31 24 ≠ 0) ||
  decide (pk c 3 31 24 ≠ 0) || decide (pk c 4 31 26 ≠ 0) || decide (pk c 6 31 22 ≠ 0) || decide (pk c 7 31 24 ≠ 0) ||
  decide (pK c = 0) || decide (pNC c = 0) || decide (pListLev c = 7) ||
  (List.range 6).any (fun l =>
    if l < n then decide (pk c (8 + 4 * l) 31 28 ≠ 0) || decide (lBound c l = 0)
    else (List.range 4).any fun k => decide (wordAt c.prick (8 + 4 * l + k) ≠ 0))

/-- R280. -/
def prickNest (c : Cmd) : Bool :=
  let ls := List.range (pLev c)
  let ob := outBits c
  ls.any (fun o => decide ((ls.countP fun l => decide (lOrder c l = o)) ≠ 1)) || decide (levelsOf c false = []) ||
  decide (0xFFFFFFFE < posBounds c) || decide (pRun c * redBounds c ≠ pK c) ||
  (decide (pRun c ≠ pK c) && decide (pRun c % 32 ≠ 0)) ||
  ls.any (fun l => lRed c l && (decide (lStride c l 1 ≠ 0) || decide (lStride c l 2 ≠ 0))) ||
  (decide (mASp c ≠ 0) && ls.any (lRed c)) || (decide (mWSp c ≠ 0) && (decide (pWPass c ≠ 0) || decide (pWTs c ≠ 0))) ||
  ls.any (fun l => decide (lStride c l 2 * (ob : Int) % 8 ≠ 0)) || decide (pOTs c * ob % 8 ≠ 0) ||
  (decide (mFuse c = 0) && decide (pBcast c ≠ 0)) ||
  (decide (pListLev c = 0) && (decide (pListOps c ≠ 0) || decide (pLimit c ≠ 0))) ||
  (decide (pListLev c ≠ 0) && (decide (pListOps c = 0) || decide (pLev c < pListLev c) || lRed c (pListLev c - 1) ||
    decide (4096 < lBound c (pListLev c - 1))))

/-- R287: OUT shares begin at channel tiles, and no tile group spans a change of weights. -/
def prickGroups (d : Device) (c : Cmd) : Bool :=
  (allShares d c).flatten.any fun s =>
    decide (s.ch.1 % pCuse c ≠ 0) ||
    (List.range (posGroups c s)).any fun g =>
      match groupPos c s g with
      | [] => false
      | x :: r => r.any fun y => decide (posPart c id 1 y.2 ≠ posPart c id 1 x.2) ||
          (bit 1 (pListOps c) && decide (listDigit c y.2 ≠ listDigit c x.2))

/-- A kept accumulation agrees with the command (R185). -/
def keptAgrees (c : Cmd) (k : Kept) : Bool :=
  decide (k.tilePos = mP c - 1) && decide (k.group = mT c - 1) && decide (k.pa = mPa c - 1) && decide (k.pwe = mPwe c - 1) &&
  decide (k.cUse = pCuse c - 1) && (k.fullWidth == mFp c) && decide (k.pbRow = mPbRow c) && decide (k.pbSize = mPbSize c)

/-- The MALFORMED checks that need the pricking (R68, R158, R169, R178, R183, R185, R280, R283, R287). -/
def prickBad (d : Device) (c : Cmd) : Bool :=
  prickFields c || prickNest c || decide (mCmax c < pCuse c) || (decide (mScat c ≠ 0) && decide (posBounds c < mInExt c)) ||
  prickGroups d c ||
  (allShares d c).flatten.any (fun s => decide (tMax c s < mT c) || decide (65536 < segments c s.ps.2) ||
    ((slotTop d c s).isSome && decide (4 < mPbSize c))) ||
  (decide (mTopk c ≠ 0) && decide (mTkAxis c = 1) && decide (pNC c ≠ pCuse c)) ||
  ((mKeep c || mCont c) && (shares d c).any fun s => decide (1 < groupsOf c s)) ||
  (mCont c && (shares d c).any fun s =>
    match (arrOf d s.arr).kept with | none => true | some k => !keptAgrees c k)

/-! ## PERMISSION (step 4 of R301) -/

/-- Some of n bits from an address lie outside the row store. -/
def outside (b : Int) (n : Nat) : Bool := decide (b < 0) || decide (6144 * 4096 < b + n)

/-- The coordinates that stand for a list in the range check of R284. -/
def listEnds (c : Cmd) (op : Nat) : List Nat :=
  if pListLev c ≠ 0 ∧ bit op (pListOps c) = true then (if pLimit c = 0 then [] else [0, pLimit c - 1]) else [0]

/-- Positions of a share, or the input sites of a scatter command (R216, R283). -/
def addrPos (c : Cmd) (s : Share) (op : Nat) : List Nat :=
  if mScat c ≠ 0 ∧ op = 0 then List.range (mInExt c) else (List.range s.pos.2).map (· + s.pos.1)

/-- Storage blocks along K of a share's passes. -/
def shareBlocks (c : Cmd) (s : Share) : List Nat :=
  let b0 := s.ps.1 * (mKp c / 32)
  (List.range (min (s.ps.2 * (mKp c / 32)) (pNB c - b0))).map (· + b0)

/-- Bytes of a weight image of n channels (R607, R211, R212). -/
def imageBytes (c : Cmd) (n : Nat) : Nat :=
  if mNM c then (if mNmSrc c then n * mCw c * 64 * mM c / mN c else n * (mCw c + mX c) * 64) else n * mCw c * 64

/-- The command reads rescale entries in this share (R125, R127, R217, R240). -/
def usesTable (ss : List Share) (c : Cmd) (s : Share) : Bool :=
  (isLast ss s && decide (mScat c = 0) && !mKeep c) || mZp c

/-- The command writes its destination from this share (R184, R217, R240). -/
def writesDest (ss : List Share) (c : Cmd) (s : Share) : Bool :=
  isLast ss s && decide (mScat c = 0) && !mKeep c && !isPred c

/-- Words of the importance map of a share (R243). -/
def mapWidth (s : Share) : Nat := 32 * ceilDiv s.ch.2 32
def mapWords (s : Share) : Nat := 2 + s.pos.2 * mapWidth s / 32

/-- The share first in chain order among those that hold the same channels: it writes top-k lists (R179). -/
def firstOfCh (ss : List Share) (s : Share) : Bool :=
  match ss.find? fun t => decide (t.ch = s.ch) && isLast ss t with | some t => decide (t.arr = s.arr) | none => false

/-- Elements from the start of the promotion buffer to the end of the last slot element of a level (R156, R166). -/
def slotsEnd (c : Cmd) (s : Share) (top : Nat) : Nat :=
  let tiles := min (mT c) (posTiles c s)
  ((top * mT c + tiles - 1) * mP c + min (mP c) (s.pos.2 - (tiles - 1) * mP c) - 1) * pCuse c + min (pCuse c) s.ch.2

/-- Rows of a share's operands outside the row store (R156, R284). -/
def rowsOut (d : Device) (ss : List Share) (c : Cmd) (s : Share) : Bool :=
  (decide (mASp c = 0) && (addrPos c s 0).any fun j => (listEnds c 0).any fun v => (shareBlocks c s).any fun b =>
    outside (aBit c (posPart c (fun _ => v) 0 j) (32 * b)) (min 32 (pK c - 32 * b) * mCa c)) ||
  (decide (mWSp c = 0) && (addrPos c s 1).any fun j => (listEnds c 1).any fun v =>
    (List.range (chTiles c s)).any fun t => (List.range s.ps.2).any fun i =>
      outside (wRow c (posPart c (fun _ => v) 1 j) (s.ch.1 / pCuse c + t) (s.ps.1 + i) * 4096)
        (8 * imageBytes c (min (pCuse c) (s.ch.2 - t * pCuse c)))) ||
  (writesDest ss c s && (if mTopk c ≠ 0 ∧ mTkAxis c = 0 then
      firstOfCh ss s && outside (mORow c * 4096 : Nat) (s.ch.2 * mTopk c * 64)
    else (addrPos c s 2).any fun j => (listEnds c 2).any fun v =>
      if mTopk c ≠ 0 then outside (oBit c (posPart c (fun _ => v) 2 j) 0) (mTopk c * 64)
      else (List.range s.ch.2).any fun k => outside (oBit c (posPart c (fun _ => v) 2 j) (s.ch.1 + k)) (outBits c))) ||
  (writesDest ss c s && decide (mFuse c ≠ 0) && (addrPos c s 2).any fun j => (listEnds c 2).any fun v =>
    (List.range s.ch.2).any fun k => outside (fuseBit c (fun _ => v) j (s.ch.1 + k)) (fuseBits c)) ||
  (match slotTop d c s with | some t => outside (mPbRow c * 4096 : Nat) (slotsEnd c s t * 32) | none => false)

/-- A structure of n words at a word index that goes beyond word 65,535. -/
def beyond (addr n : Nat) : Bool := decide (65536 < addr + n)

/-- Plan pass i (R293). -/
def planPass (c : Cmd) (i : Nat) : Pass :=
  let n := mKp c / 32
  { i := i, blocks := (List.range (min n (pNB c - i * n))).map (· + i * n) }

/-- Codebook size in words (R109). -/
def cbWords (kind : Nat) : Nat := if kind = 7 then 8 else 128

/-- Lines of a directory outside the word store (R198). -/
def linesOut (c : Cmd) (s : Share) (addr op : Nat) : Bool :=
  (addrPos c s op).any fun j => (listEnds c op).any fun v =>
    let p := posPart c (fun _ => v) op j
    let line (n : Int) : Bool := decide ((addr : Int) + 2 * n < 0) || decide (65536 < (addr : Int) + 2 * n + 2)
    if op = 0 then line p else line (p + s.ch.1) || line (p + (s.ch.1 + s.ch.2 - 1 : Nat))

/-- Word-store structures of a share beyond the end of the word store, and scatter tables beyond their stores (R111, R119, R124,
R156, R198, R218, R230, R296). -/
def wordsOut (ss : List Share) (c : Cmd) (s : Share) : Bool :=
  let chEnd := s.ch.1 + s.ch.2
  let posEnd := s.pos.1 + s.pos.2
  (usesTable ss c s && beyond (mRt c) (8 * chEnd)) ||
  (decide (7 ≤ mWK c) && beyond (mWcb c) (((chEnd - 1) / mCbG c + 1) * cbWords (mWK c))) ||
  (decide (7 ≤ mAK c) && beyond (mAcb c) (cbWords (mAK c))) ||
  (mEsc c && beyond (mSl c) (514 * pQ c)) ||
  (decide (mAstK c = 1) && beyond (mAst c) (ceilDiv (posEnd * pNB c) 4)) ||
  (decide (mWstK c = 1) && beyond (mWst c) (ceilDiv (chEnd * wBlocks c) 4)) ||
  (decide (mWstK c = 2) && isLast ss s && beyond (mWst c) (ceilDiv chEnd 2)) ||
  (decide (mTopk c ≠ 0) && decide (mTkAxis c = 0) && isLast ss s && beyond (mTk c) (s.ch.2 * 2 * mTopk c)) ||
  (decide (mASp c ≠ 0) && linesOut c s (mAbm c) 0) || (decide (mWSp c ≠ 0) && linesOut c s (mWbm c) 1) ||
  (isStoch c && beyond (mTap c) 512) ||
  ((isPred c || decide (2 ≤ mGate c)) && beyond (mImap c) (mapWords s)) ||
  (decide (pListLev c ≠ 0) && beyond (pList c) (lBound c (pListLev c - 1))) ||
  (decide (mScat c ≠ 0) && beyond (mPair c) (2 * min (realExt c) 4096)) ||
  (decide (mScat c = 1) && decide (6144 * 512 < mTable c * 512 + mOutExt c * pCuse c * 4))

/-- Channels of a band's shares (R221). -/
def bandCh (ss : List Share) (b : Nat) : Nat × Nat :=
  match ss.filter fun s => decide (bandOf s.arr = b) with
  | [] => (0, 0)
  | s :: r =>
    let lo := r.foldl (fun m t => min m t.ch.1) s.ch.1
    let hi := r.foldl (fun m t => max m (t.ch.1 + t.ch.2)) (s.ch.1 + s.ch.2)
    (lo, hi - lo)

/-- The scale channel may not be named (R141). -/
def scRefused (d : Device) (p n : Nat) : Bool :=
  !fbit d (oScCtrl n) fScCtrlEnable || decide (fget d (oScCtrl n) fScCtrlOwner ≠ p)

/-- The PERMISSION checks of a MATMUL, over the shares of every member (R30, R284). -/
def matmulPerm (d : Device) (c : Cmd) : Bool :=
  let ss := shares d c
  headPerm d c || (allShares d c).any (fun ss => ss.any fun s => rowsOut d ss c s || wordsOut ss c s) ||
  (decide (mScat c = 2) && ss.any fun s =>
    decide (0x2000000 < mTable c * 64 + mOutExt c * (bandCh ss (bandOf s.arr)).2 * 4)) ||
  (decide (mSc c ≠ 0) && c.scNo)

end Sys2Proof.Machine
end

