-- ==== Sys2Proof/Machine/Feed.lean ====
section
/-! DEFINITION. What reaches the cells: containers read from the row store, codebooks, block maps, activation slices and weight
images, with every fault that their reading finds (R69 to R76, R92 to R121, R193 to R200, R209 to R215, R231). -/

namespace Sys2Proof.Machine

/-- Faults of a tile group as (rank in the order of R226, address of a failing unit). The ranks are 1 SCRATCH_PARITY, 2 MALFORMED
block map, 3 INDEX_RANGE, 4 SPARSE_PATTERN, 5 to 7 the rows of R117 by status, 8 MALFORMED rescale entry. -/
abbrev Faults := List (Nat × Nat)

/-- The status of a rank. -/
def rankStatus (r : Nat) : Nat :=
  match r with
  | 1 => stParity | 2 => stMalformed | 3 => stIndex | 4 => stPattern | 5 => stEscape | 6 => stIndex | _ => stMalformed

/-- The fault that is reported (R226). -/
def worst (fs : Faults) : Option (Nat × Nat) :=
  match fs with
  | [] => none
  | f :: r => some (r.foldl (fun m x => if x.1 < m.1 then x else m) f)

/-- A fault when a condition holds. -/
def faultIf (b : Bool) (rank : Nat) : Faults := if b then [(rank, 0)] else []

/-- The failing unit that a read of places lo to hi - 1 meets. -/
def parityIn (d : Device) (lo hi : Nat) : Faults :=
  match d.merr.parity.find? fun k => decide (lo ≤ k) && decide (k < hi) with
  | some k => [(1, k)]
  | none => []

/-- Rows of an array read for n bits from a bit address (R89). -/
def rowsParity (d : Device) (a b n : Nat) : Faults :=
  if n = 0 then [] else parityIn d (rowAddr a (b / 4096 * 512)) (rowAddr a (((b + n - 1) / 4096 + 1) * 512))

/-- n words of an array's word store read from a word index. -/
def wordsParity (d : Device) (a w n : Nat) : Faults := parityIn d (wordAddr a (4 * w)) (wordAddr a (4 * (w + n)))

/-- n bits at a bit address of an array's row store (R97). -/
def rowBits (d : Device) (a b n : Nat) : Nat :=
  (leNat (bytesAt d (rowAddr a (b / 8)) (ceilDiv (b % 8 + n) 8)) / 2 ^ (b % 8)) % 2 ^ n

/-- Halfword h, counted from a word index, of an array's word store. -/
def halfAt (d : Device) (a w h : Nat) : Nat := bits (16 * (h % 2) + 15) (16 * (h % 2)) (wsWord d a (w + h / 2))
/-- Byte k, counted from a word index. -/
def byteOf (d : Device) (a w k : Nat) : Nat := (byteAt d (wordAddr a (4 * w + k))).toNat

/-! ## Block maps (R193 to R198) -/

/-- The run codes of a line as (PRESENT, LEN), and the faults of the line's directory words and run codes. -/
def runCodes (d : Device) (a bm : Nat) (line : Int) (nb : Nat) : List (Bool × Nat) × Faults :=
  let w := ((bm : Int) + 2 * line).toNat
  let w0 := wsWord d a w
  let w1 := wsWord d a (w + 1)
  let off := bm + bits 15 0 w1
  let n := bits 31 16 w1
  let beyond := decide (65536 < off + ceilDiv n 2)
  let codes := if beyond then [] else (List.range n).map fun i =>
    let h := halfAt d a off i
    (bit 15 h, bits 14 0 h)
  (codes, wordsParity d a w 2 ++ (if beyond then [] else wordsParity d a off (ceilDiv n 2)) ++ faultIf (decide (bits 31 22 w0 ≠ 0)) 2 ++
    faultIf (beyond || codes.any (fun r => decide (r.2 = 0)) || decide ((codes.map (·.2)).sum ≠ nb)) 3)

/-- Which blocks of a line are present. -/
def presence (codes : List (Bool × Nat)) : List Bool := codes.flatMap fun r => List.replicate r.2 r.1

/-- Bytes of an ELEM block of nz elements of C bits (R195). -/
def elemBytes (nz cw : Nat) : Nat := 1 + ceilDiv (5 * nz) 8 + ceilDiv (nz * cw) 8

/-- The byte offset in the row store of block b of a line whose blocks before it take the bytes that their encoding gives. -/
def blockOff (d : Device) (a mode cw : Nat) (pres : List Bool) (start : Nat) (b : Nat) : Nat :=
  (pres.take b).foldl (fun o p =>
    if p then o + (if mode = 1 then 4 * cw else elemBytes (rowBits d a (8 * o) 5 + 1) cw) else o) start

/-- The indices of an ELEM block's coded elements (R196). -/
def elemIdx : Nat → List Nat → List Nat
  | _, [] => []
  | p, s :: r => (p + s) :: elemIdx (p + s + 1) r

/-- The 32 containers of the block at a byte offset, and its faults (R195 to R197). -/
def readBlock (d : Device) (a mode cw off : Nat) : List Nat × Faults :=
  let limit := 6144 * 512
  if mode = 1 then
    if limit < off + 4 * cw then ([], faultIf true 3)
    else ((List.range 32).map fun k => rowBits d a (8 * off + k * cw) cw, rowsParity d a (8 * off) (32 * cw))
  else
    let nz := rowBits d a (8 * off) 5 + 1
    let n := elemBytes nz cw
    if limit < off + n then ([], faultIf true 3)
    else
      let skips := (List.range nz).map fun k => rowBits d a (8 * (off + 1) + 5 * k) 5
      let idx := elemIdx 0 skips
      let vs := (List.range nz).map fun k => rowBits d a (8 * (off + 1 + ceilDiv (5 * nz) 8) + k * cw) cw
      let at' (e : Nat) : Nat := match (idx.zip vs).find? fun x => decide (x.1 = e) with | some x => x.2 | none => 0
      ((List.range 32).map at', rowsParity d a (8 * off) (8 * n) ++ faultIf (decide (rowBits d a (8 * off + 5) 3 ≠ 0)) 2 ++
        faultIf (idx.any fun e => decide (31 < e)) 3)

/-- Block b of a line of a block-mapped operand that starts at a row: its containers, none when absent. -/
def mapBlock (d : Device) (a mode cw row bm : Nat) (line : Int) (nb b : Nat) : Option (List Nat) × Faults :=
  let (codes, fs) := runCodes d a bm line nb
  let pres := presence codes
  if pres.getD b false then
    let w := ((bm : Int) + 2 * line).toNat
    let (vs, gs) := readBlock d a mode cw (blockOff d a mode cw pres (row * 512 + bits 21 0 (wsWord d a w)) b)
    (some vs, fs ++ gs)
  else (none, fs)

/-! ## Elements -/

/-- A codebook entry (R109): its value, and 1 when it is not finite (R100, R112). -/
def cbEntry (d : Device) (a cb n : Nat) : Fl × Nat := finite fp16 (flDecode fp16 (halfAt d a cb n))

/-- An element of an operand from its container: its value, whether it is an escape, and its saturations. -/
structure Elem where
  num : Int × Nat
  esc : Bool := false
  sat : Nat := 0
  deriving DecidableEq, Repr

/-- An element that floats, or a stored mantissa, or an index (R99, R100, R105, R112 to R114). -/
def realElem (d : Device) (a kind pm cb : Nat) (esc : Bool) (w : Nat) : Elem :=
  match kind with
  | 1 => let (m, s) := bfpElem pm w; { num := (m, 1), sat := s }
  | 7 | 8 =>
    if esc && decide (w = 2 ^ kindWidth kind pm - 1) then { num := (0, 1), esc := true }
    else let (v, s) := cbEntry d a cb w; { num := flNum v, sat := s }
  | _ => let (v, s) := finite (kindFmt kind) (flDecode (kindFmt kind) w); { num := flNum v, sat := s }

/-- A stored exponent byte (R105): 0xFF is read as 0xFE and counted. -/
def expByte (w : Nat) : Nat × Nat := if w = 255 then (254, 1) else (w, 0)

/-- A storage block of elements as (exponent, mantissas, saturations); BFP takes its stored exponent (R104, R105). -/
def blockOf (ev : Bool) (kind pm : Nat) (stored : Nat) (es : List Elem) : Nat × List Int × Nat :=
  let s := (es.map (·.sat)).sum
  if kind = 1 then
    let (e, k) := expByte stored
    (e, es.map (·.num.1), s + k)
  else
    let (e, ms, k) := formBlock ev pm (es.map (·.num))
    (e, ms, s + k)

/-! ## Activation slices (R69 to R71, R102 to R107, R113) -/

/-- A slice of one position: its logical lines, none where gated; the exponent of its unit; saturations; faults. -/
structure Slice where
  lines : List (Option Int) := []
  x : Int := 0
  sat : Nat := 0
  bad : Faults := []
  deriving DecidableEq, Repr

/-- The containers of storage block b of a position, none when it is absent under the block map. -/
def actBlock (d : Device) (c : Cmd) (a : Nat) (pp : Int) (b : Nat) : Option (List Nat) × Faults :=
  if mASp c = 0 then
    let n := min 32 (pK c - 32 * b)
    let at' (k : Nat) : Nat := (aBit c pp (32 * b + k)).toNat
    (some ((List.range n).map fun k => rowBits d a (at' k) (mCa c)),
      (List.range n).flatMap fun k => if k = 0 ∨ k + 1 = n then rowsParity d a (at' k) (mCa c) else [])
  else
    let (r, fs) := mapBlock d a (mASp c) (mCa c) (mARow c) (mAbm c) pp (pNB c) b
    (r.map (·.take (min 32 (pK c - 32 * b))), fs)

/-- The lines of a block filled up beyond the slice: 0 within a group of M lines that begins inside it, gated otherwise (R71). -/
def fillLines (m : Nat) (vs : List Int) : List (Option Int) :=
  (List.range 32).map fun k => if k < vs.length then some (vs.getD k 0) else if k / m * m < vs.length then some 0 else none

/-- The symmetric range of a stochastic operand (R231). -/
def symmetric (p : Nat) (z : Int) : Int × Nat := if z = loOf p true then (z + 1, 1) else (z, 0)

/-- An integer activation (R70, R231). -/
def actInt (c : Cmd) (w : Nat) : Int × Nat :=
  let (z, s) := intElem (mPa c) (mAS c) w
  if isStoch c then let (y, t) := symmetric (mPa c) z; (y, s + t) else (z, s)

/-- The slice of a pass for a position; `j` numbers its exponent bytes (R131), `pp` is its offset. -/
def slice (d : Device) (c : Cmd) (a j : Nat) (pp : Int) (p : Pass) : Slice :=
  let raws := p.blocks.map fun b => (b, actBlock d c a pp b)
  let bad := raws.flatMap fun r => r.2.2
  if aReal c then
    let cbBad := if 7 ≤ mAK c then wordsParity d a (mAcb c) (cbWords (mAK c)) else []
    let exBad := if mAK c = 1 then
        raws.flatMap fun r => if r.2.1.isSome then wordsParity d a (mAst c + (j * pNB c + r.1) / 4) 1 else [] else []
    let bs := raws.map fun r => r.2.1.map fun ws =>
      blockOf (evOf c) (mAK c) (mPa c) (byteOf d a (mAst c) (j * pNB c + r.1))
        (ws.map (realElem d a (mAK c) (mPa c) (mAcb c) false))
    let ep := (bs.filterMap fun b => b.map (·.1)).foldl max 0
    { lines := bs.flatMap fun b => match b with
        | some (e, ms, _) => fillLines (mM c) (ms.map (align (evOf c) ep e))
        | none => List.replicate 32 none
      x := unitExp ep (mPa c)
      sat := ((bs.filterMap fun b => b.map fun x => x.2.2)).sum
      bad := bad ++ cbBad ++ exBad }
  else
    let vs := raws.map fun r => r.2.1.map fun ws => ws.map (actInt c)
    { lines := vs.flatMap fun v => match v with
        | some l => fillLines (mM c) (l.map (·.1))
        | none => List.replicate 32 none
      sat := ((vs.filterMap id).map fun l => (l.map (·.2)).sum).sum
      bad := bad }

/-! ## Weight images (R74, R75, R98, R102 to R107, R110 to R121, R127, R128, R207 to R215, R607) -/

/-- The rescale entry of a channel (R125). -/
def entryWord (d : Device) (c : Cmd) (a ch k : Nat) : Nat := wsWord d a (mRt c + 8 * ch + k)

/-- WZP of a channel clamped to its range, and 1 when it was clamped (R127, R128). -/
def wzpOf (d : Device) (c : Cmd) (a ch : Nat) : Int × Nat :=
  if mZp c then
    let w := bits 15 0 (entryWord d c a ch 5)
    let z : Int := if mWS c then signed 16 w else (w : Int)
    let q := clip (loOf (mPw c) (mWS c)) (hiOf (mPw c) (mWS c)) z
    (q, b2n (decide (q ≠ z)))
  else (0, 0)

/-- The codebook of a channel (R110). -/
def wCodebook (c : Cmd) (ch : Nat) : Nat := mWcb c + ch / mCbG c * cbWords (mWK c)

/-- A weight element of a channel from its container. -/
def wElem (d : Device) (c : Cmd) (a ch : Nat) (zp : Int) (w : Nat) : Elem :=
  if wReal c then realElem d a (mWK c) (mPw c) (wCodebook c ch) (mEsc c) w
  else
    let (z, s) := intElem (mPw c) (mWS c) w
    if isStoch c then let (y, t) := symmetric (mPw c) z; { num := (y, 1), sat := s + t }
    else { num := (z - zp, 1), sat := s }

/-- Thirty-two rows of a channel before their exponents: the number of their exponent byte, and their elements with index,
none where gated. -/
abbrev Chunk := Nat × List (Option (Elem × Nat))

/-- Rows from a dense or block-mapped operand: one chunk for each storage block of the pass. -/
def denseChunk (d : Device) (c : Cmd) (a ch cc : Nat) (pp : Int) (t : Nat) (zp : Int) (p : Pass) (b : Nat) : Chunk × Faults :=
  let n := min 32 (pK c - 32 * b)
  let pad (l : List (Option (Elem × Nat))) : List (Option (Elem × Nat)) := l ++ List.replicate (32 - l.length) none
  let mk (ws : List Nat) : List (Option (Elem × Nat)) := pad (ws.map fun w => some (wElem d c a ch zp w, 0))
  if mWSp c = 0 then
    let (img, r0, rw) := match p.sub with
      | none => (b / 16, b % 16 * 32, 512)
      | some _ => (p.i, 32 * b - p.i * mKp c, mKp c)
    let at' (k : Nat) : Nat := ((wRow c pp t img) * 4096).toNat + (cc * rw + r0 + k) * mCw c
    ((b, mk ((List.range n).map fun k => rowBits d a (at' k) (mCw c))), rowsParity d a (at' 0) (n * mCw c))
  else
    let (r, fs) := mapBlock d a (mWSp c) (mCw c) (mWRow c) (mWbm c) (pp + ch) (pNB c) b
    match r with
    | some ws => ((b, mk (ws.take n)), fs)
    | none => ((b, List.replicate 32 none), fs)

/-- An element that the compression of a dense-source image takes (R212). -/
def taken (e : Elem) : Bool := e.esc || decide (e.num.1 ≠ 0)

/-- One group of a dense-source image: N slots, whether it holds more than N non-zero weights, and the saturations of the weights
that no slot takes (R98, R100, R212, R213). -/
def compress (n : Nat) (es : List Elem) : List (Elem × Nat) × Bool × Nat :=
  let nz := (es.zipIdx).filter fun x => taken x.1
  ((nz.take n) ++ List.replicate (n - min n nz.length) ({ num := (0, 1) }, 0), decide (n < nz.length),
    ((es.filter fun e => !taken e).map (·.sat)).sum + ((nz.drop n).map (·.1.sat)).sum)

/-- The physical rows of a channel of an N:M image (R209 to R213), the saturations of weights that it drops, and its faults. -/
def nmRows (d : Device) (c : Cmd) (a ch cc cn : Nat) (pp : Int) (t : Nat) (zp : Int) (p : Pass) :
    List (Option (Elem × Nat)) × Nat × Faults :=
  let base := ((wRow c pp t p.i) * 4096).toNat
  let m := mM c
  let n := mN c
  let left := pK c - p.i * mKp c
  let groups := min (512 / n) (ceilDiv left m)
  let gated := List.replicate (512 - groups * n) none
  if mNmSrc c then
    let rw := mKp c
    let gs := (List.range groups).map fun g => compress n ((List.range (min m (left - g * m))).map fun k =>
      wElem d c a ch zp (rowBits d a (base + (cc * rw + g * m + k) * mCw c) (mCw c)))
    (gs.flatMap (fun g => g.1.map some) ++ gated, (gs.map (·.2.2)).sum, faultIf (gs.any (·.2.1)) 4)
  else
    let vals (r : Nat) : Nat := base + (cc * 512 + r) * mCw c
    let idx (r : Nat) : Nat := base + cn * 512 * mCw c + (cc * 512 + r) * mX c
    ((List.range (groups * n)).map (fun r => some (wElem d c a ch zp (rowBits d a (vals r) (mCw c)), rowBits d a (idx r) (mX c))) ++
      gated, 0, [])

/-- A list cut into chunks of 32 rows, numbered from b. -/
def cut32 : Nat → Nat → List (Option (Elem × Nat)) → List Chunk
  | 0, _, _ => []
  | k + 1, b, l => (b, l.take 32) :: cut32 k (b + 1) (l.drop 32)

/-- A channel of an image as it will stand in the latches: rows, exponent of the unit, escaped rows, saturations, faults. -/
structure ChanImg where
  rows : List (Option (Int × Nat)) := []
  x : Int := 0
  escs : List Nat := []
  sat : Nat := 0
  bad : Faults := []
  deriving DecidableEq, Repr

/-- A channel of a pass's image (R112, R114). -/
def chanImg (d : Device) (c : Cmd) (a ch cc cn : Nat) (pp : Int) (t : Nat) (p : Pass) : ChanImg :=
  let (zp, zs) := wzpOf d c a ch
  let (chunks, lost, bad) : List Chunk × Nat × Faults :=
    if mNM c && p.sub.isNone then
      let (rs, n, fs) := nmRows d c a ch cc cn pp t zp p
      (cut32 16 (16 * p.i) rs, n, fs)
    else
      let xs := p.blocks.map (denseChunk d c a ch cc pp t zp p)
      (xs.map (·.1), 0, xs.flatMap (·.2))
  let live (k : Chunk) : Bool := k.2.any (·.isSome)
  let es (k : Chunk) : List Elem := k.2.map fun r => match r with | some x => x.1 | none => { num := (0, 1) }
  let escs := (chunks.flatMap (·.2)).zipIdx.filterMap fun x => match x.1 with
    | some y => if y.1.esc then some x.2 else none
    | none => none
  if wReal c then
    let cbBad := if 7 ≤ mWK c then wordsParity d a (wCodebook c ch) (cbWords (mWK c)) else []
    let exBad := if mWK c = 1 then
        chunks.flatMap fun k => if live k then wordsParity d a (mWst c + (ch * wBlocks c + k.1) / 4) 1 else [] else []
    let bs := chunks.map fun k => (k, blockOf (evOf c) (mWK c) (mPw c) (byteOf d a (mWst c) (ch * wBlocks c + k.1)) (es k))
    let ep := (bs.filter fun b => live b.1).foldl (fun m b => max m b.2.1) 0
    { rows := bs.flatMap fun b => (b.1.2.zip b.2.2.1).map fun x => x.1.map fun y => (align (evOf c) ep b.2.1 x.2, y.2)
      x := unitExp ep (mPw c), escs := escs
      sat := lost + ((bs.filter fun b => live b.1).map fun b => b.2.2.2).sum
      bad := bad ++ cbBad ++ exBad }
  else
    { rows := chunks.flatMap fun k => k.2.map fun r => r.map fun y => (y.1.num.1, y.2)
      escs := escs, sat := zs + lost + ((chunks.flatMap (·.2)).map fun r => match r with | some y => y.1.sat | none => 0).sum
      bad := bad ++ (if mZp c then wordsParity d a (mRt c + 8 * ch + 5) 1 else []) }

/-- The entries of a side list as (ROW, CHANNEL, VALUE) (R115). -/
def sideList (d : Device) (c : Cmd) (a i : Nat) : Nat × List (Nat × Nat × Nat) :=
  let w := mSl c + 514 * i
  let n := bits 8 0 (wsWord d a w)
  (n, (List.range (min n 256)).map fun k =>
    let e := wsWord d a (w + 2 + 2 * k)
    (bits 8 0 e, bits 17 9 e, wsWord d a (w + 3 + 2 * k)))

/-- Reserved fields of a side list (R115). -/
def sideReserved (d : Device) (c : Cmd) (a i : Nat) : Bool :=
  let w := mSl c + 514 * i
  let n := bits 8 0 (wsWord d a w)
  decide (bits 31 9 (wsWord d a w) ≠ 0) || decide (wsWord d a (w + 1) ≠ 0) ||
  (List.range (min n 256)).any fun k => decide (bits 31 18 (wsWord d a (w + 2 + 2 * k)) ≠ 0)

/-- The checks of an image's escapes, given as (row, channel) in channel order (R116 to R118). In a dense recomputation, which
numbers logical rows, ROW is not compared (`rows` false; log 29). -/
def sideFaults (d : Device) (c : Cmd) (a i : Nat) (rows : Bool) (escs : List (Nat × Nat)) : Faults :=
  let (n, es) := sideList d c a i
  wordsParity d a (mSl c + 514 * i) (2 + 2 * min n 256) ++
  faultIf (decide (256 < escs.length) || decide (256 < n) || decide (n ≠ escs.length)) 5 ++
  faultIf ((es.zip escs).any fun x => (rows && decide (x.1.1 ≠ x.2.1)) || decide (x.1.2.1 ≠ x.2.2)) 6 ++
  faultIf (sideReserved d c a i) 7

/-- All escapes of a dense-source image, by channel and logical row (log 29). -/
def denseEscs (d : Device) (c : Cmd) (a : Nat) (ch : Nat × Nat) (pp : Int) (t : Nat) (p : Pass) : List (Nat × Nat) :=
  let base := ((wRow c pp t p.i) * 4096).toNat
  (List.range ch.2).flatMap fun cc => (List.range (min (mKp c) (pK c - p.i * mKp c))).filterMap fun l =>
    if (wElem d c a (ch.1 + cc) 0 (rowBits d a (base + (cc * mKp c + l) * mCw c) (mCw c))).esc then some (l, cc) else none

/-- The failing unit that the load of a whole image meets: all its rows are read, those beyond a short slice among them (R74, R75,
R89). Compacted and dense-recomputation passes take parts of an image (denseChunk). -/
def imageParity (d : Device) (c : Cmd) (a n : Nat) (pp : Int) (t : Nat) (p : Pass) : Faults :=
  if mWSp c = 0 ∧ p.sub.isNone ∧ p.blocks = (planPass c p.i).blocks then
    rowsParity d a (wRow c pp t p.i * 4096).toNat (8 * imageBytes c n)
  else []

/-- The latches that a pass's load fills, the saturations it counts and the faults it finds (R74, R117). -/
def loadPass (d : Device) (c : Cmd) (a : Nat) (ch : Nat × Nat) (pp : Int) (t : Nat) (p : Pass) : Latches × Nat × Faults :=
  let imgs := (List.range ch.2).map fun cc => chanImg d c a (ch.1 + cc) cc ch.2 pp t p
  let bad := imageParity d c a ch.2 pp t p ++ imgs.flatMap (·.bad)
  let sat := (imgs.map (·.sat)).sum
  let latch : Latches := { rows := imgs.map (·.rows), exps := imgs.map (·.x) }
  if mEsc c then
    match p.sub with
    | none =>
      let escs := imgs.zipIdx.flatMap fun x => x.1.escs.map fun r => (r, x.2)
      ({ latch with side := (sideList d c a p.i).2 }, sat, bad ++ sideFaults d c a p.i true escs)
    | some s =>
      let escs := denseEscs d c a ch pp t p
      ({ latch with side := (escs.zip (sideList d c a p.i).2).filterMap fun e =>
          if 512 * s ≤ e.1.1 ∧ e.1.1 < 512 * (s + 1) then some (e.1.1 - 512 * s, e.1.2, e.2.2.2) else none },
        sat, bad ++ sideFaults d c a p.i false escs)
  else (latch, sat, bad)

/-- The latches that a load leaves: a row that fails its parity check reaches no cell (R89). -/
def latched (l : Latches) (fs : Faults) : Latches := if fs.any fun f => decide (f.1 = 1) then {} else l

end Sys2Proof.Machine
end

