-- ==== Sys2Proof/Machine/Transfer.lean ====
section
/-! DEFINITION. NOP, WAIT_TALLY (R271, R272, R322, R612) and COPY (R263 to R269, R292, R323 to R326, R335, R336, R396, R398, R414, R429 to
R432, R438 to R442). -/

namespace Sys2Proof.Machine

/-! ## NOP and WAIT_TALLY -/

/-- Words 9 to 15 of both (R322). -/
def tailSet (c : Cmd) : Bool := wordsSet c 9 15

/-- PERMISSION and the refusal of a retired array, the last checks of R301. -/
def lateCheck (d : Device) (c : Cmd) (perm : Bool) : Option Done :=
  if headPerm d c || perm then some (refusedWith stPermission)
  else if retiredTarget d c then some (refusedWith stRemote)
  else none

/-- The checks of a NOP. -/
def nopCheck (d : Device) (c : Cmd) : Option Done :=
  if headBad c || decide (cf c 6 31 2 ≠ 0) || wordsSet c 7 8 || tailSet c then some (refusedWith stMalformed) else lateCheck d c false

/-- NOP (R322). -/
def nop (id : Nat) (x : Circ) (d : Device) : Device :=
  match runningAs d id (· = 0x00) with
  | none => d
  | some c =>
    match nopCheck d c, c.stop with
    | some y, _ => endCmd c y d
    | none, some y => endCmd c y d
    | none, none => endCmd c (deadline c 0 x.took {}) d

def wArray (c : Cmd) : Nat := cf c 6 9 2
def wTally (c : Cmd) : Nat := cf c 6 15 10
def wTarget (c : Cmd) : Nat := wordAt c.words 7
def wTimeout (c : Cmd) : Nat := cf c 8 23 0

/-- The checks of a WAIT_TALLY (R271, R272, R322, R336). -/
def waitCheck (d : Device) (c : Cmd) : Option Done :=
  if headBad c || decide (192 ≤ wArray c) || decide (cf c 6 31 16 ≠ 0) || decide (cf c 8 31 24 ≠ 0) || tailSet c ||
      (fixedTime c && (decide (wTimeout c = 0) || decide (2147483648 * c.div < wTimeout c * 6400))) then
    some (refusedWith stMalformed)
  else lateCheck d c (!inMask d c.part (wArray c))

/-- The word of a WAIT_TALLY's tally. -/
def wWord (d : Device) (c : Cmd) : Nat := wsWord d (wArray c) (65472 + wTally c)

/-- How the condition check of a WAIT_TALLY ends it: a failing tally word, or the condition met (R271, R612). -/
def waitLook (c : Cmd) (d : Device) : Option (Done × Device) :=
  match readFail d (wordAddr (wArray c) (4 * (65472 + wTally c))) 4 with
  | some (st, d) => some ({ status := st }, d)
  | none => if serialGe (wWord d c) (wTarget c) then some ({}, d) else none

/-- WAIT_TALLY: the condition is looked at; unmet, the wait goes on. -/
def waitTally (id : Nat) (x : Circ) (d : Device) : Device :=
  match runningAs d id (· = 0x01) with
  | none => d
  | some c =>
    let d := applyCirc c.part x d
    match waitCheck d c, c.stop with
    | some y, _ => endCmd c y d
    | none, some y => endCmd c y d
    | none, none =>
      if heldArray d (wArray c) then d
      else match waitLook c d with
        | some (y, d) => endCmd c y d
        | none => d

/-- A WAIT_TALLY's TIMEOUT elapses; a condition met prevails (R271). -/
def waitTallyTimeout (id : Nat) (d : Device) : Device :=
  match runningAs d id (· = 0x01) with
  | none => d
  | some c =>
    if wTimeout c = 0 then d
    else match waitCheck d c, c.stop with
      | some y, _ => endCmd c y d
      | none, some y => endCmd c y d
      | none, none =>
        match waitLook c d with
        | some (y, d) => endCmd c y d
        | none => endCmd c (if fixedTime c then { status := stDeadline, detail := 1 } else { status := stRemote }) d

/-! ## Fields of COPY (R323) -/

def tSrc (c : Cmd) : Nat := cf c 6 31 0 + 2 ^ 32 * cf c 7 31 0
def tDst (c : Cmd) : Nat := cf c 8 31 0 + 2 ^ 32 * cf c 9 31 0
def tRun (c : Cmd) : Nat := cf c 10 23 0
def tCount (c : Cmd) : Nat := cf c 11 23 0
def tSide (c : Cmd) : Nat := cf c 11 25 24
def tSS (c : Cmd) : Int := signed 32 (wordAt c.words 12)
def tDS (c : Cmd) : Int := signed 32 (wordAt c.words 13)
def tTally (c : Cmd) : Option Nat := if cf c 14 6 6 = 1 then some (cf c 14 5 0) else none
def tClass (c : Cmd) : Nat := cf c 14 9 7
def tList (c : Cmd) : Nat := cf c 14 31 16
def tLimit (c : Cmd) : Nat := cf c 15 23 0

/-- Device that a side addresses; none for this one (R396). -/
def sideDev (d : Device) (a : Nat) : Option Nat := if addrLocal d a then none else some (bits 62 51 a)
def tSrcDev (d : Device) (c : Cmd) : Option Nat := sideDev d (tSrc c)
def tDstDev (d : Device) (c : Cmd) : Option Nat := sideDev d (tDst c)

/-- The command with LIST as read before any byte moves (R324, R325). -/
def withList (d : Device) (c : Cmd) : Cmd :=
  if tSide c = 0 then c
  else { c with list := (List.range (tCount c)).map fun r => wsWord d (motifArrays (targetOf c)).1 ((tList c + r) % 65536) }

/-- LIST[r]. -/
def tCoord (c : Cmd) (r : Nat) : Nat := c.list.getD r 0

/-- Where run r begins on either side, as a local address that may lie outside 0 to 2^48 - 1 (R324). -/
def srcAt (c : Cmd) (r : Nat) : Int := (locAddr (tSrc c) : Int) + (if tSide c = 1 then tCoord c r else r : Nat) * tSS c
def dstAt (c : Cmd) (r : Nat) : Int := (locAddr (tDst c) : Int) + (if tSide c = 2 then tCoord c r else r : Nat) * tDS c

/-- Bytes of an element of the NARROW format; bits of a value (R438, R439). -/
def narFmt (f : Nat) : Fmt := match f with | 0 => fp32 | 1 => fp16 | _ => bf16
def narWidth (f : Nat) : Nat := if f = 0 then 4 else 2
def narBits (c : Cmd) : Nat := if tNarrow c = 1 then 8 else 4
def narCfgFmt (c : Cmd) : Nat := c.fmt

/-! ## Checks (R263, R265, R292, R325, R336, R396, R398, R438) -/

/-- An address range of a run breaks the alignment of R263 or R292. -/
def sideBad (l : Int) (n : Nat) : Bool :=
  if l < 0 then false
  else if isHbm l.toNat then decide (l.toNat % 32 ≠ 0) || decide (n % 32 ≠ 0)
  else match scratchAt l.toNat with
    | some (s, _, off) => decide (off % storeUnit s ≠ 0) || decide (n % storeUnit s ≠ 0)
    | none => false

/-- A store of a partition (R40, R42, R265). -/
def ownStore (d : Device) (p : Nat) (s : Store) (k : Nat) : Bool := if s = .band then decide (bandOwner d k = p) else inMask d p k

/-- A range is unmapped, leaves its store, or lies in a store that is not the partition's (R263, R265, R398). -/
def sidePerm (d : Device) (p : Nat) (l : Int) (n : Nat) : Bool :=
  if l < 0 ∨ 2 ^ 48 ≤ l then true
  else if isHbm l.toNat then !isHbm (l.toNat + n - 1)
  else match scratchAt l.toNat with
    | some (s, k, off) => decide (storeSize s < off + n) || !ownStore d p s k
    | none => true

/-- Runs of a COPY. -/
def tRuns (c : Cmd) : List Nat := List.range (tCount c)

/-- MIN_RATE and FT_SLOTS of a class (R413, R414). -/
def minRate (d : Device) (k : Nat) : Nat := fget d (oHbmClass k) fHbmClassMinRate
def ftSlots (d : Device) (k : Nat) : Nat := fget d (oHbmClass k) fHbmClassFtSlots + 1

/-- A side of a COPY: its budget rate in GB/s as a fraction, and its budget latency in ns (R335, R414). `eng` is the transfer
engine's die, 4 the hub; `sixth` says that the HBM side lies in one sixth of a stack-local region. -/
structure Side where
  num : Nat
  den : Nat
  lat : Nat
  deriving DecidableEq, Repr

/-- Dies that adjoin (R264). -/
def adjoin (a b : Nat) : Bool := decide (a = 4) || decide (b = 4) || decide (a + b ≠ 3)

/-- The transfer engine's die: the target's, or the hub die (R307). -/
def engDie (c : Cmd) : Nat := if levelOf c = 4 then 4 else dieOf (motifArrays (targetOf c)).1

/-- The die of a local address: its store's, or the hub die. -/
def dieAt (l : Nat) : Nat :=
  match scratchAt l with
  | some (.band, b, _) => b / 3
  | some (_, a, _) => dieOf a
  | none => 4

/-- The sixth of a stack-local region that an address lies in, as (base, sixth); none outside every region (R403). -/
def sixthOf (d : Device) (l : Nat) : Option (Nat × Nat) :=
  ((regions d).find? fun r => decide (r.1 * gib ≤ l) && decide (l < (r.1 + 6 * r.2) * gib)).map fun r => (r.1, (l - r.1 * gib) / (r.2 * gib))

/-- A side's rate and latency for a run at a local address. -/
def sideOf (d : Device) (c : Cmd) (sixth : Bool) (l : Int) : Side :=
  if isHbm l.toNat then ⟨minRate d (tClass c), ftSlots d (tClass c) * (if sixth then 6 else 1), 600⟩
  else
    let e := engDie c
    let k := dieAt l.toNat
    if k = e then ⟨64, 1, 60⟩ else if adjoin e k then ⟨32, 1, 120⟩ else ⟨32, 1, 180⟩

/-- The HBM addresses of a side, first and last bytes of its runs. -/
def hbmEnds (c : Cmd) (f : Nat → Int) : List Nat :=
  (tRuns c).flatMap fun r => if isHbm (f r).toNat then [(f r).toNat, (f r).toNat + tRun c - 1] else []

/-- Whether an HBM side lies wholly within one sixth (R414). -/
def inSixth (d : Device) (c : Cmd) (f : Nat → Int) : Bool :=
  match hbmEnds c f with
  | [] => false
  | l :: r => (sixthOf d l).isSome && r.all fun k => decide (sixthOf d k = sixthOf d l)

/-- Cycles of n bytes at a side's rate: ceil(n × 1.6 GHz / rate). -/
def sideCycles (n : Nat) (s : Side) : Nat := ceilDiv (n * 16 * s.den) (10 * s.num)

/-- Wire bytes of a block (R439). -/
def wireBlock (c : Cmd) : Nat := if tNarrow c = 1 then 34 else 18

/-- The sides of every run: (source, destination), none for another device. -/
def runSides (d : Device) (c : Cmd) : List (Option Side × Option Side) :=
  let ss := inSixth d c (srcAt c)
  let ds := inSixth d c (dstAt c)
  (tRuns c).map fun r =>
    ((if (tSrcDev d c).isNone then some (sideOf d c ss (srcAt c r)) else none),
     (if (tDstDev d c).isNone then some (sideOf d c ds (dstAt c r)) else none))

/-- The budget of a COPY in ACLK (R335, R442). -/
def copyBudget (d : Device) (c : Cmd) : Nat :=
  let far : Side := ⟨90, 1, 400⟩
  let sides := runSides d c
  let locals := sides.flatMap fun x => x.1.toList ++ x.2.toList
  let remote := (tSrcDev d c).isSome || (tDstDev d c).isSome
  let n := tRun c * tCount c
  let bytesTerm :=
    if remote && decide (tNarrow c ≠ 0) then
      max ((locals.map (sideCycles n)).foldl max 0)
        (sideCycles (n / narWidth (narCfgFmt c) / 32 * wireBlock c) far)
    else max ((locals.map (sideCycles n)).foldl max 0) (if remote then sideCycles n far else 0)
  let lat := (sides.map fun x => (x.1.getD far).lat + (x.2.getD far).lat).foldl max 0
  bytesTerm + ceilDiv (lat * 8) 5 + 8 * tCount c

/-- An HBM side with a class whose minimum rate is 0 (R336). -/
def noRate (d : Device) (c : Cmd) : Bool :=
  decide (minRate d (tClass c) = 0) &&
  (((tSrcDev d c).isNone && decide (hbmEnds c (srcAt c) ≠ [])) || ((tDstDev d c).isNone && decide (hbmEnds c (dstAt c) ≠ [])))

/-- Step 1 of R325. -/
def copyBad (d : Device) (c : Cmd) : Bool :=
  headBad c || decide (cf c 10 31 24 ≠ 0) || decide (cf c 11 31 26 ≠ 0) || decide (cf c 14 15 12 ≠ 0) || decide (cf c 15 31 24 ≠ 0) ||
  decide (tRun c = 0) || decide (tCount c = 0) || decide (tSide c = 3) || decide (tNarrow c = 3) ||
  (decide (tSide c ≠ 0) && decide (4096 < tCount c)) || (decide (tSide c = 0) && (decide (tList c ≠ 0) || decide (tLimit c ≠ 0))) ||
  !addrForm (tSrc c) || !addrForm (tDst c) ||
  (decide (tNarrow c ≠ 0) &&
    (let u := 32 * narWidth (narCfgFmt c)
     decide (tRun c % u ≠ 0) || decide (cf c 12 31 0 % u ≠ 0) || decide (cf c 13 31 0 % u ≠ 0))) ||
  (fixedTime c && (noRate d c || decide (2147483648 < copyBudget d c)))

/-- The scale channel of NARROW_CFG may not be used (R438). -/
def narRefused (c : Cmd) : Bool := decide (tNarrow c ≠ 0) && c.scNo

/-- The checks of a COPY whose list has been read, in the order of R325 (log 37); the device with a failing list word counted. -/
def copyCheck (d : Device) (c : Cmd) : Option (Done × Device) :=
  let no (st : Nat) : Option (Done × Device) := some (refusedWith st, d)
  if copyBad d c then no stMalformed
  else if headPerm d c || narRefused c || (decide (tSide c ≠ 0) && decide (65536 < tList c + tCount c)) then no stPermission
  else
    match (if tSide c = 0 then [] else wordsParity d (motifArrays (targetOf c)).1 (tList c) (tCount c)) with
    | f :: _ => some (refusedWith stParity, countParity f.2 d)
    | [] =>
      if tSide c ≠ 0 ∧ (tRuns c).any (fun r => decide (tLimit c ≤ tCoord c r)) then no stIndex
      else
        let bad (f : Nat → Int) : Bool := (tRuns c).any fun r => sideBad (f r) (tRun c)
        let perm (f : Nat → Int) : Bool := (tRuns c).any fun r => sidePerm d c.part (f r) (tRun c)
        let src := (tSrcDev d c).isNone
        let dst := (tDstDev d c).isNone
        if (src && bad (srcAt c)) || (dst && bad (dstAt c)) then no stMalformed
        else if (src && perm (srcAt c)) || (dst && perm (dstAt c)) then no stPermission
        else if retiredTarget d c then no stRemote
        else none

/-- A store that the COPY reads or writes on this device is held (R254, R453). -/
def copyHeld (d : Device) (c : Cmd) : Bool :=
  let held (f : Nat → Int) : Bool := (tRuns c).any fun r => decide (0 ≤ f r) && heldRange d (f r).toNat (tRun c)
  (decide (tSide c ≠ 0) && heldArray d (motifArrays (targetOf c)).1) ||
  ((tSrcDev d c).isNone && held (srcAt c)) || ((tDstDev d c).isNone && held (dstAt c))

/-! ## NARROW blocks (R439 to R441) -/

/-- A block encoded: s_b as FP16 bits, the values, the elements clipped, fp16(a_b). -/
def encodeBlock (ev : Bool) (p m : Nat) (xs : List Fl) : (Nat × List Int) × Nat × Nat :=
  let q : Nat := 2 ^ (p - 1) - 1
  let a := xs.foldl (fun a x => flMax a (flAbs x)) flZero
  let mn := flMin a (flDecode fp16 m)
  let w := (flSat fp16 ev (flDiv mn (.fin false q 1))).1
  let sb := if isZeroMag mn then 0 else if w = 0 then 1 else w
  let ms := xs.map fun x =>
    if sb = 0 then ((0 : Int), b2n !(isZeroMag x))
    else
      let z := flNum (flDiv x (flDecode fp16 sb))
      let y := roundQ ev z.1 z.2
      (clip (-(q : Int)) q y, b2n (decide (clip (-(q : Int)) q y ≠ y)))
  ((sb, ms.map (·.1)), (ms.map (·.2)).sum, (flSat fp16 ev a).1)
where
  /-- A value of 0. -/
  isZeroMag (x : Fl) : Bool := decide ((flNum x).1 = 0)

/-- Pieces of 32 of a list. -/
def chunks32 {α : Type} : Nat → List α → List (List α)
  | 0, _ => []
  | n + 1, l => if l.isEmpty then [] else l.take 32 :: chunks32 n (l.drop 32)

/-- The elements that bytes of a format hold, under R100. -/
def narElems (f : Nat) (bs : List Byte) : List Fl :=
  let w := narWidth f
  (List.range (bs.length / w)).map fun k => (finite (narFmt f) (flDecode (narFmt f) (leNat ((bs.drop (k * w)).take w)))).1

/-- Bytes of a block on the wire with values of p bits (R439). -/
def blockBytes (p : Nat) : Nat := 2 + 4 * p

/-- A block packed: s_b, then the 32 values, the one with the lower index in the less significant bits (R97, R439). -/
def packBlock (p : Nat) (b : Nat × List Int) : List Byte :=
  leBytes 2 b.1 ++ leBytes (4 * p) ((b.2.map (unsigned p)).foldr (fun v w => v + 2 ^ p * w) 0)

/-- A packed block's s_b and values. -/
def unpackBlock (p : Nat) (bs : List Byte) : Nat × List Int :=
  let w := leNat (bs.drop 2)
  (leNat (bs.take 2), (List.range 32).map fun k => signed p (w / 2 ^ (p * k)))

/-- A run's bytes encoded and packed, the elements clipped, the largest fp16(a_b). -/
def encodeRun (ev : Bool) (f p m : Nat) (bs : List Byte) : List Byte × Nat × Nat :=
  let xs := (chunks32 (bs.length / 64 + 1) (narElems f bs)).map (encodeBlock ev p m)
  ((xs.map (·.1)).flatMap (packBlock p), (xs.map (·.2.1)).sum, (xs.map (·.2.2)).foldl max 0)

/-- Whole blocks in a number of packed bytes. -/
def blocksIn (p n : Nat) : Nat := n / blockBytes p

/-- The bytes that packed blocks restore (R440). -/
def decodeRun (ev : Bool) (f p : Nat) (bs : List Byte) : List Byte :=
  (List.range (blocksIn p bs.length)).flatMap fun k =>
    let b := unpackBlock p ((bs.drop (k * blockBytes p)).take (blockBytes p))
    b.2.flatMap fun m => leBytes (narWidth f) (if b.1 = 0 then 0 else (flSat (narFmt f) ev (flMul (flInt m) (flDecode fp16 b.1))).1)

/-- Elements sent and clipped by a command, and the channel's maximum (R441). -/
def narCount (id n clipped amax : Nat) (d : Device) : Device :=
  match cmdOf d id with
  | none => d
  | some c =>
    let d := setCmd { c with clipped := c.clipped + clipped, written := c.written + n } d
    scMax (narChan c) amax (fsat (oScClipped (narChan c)) fScClippedClipped clipped d)

/-- A NARROW COPY whose elements have all been sent is judged against the threshold (R441). -/
def narJudge (id : Nat) (d : Device) : Device :=
  match cmdOf d id with
  | none => d
  | some c =>
    if c.scaled ∧ scOver d (narChan c) c.clipped c.written then
      let d := scSat (narChan c) d
      if c.policy = 0 then d else raise c.part 0x0009 c.link c.clipped 0 (stepOf c) d
    else d

/-! ## Moving a run -/

/-- Bytes of a read that come before the unit at which it fails, and the failure; all of them when it does not. -/
def readRun (d : Device) (l n : Nat) : List Byte × Nat × Device :=
  match firstBad d l n, readFail d l n with
  | some a, some (st, d') => (bytesAt d l (a - a % unitAt a - l), st, d')
  | _, _ => (bytesAt d l n, 0, d)

/-- Traffic of a local run on the networks of the compute dies (R521). -/
def netCount (part s t n : Nat) (d : Device) : Device :=
  let u := units64 0 n
  let d := if s < 4 then perfOne (12 + s) 0x18 (some part) u d else d
  let d := if t < 4 ∧ t ≠ s then perfOne (12 + t) 0x18 (some part) u d else d
  if s < 4 ∧ t ≠ s then perfOne (12 + s) 0x19 (some part) u d else d

/-- The array whose row or word store an address lies in (R268). -/
def arrayAt (l : Nat) : Option Nat :=
  match scratchAt l with
  | some (.band, _, _) => none
  | some (_, a, _) => some a
  | none => none

/-- The array that run r writes at its destination. -/
def runArray (c : Cmd) (r : Nat) : Option Nat := if 0 ≤ dstAt c r then arrayAt (dstAt c r).toNat else none

/-- Run r is the last that writes its array. -/
def lastOfArray (c : Cmd) (r : Nat) : Bool :=
  (runArray c r).isSome && !(tRuns c).any fun k => decide (r < k) && decide (runArray c k = runArray c r)

/-- Increments that fall due once run r is visible in a local store (R268). -/
def tallyDue (c : Cmd) (r : Nat) (d : Device) : Device :=
  match tTally c, runArray c r with
  | some t, some a => if lastOfArray c r then setArr a { arrOf d a with held := (arrOf d a).held ++ [t] } d else d
  | _, _ => d

/-- One run between two local sides: the device, and the status of a failing read (R324, R326). -/
def localRun (c : Cmd) (x : Device × Option Done) (r : Nat) : Device × Option Done :=
  match x with
  | (d, some y) => (d, some y)
  | (d, none) =>
    let s := (srcAt c r).toNat
    let t := (dstAt c r).toNat
    let (bs, st, d) := readRun d s (tRun c)
    let d := hbmWrite t bs.length (some c.part) (hbmRead s bs.length (some c.part) (netCount c.part (dieAt s) (dieAt t) bs.length d))
    let d := put t bs d
    if st = 0 then (tallyDue c r d, none) else (d, some { status := st, tilePos := r })

/-- The runs that a command makes: those below the stopping run of an abort (R326). -/
def liveRuns (c : Cmd) : List Nat := List.range (match c.stop with | some y => min y.tilePos (tCount c) | none => tCount c)

/-- A device address on another device. -/
def farAddr (dev l : Nat) : Nat := 2 ^ 63 + dev * 2 ^ 51 + l

/-- What the first packet of a remote transfer says of its range (R429). -/
def requestOf (d : Device) (c : Cmd) (f : Nat → Int) : RemReq :=
  let ls := (tRuns c).map fun r => (f r).toNat
  { src := ownDev d, part := c.part, id := c.id, lo := ls.foldl min (ls.headD 0), hi := ls.foldl max 0 + tRun c - 1 }

/-- The scale M of the channel's open step, FP16 bits. -/
def narM (d : Device) (c : Cmd) : Nat := (scOf d (narChan c)).m

/-- What carries a run's bytes, or its packed blocks, to another device: VISIBLE answers each of a run's packets that is its last, the
one that ends with a failed read among them (R312, R431). -/
def runLoad (c : Cmd) (t r st : Nat) (bs : List Byte) : Payload :=
  let fin := decide (st ≠ 0) || decide (r + 1 = (liveRuns c).length)
  let tally := if lastOfArray c r && decide (st = 0) then tTally c else none
  if tNarrow c = 0 then .write c.id t bs r true fin tally
  else .narrow c.id t (narCfgFmt c) (narBits c) c.legacy bs r true fin tally

/-- One run sent to another device from a local side (R429, R431, R439). -/
def sendRun (c : Cmd) (dev : Nat) (x : Device × Option Done) (r : Nat) : Device × Option Done :=
  match x with
  | (d, some y) => (d, some y)
  | (d, none) =>
    let s := (srcAt c r).toNat
    let t := (dstAt c r).toNat
    let (bs, st, d) := readRun d s (tRun c)
    let d := hbmRead s bs.length (some c.part) (netCount c.part (dieAt s) 4 bs.length d)
    let d := if tNarrow c = 0 then sendPacket dev c.part false (runLoad c t r st bs) d
      else
        let (bl, k, am) := encodeRun c.legacy (narCfgFmt c) (narBits c) (narM d c) bs
        sendPacket dev c.part false (runLoad c t r st bl) (narCount c.id (bs.length / narWidth (narCfgFmt c)) k am d)
    if st = 0 then (d, none) else (d, some { status := st, tilePos := r })

/-- One run asked for from another device. -/
def askRun (c : Cmd) (dev : Nat) (d : Device) (r : Nat) : Device :=
  let back := match tDstDev d c with | some k => farAddr k (dstAt c r).toNat | none => (dstAt c r).toNat
  let nar := if tNarrow c = 0 then none else some (narCfgFmt c, narBits c, narM d c, c.legacy)
  sendPacket dev c.part false (.read c.id (srcAt c r).toNat (tRun c) back r nar (decide (r + 1 = (liveRuns c).length))) d

/-! ## COPY -/

/-- How a COPY ends whose live runs have all been made. -/
def copyEnd (c : Cmd) (budget took : Nat) : Done :=
  match c.stop with
  | some y => if y.tilePos < tCount c then y else { flags := flagLate }
  | none => deadline c budget took {}

/-- A COPY both of whose sides are local. -/
def copyLocal (c : Cmd) (budget took : Nat) (d : Device) : Device :=
  match (liveRuns c).foldl (localRun c) (d, none) with
  | (d, some y) => endCmd c y d
  | (d, none) => endCmd c (copyEnd c budget took) d

/-- The runs that are under way on another device; with none, the command ends (R312, R431). -/
def copyWait (id : Nat) (rs : List Nat) (x : Done) (d : Device) : Device :=
  match cmdOf d id with
  | none => d
  | some c => if rs = [] then endCmd c x d else setCmd { c with runs := rs, done := x } d

/-- The first packet of a transfer to or from a device (R429). -/
def askFor (c : Cmd) (f : Nat → Int) (dev : Option Nat) (d : Device) : Device :=
  match dev with
  | some k => sendPacket k c.part false (.request (requestOf d c f)) d
  | none => d

/-- A COPY with a side on another device: everything is sent, and the runs are then awaited. DESIGN CHOICE: a step that a NARROW COPY
opens takes D = 2^(P - 1) - 1 for its SCALE; R144 gives D by the format of an output, which a COPY does not have (log 85). -/
def copyRemote (c : Cmd) (budget took : Nat) (d : Device) : Device :=
  let c := { c with scaled := c.scaled || decide (tNarrow c ≠ 0),
                    link := nextLink d (((tDstDev d c).or (tSrcDev d c)).getD 0) c.part false }
  let d := setCmd c (if tNarrow c = 0 then d else scUse c (narChan c) (2 ^ (narBits c - 1) - 1) d)
  let d := askFor c (srcAt c) (tSrcDev d c) (askFor c (dstAt c) (tDstDev d c) d)
  match tSrcDev d c with
  | some k => copyWait c.id (liveRuns c) (copyEnd c budget took) ((liveRuns c).foldl (askRun c k) d)
  | none =>
    match tDstDev d c with
    | none => d
    | some k =>
      match (liveRuns c).foldl (sendRun c k) (d, none) with
      | (d, some y) => copyWait c.id (List.range (y.tilePos + 1)) y d
      | (d, none) =>
        let d := if c.stop.isNone ∧ tNarrow c ≠ 0 then narJudge c.id d else d
        copyWait c.id (liveRuns c) (copyEnd c budget took) d

/-- COPY. -/
def copy (id : Nat) (x : Circ) (d : Device) : Device :=
  match runningAs d id (· = 0x40) with
  | none => d
  | some c =>
    let c := withList d c
    if c.runs ≠ [] ∨ copyHeld d c then d
    else
      let d := applyCirc c.part x d
      match copyCheck d c with
      | some (y, d) => endCmd c y d
      | none =>
        let b := copyBudget d c
        if c.stop.isNone && !stepFree d c then d
        else if (tSrcDev d c).isSome || (tDstDev d c).isSome then copyRemote c b x.took d else copyLocal c b x.took d

/-! ## Meanings -/

/-- NOP (R322). -/
def execNop (id : Nat) (c : Circ) (s : State) := run (.nop id c) (nop id c) s
/-- WAIT_TALLY (R271). -/
def execWaitTally (id : Nat) (c : Circ) (s : State) := run (.waitTally id c) (waitTally id c) s
/-- WAIT_TALLY_TIMEOUT (R271). -/
def execWaitTallyTimeout (id : Nat) (s : State) := run (.waitTallyTimeout id) (waitTallyTimeout id) s
/-- COPY (R324). -/
def execCopy (id : Nat) (c : Circ) (s : State) := run (.copy id c) (copy id c) s

end Sys2Proof.Machine
end

