-- ==== Sys2Proof/Machine/Remote.lean ====
section
/-! DEFINITION. Remote access at both ends (R429 to R432, R439 to R441), and what the members of a domain hand to one another (R48,
R172, R179, R447, R448). -/

namespace Sys2Proof.Machine

/-! ## At the target -/

/-- The whole range is mapped and belongs to the partition (R263, R265, R398, R400). -/
def rangeOwned (d : Device) (p lo hi : Nat) : Bool := decide (lo ≤ hi) && !sidePerm d p (lo : Int) (hi + 1 - lo)

/-- The source may reach the partition (R429). -/
def sourceOk (d : Device) (p src : Nat) : Bool :=
  if src / 16 = ownDev d / 16 then (bit (src % 16) (fget d (oPartCtrl p) fPartCtrlDomainMembers))
  else bit (p % 32) (rget d (oHyXdom (p / 32))).toNat

/-- The first packet of a remote transfer: the checks of R263, R265, R398 and R400 over its whole range, and of its source (R429). -/
def remoteRequest (r : RemReq) (d : Device) : Device :=
  if powered d then
    let d := wakeRun { d with clk := { d.clk with busyAt := d.clk.time } }
    if !sideBad (r.lo : Int) (r.hi + 1 - r.lo) && rangeOwned d r.part r.lo r.hi && sourceOk d r.part r.src then
      { d with rem := { d.rem with accepted := d.rem.accepted ++ [r] } }
    else sendPacket r.src r.part true (.refused r.id) d
  else d

/-- A transfer of a source has been accepted. -/
def isAccepted (d : Device) (src part id : Nat) : Bool :=
  d.rem.accepted.any fun r => decide (r.src = src) && decide (r.part = part) && decide (r.id = id)

/-- An accepted transfer is over. -/
def dropAccepted (src part id : Nat) (d : Device) : Device :=
  match d.rem.accepted.find? fun r => decide (r.src = src) && decide (r.part = part) && decide (r.id = id) with
  | some r => { d with rem := { d.rem with accepted := d.rem.accepted.erase r } }
  | none => d

/-- The end of a written packet: its tally falls due (R268), and VISIBLE or the transfer's end follows (R431). -/
def wroteRemote (p : Packet) (id addr run : Nat) (last fin : Bool) (tally : Option Nat) (d : Device) : Device :=
  let d := match tally, arrayAt addr with
    | some t, some a => setArr a { arrOf d a with held := (arrOf d a).held ++ [t] } d
    | _, _ => d
  let d := if last then sendPacket p.src p.part true (.visible id run) d else d
  if fin then dropAccepted p.src p.part id d else d

/-- Bytes from another device put into a local side. -/
def putRemote (part addr : Nat) (bs : List Byte) (d : Device) : Device :=
  put addr bs (hbmWrite addr bs.length (some part) (netCount part 4 (dieAt addr) bs.length d))

/-- The answer to a read (R428): a failing read answers with the bytes before the failing unit and the status. -/
def answerRead (p : Packet) (id addr len back run : Nat) (nar : Option (Nat × Nat × Nat × Bool)) (d : Device) : Device :=
  let (bs, st, d) := readRun d addr len
  let d := hbmRead addr bs.length (some p.part) (netCount p.part (dieAt addr) 4 bs.length d)
  match nar with
  | none => sendPacket p.src p.part true (.data id back bs run st) d
  | some (f, pb, m, ev) =>
    let (bl, k, am) := encodeRun ev f pb m bs
    sendPacket p.src p.part true (.narrowData id back f pb ev bl run am k st) d

/-! ## At the issuer -/

/-- The command that a run belongs to, while the run is pending. -/
def runOwner (d : Device) (id run : Nat) : Option Cmd :=
  match runningAs d id (· = 0x40) with
  | some c => if run ∈ c.runs then some c else none
  | none => none

/-- A COPY ends unless runs are still awaited; `judge` says that its elements have all been sent only now (R312, R441). -/
def copyLeft (id : Nat) (rs : List Nat) (x : Done) (d : Device) : Device :=
  match cmdOf d id with
  | none => d
  | some c =>
    let d := setCmd { c with runs := rs, done := x } d
    if rs = [] then
      let d := if x.status = stOk ∧ (tSrcDev d c).isSome ∧ tNarrow c ≠ 0 then narJudge id d else d
      match cmdOf d id with
      | some c => endCmd c x d
      | none => d
    else d

/-- A pending run is complete; with the last one, the command ends (R312, R431). -/
def runDone (id run : Nat) (d : Device) : Device :=
  match runOwner d id run with
  | none => d
  | some c => copyLeft id (c.runs.erase run) c.done d

/-- Data of a run arrives at the issuer: it goes to its destination, on this device, or as packets of its own on another. A read
that failed at its source ends the command; runs after it are not made, and those passed on before are awaited (R312, R326). -/
def runData (c : Cmd) (back run st : Nat) (bs raw : List Byte) (d : Device) : Device :=
  let failed : Done := { status := st, tilePos := run }
  if addrLocal d back then
    let d := putRemote c.part (locAddr back) bs d
    if st = 0 then runDone c.id run (tallyDue c run d) else endCmd { c with runs := [] } failed d
  else
    let d := sendPacket (bits 62 51 back) c.part false (runLoad c (locAddr back) run st raw) (setCmd { c with passed := run + 1 } d)
    if st = 0 then d else copyLeft c.id (c.runs.filter fun r => decide (r ≤ run)) failed d

/-! ## What members hand to one another (R48, R172, R179, R447, R448) -/

/-- The bytes that a device has handed over for a command or collective. -/
def inboxOf (d : Device) (src part seq id : Nat) : List Byte :=
  match d.coll.inbox.find? fun y => decide (y.src = src) && decide (y.part = part) && decide (y.seq = seq) && decide (y.id = id) with
  | some y => y.data
  | none => []

/-- Bytes handed over by a device, after those that it has handed over before. -/
def inboxAdd (src part seq id : Nat) (bs : List Byte) (d : Device) : Device :=
  let same (y : Parcel) : Bool := decide (y.src = src) && decide (y.part = part) && decide (y.seq = seq) && decide (y.id = id)
  let y : Parcel := { src := src, part := part, seq := seq, id := id, data := inboxOf d src part seq id ++ bs }
  { d with coll := { d.coll with inbox := d.coll.inbox.filter (fun y => !same y) ++ [y] } }

/-- What was handed over for a command or collective that has ended. -/
def inboxDrop (part seq id : Nat) (d : Device) : Device :=
  { d with coll := { d.coll with
      inbox := d.coll.inbox.filter fun y => !(decide (y.part = part) && decide (y.seq = seq) && decide (y.id = id)) } }

/-- How members name a domain command: by its sequencing device, plus 1, and that device's number of it (log 60). -/
def sharedName (d : Device) (c : Cmd) : Nat × Nat :=
  match c.member with
  | some (s, id) => (s + 1, id)
  | none => (ownDev d + 1, c.id)

/-- A member's part of another device's command enters its queue: it starts without a wait or a fence, which the sequencing device
has met (R48, R309, R311; log 60). A device that is no member of the partition's domain motif hands over none. -/
def shareTake (p : Packet) (id : Nat) (legacy : Bool) (ws table : List Word) (d : Device) : Device :=
  if partEn d p.part && sourceOk d p.part p.src then
    let c : Cmd := { id := d.nextId, part := p.part, sq := 0, slot := 0, legacy := legacy, words := ws, prick := table, member := some (p.src, id) }
    { d with cmds := d.cmds ++ [c], nextId := d.nextId + 1 }
  else sendPacket p.src p.part true (.shareDone id stPermission 0 0 0 0) d

/-- The part of a command that a device sequences. -/
def partFor (d : Device) (src id : Nat) : Option Cmd := d.cmds.find? fun c => decide (c.member = some (src, id))

/-- A member's part is stopped (R37, R338): before its start it does nothing. -/
def shareStopped (p : Packet) (id : Nat) (d : Device) : Device :=
  match partFor d p.src id with
  | none => d
  | some c =>
    let x : Done := { status := stAborted }
    match c.phase with
    | .queued => setCmd { c with phase := .ended, done := x } d
    | .running => if c.stop.isNone then setCmd { c with stop := some x } d else d
    | .ended => d

/-! ### The end of a domain command -/

/-- How a domain command ends whose parts have all ended: the first that did not end with OK decides the status. An abort or a lost
member leaves the first tile in chain order that is not written, and the lowest slot among the lost members is named (R30, R37, R49,
R338, R340). -/
def domainDone (c : Cmd) : Done :=
  let bad := c.ends.filter fun e => decide (e.2.status ≠ stOk)
  match bad with
  | [] => { flags := c.ends.foldl (fun f e => f ||| e.2.flags) 0 }
  | e :: _ =>
    let x := if e.2.status = stRemote then
        { e.2 with detail := ((bad.filter fun y => decide (y.2.status = stRemote)).map (·.2.detail)).foldl min e.2.detail }
      else e.2
    match c.shared.findSome? fun s => bad.find? fun y => decide (y.1 = s) && decide (y.2.status ≠ stRemote) with
    | some (_, y) => if x.status = stAborted ∨ x.status = stRemote then { x with tilePos := y.tilePos, tileCh := y.tileCh } else x
    | none => x

/-- Members whose parts have not ended. -/
def awaited (c : Cmd) : List Nat := c.shared.filter fun s => !(c.ends.any fun e => decide (e.1 = s))

/-- Members that still work are told to stop. -/
def stopOthers (c : Cmd) (d : Device) : Device :=
  ((awaited c).filter fun s => decide (s ≠ ownSlot d)).foldl (fun d s => sendPacket (slotDev d s) c.part false (.shareStop c.id) d) d

/-- The part of a slot has ended. One that does not end with OK stops the others; with the last, the command ends, for which the
deadline counts (R37, R48, R312, R332). -/
def partEnds (id slot : Nat) (x : Done) (budget took : Nat) (d : Device) : Device :=
  match cmdOf d id with
  | none => d
  | some c =>
    if !(awaited c).contains slot then d
    else
      let first := !(c.ends.any fun e => decide (e.2.status ≠ stOk))
      let c := { c with ends := c.ends ++ [(slot, x)], budget := budget }
      let d := setCmd c d
      if awaited c = [] then
        let y := domainDone c
        endCmd c (if y.status = stOk ∧ !bit 1 y.flags then deadline c budget took y else y) (inboxDrop c.part (ownDev d + 1) c.id d)
      else if x.status ≠ stOk ∧ first then
        stopOthers c (setCmd { c with stop := c.stop.or (some { status := stAborted }) } d)
      else d

/-- A matrix command's work on this device ends: an ordinary command, the own part of one that this device sequences, or a part of
another device's, whose budget is its sequencing device's (R48). -/
def finish (c : Cmd) (x : Done) (budget took : Nat) (d : Device) : Device :=
  if c.shared ≠ [] then partEnds c.id (ownSlot d) x budget took d
  else
    let y := sharedName d c
    endCmd c x (if c.member.isSome then inboxDrop c.part y.1 y.2 d else d)

/-- A member of a domain command cannot be reached (R49). -/
def memberLost (id slot : Nat) (d : Device) : Device :=
  match cmdOf d id with
  | some c => if slot = ownSlot d then d else partEnds id slot { status := stRemote, detail := 0x8000 + slot } c.budget 0 d
  | none => d

/-- The part of a member has ended (R48). -/
def shareEnded (p : Packet) (id : Nat) (x : Done) (took : Nat) (d : Device) : Device :=
  match runningAs d id (· = 0x10) with
  | some c => if p.src / 16 = ownDev d / 16 ∧ p.part = c.part then partEnds id (p.src % 16) x c.budget took d else d
  | none => d

/-! ## Packets in their turn -/

/-- CHAIN_REDUCE, BROADCAST, BARRIER. -/
def isColl (op : Nat) : Bool := decide (op = 0x48) || decide (op = 0x49) || decide (op = 0x4A)

/-- VISIBLE for a run of a remote write (R431). -/
def visible (id run : Nat) (d : Device) : Device :=
  match runOwner d id run with
  | some c => if (tDstDev d c).isSome then runDone id run d else d
  | none => d

/-- REFUSED for a remote transfer (R429). -/
def refused (id : Nat) (d : Device) : Device :=
  match runningAs d id (· = 0x40) with
  | some c => if c.runs = [] then d else endCmd { c with runs := [] } (refusedWith stPermission) d
  | none => d

/-- What a packet does once it is its turn (R430); `x` is what the step meets. -/
def makeVisible (p : Packet) (x : Circ) (d : Device) : Device :=
  match p.load with
  | .write id addr bs run last fin tally =>
    if isAccepted d p.src p.part id then wroteRemote p id addr run last fin tally (putRemote p.part addr bs d) else d
  | .narrow id addr f pb ev bl run last fin tally =>
    if isAccepted d p.src p.part id then wroteRemote p id addr run last fin tally (putRemote p.part addr (decodeRun ev f pb bl) d) else d
  | .read id addr len back run nar fin =>
    if isAccepted d p.src p.part id then
      let d := answerRead p id addr len back run nar d
      if fin then dropAccepted p.src p.part id d else d
    else d
  | .data id back bs run st =>
    match runOwner d id run with
    | some c => runData c back run st bs bs d
    | none => d
  | .narrowData id back f pb ev bl run am k st =>
    match runOwner d id run with
    | some c =>
      let d := narCount id (32 * blocksIn pb bl.length) k am d
      runData ((cmdOf d id).getD c) back run st (decodeRun ev f pb bl) bl d
    | none => d
  | .request r => remoteRequest r d
  | .visible id run => visible id run d
  | .refused id => refused id d
  | .bytes seq id bs => inboxAdd p.src p.part seq id bs d
  | .share id legacy ws table => shareTake p id legacy ws table d
  | .shareStop id => shareStopped p id d
  | .shareDone id st fl dt tp tc => shareEnded p id { status := st, flags := fl, detail := dt, tilePos := tp, tileCh := tc } x.took d
  | .desc _ => d

/-- The store that a packet writes or reads on this device is held (R254, R453). -/
def packetHeld (d : Device) (p : Packet) : Bool :=
  let back (a : Nat) (n : Nat) : Bool := addrLocal d a && heldRange d (locAddr a) n
  match p.load with
  | .write _ addr bs _ _ _ _ => heldRange d addr bs.length
  | .narrow _ addr f pb _ bl _ _ _ _ => heldRange d addr (32 * narWidth f * blocksIn pb bl.length)
  | .read _ addr len _ _ _ _ => heldRange d addr len
  | .data _ a bs _ _ => back a bs.length
  | .narrowData _ a f pb _ bl _ _ _ _ => back a (32 * narWidth f * blocksIn pb bl.length)
  | _ => false

/-- The stream of a packet. -/
def packetKey (p : Packet) : Nat := streamKey p.src p.part p.resp

/-- Packets that arrived ahead and whose turn has come. -/
def takeAhead : Nat → Nat → Device → Device
  | 0, _, d => d
  | fuel + 1, k, d =>
    let n := tabGet 0 k d.rem.rxSeq
    match d.rem.ahead.find? fun p => decide (packetKey p = k) && decide (p.pseq.toNat = n) with
    | none => d
    | some p =>
      let d := { d with rem := { d.rem with ahead := d.rem.ahead.erase p } }
      if packetHeld d p then { d with waiting := d.waiting ++ [.remote p {}] }
      else takeAhead fuel k (makeVisible p {} { d with rem := { d.rem with rxSeq := tabSet 0 k ((n + 1) % 2 ^ 32) d.rem.rxSeq } })

/-- A packet for this device (R430). One whose turn has come waits while its store is held, and the stream with it (R254, R453). -/
def remotePacket (p : Packet) (x : Circ) (d : Device) : Device :=
  if p.dst ≠ ownDev d ∨ powered d = false then d
  else
    let k := packetKey p
    let n := tabGet 0 k d.rem.rxSeq
    let diff := signed 32 (unsigned 32 ((p.pseq.toNat : Int) - n))
    if diff < 0 then d
    else if diff = 0 then
      if packetHeld d p then
        if d.waiting.contains (.remote p x) then d else { d with waiting := d.waiting ++ [.remote p x] }
      else
        let d := { applyCirc p.part x d with rem := { d.rem with rxSeq := tabSet 0 k ((n + 1) % 2 ^ 32) d.rem.rxSeq } }
        takeAhead 512 k (makeVisible p x d)
    else if p ∈ d.rem.ahead ∨ 512 ≤ (d.rem.ahead.filter fun q => decide (packetKey q = k)).length then d
    else { d with rem := { d.rem with ahead := d.rem.ahead ++ [p] } }

/-- A packet of a run has found no route for HY_TIMEOUT (R432); of a domain command's, which names the slot in place of the run, R49. -/
def remoteTimeout (id run : Nat) (d : Device) : Device :=
  match runOwner d id run with
  | some c => endCmd { c with runs := [] } { status := stRemote, tilePos := c.runs.foldl min run } d
  | none =>
    match runningAs d id fun op => decide (op = 0x10) || isColl op with
    | some c =>
      if opOf c = 0x10 then memberLost id run d
      else if domainOf c ∧ run ≠ ownSlot d ∧ run ∈ members d c.part ∧ c.stop.isNone then
        setCmd { c with stop := some { status := stRemote, detail := 0x8000 + run } } d
      else d
    | none => d


/-! ## Meanings -/

/-- REMOTE_REQUEST (R429). -/
def execRemoteRequest (r : RemReq) (s : State) := run (.remoteRequest r) (remoteRequest r) s
/-- REMOTE_PACKET (R430). -/
def execRemotePacket (p : Packet) (s : State) (c : Circ := {}) := run (.remotePacket p c) (remotePacket p c) s
/-- VISIBLE (R431). -/
def execVisible (id run' : Nat) (s : State) := run (.visible id run') (visible id run') s
/-- REMOTE_TIMEOUT (R432). -/
def execRemoteTimeout (id run' : Nat) (s : State) := run (.remoteTimeout id run') (remoteTimeout id run') s
/-- REFUSED (R429). -/
def execRefused (id : Nat) (s : State) := run (.refused id) (refused id) s
end Sys2Proof.Machine
end

