-- ==== Sys2Proof/Machine/Held.lean ====
section
/-! DEFINITION. Accesses that wait while a store is cleared or its array is substituted, and the end of a clearing (R254, R453). -/

namespace Sys2Proof.Machine

/-- One access that was held: served, or held further. -/
def serveAccess (d : Device) (x : Access) : Device :=
  match x with
  | .bar4 req c => bar4Access req c d
  | .remote p c => remotePacket p c d

/-- The accesses that were held are tried again in their order (R254, R266, R453). -/
def serveHeld (d : Device) : Device := d.waiting.foldl serveAccess { d with waiting := [] }

/-- The clearing of a partition's stores finishes: accesses that it held are served, and enables that waited for it take effect
(R254). -/
def storeClearDone (p : Nat) (d : Device) : Device :=
  let d := serveHeld (setPart p { partOf d p with clrArrays := [], clrBands := [] } d)
  (List.range 64).foldl (fun d o => if (partOf d o).enabling then partitionEnable o d else d) d

/-! ## Meanings -/

/-- STORE_CLEAR_DONE (R254). -/
def execStoreClearDone (part : Nat) (s : State) := run (.storeClearDone part) (storeClearDone part) s

end Sys2Proof.Machine
end

