-- ==== Sys2Proof/Machine/Observe.lean ====
section
/-! DEFINITION. Freezes, captures of high words, the trace port and the sampler's generators (R523 to R541). -/

namespace Sys2Proof.Machine

/-! ## Freezes (R524 to R527) -/

/-- Registers that a freeze captures: programmable counters, busy counters, SAT_COUNT (R525). -/
def isCaptured (off : Nat) : Bool :=
  match regFind off with
  | some (f, _) =>
    match f.id with
    | .arrCycle | .arrCnt | .arrCntHi | .unitCycle | .unitCnt | .unitCntHi | .satCount | .busyMatrix | .busyVector | .busyXfer => true
    | _ => false
  | none => false

def frozen (d : Device) : Bool := fbit d oObsCtrl fObsCtrlFrozen

/-- The capture (R525). -/
def capture (d : Device) : Device :=
  let d := { d with frz := { d.frz with
    picture := d.regs.filter fun e => isCaptured e.1
    aclk := d.clk.aclk, fclk := d.clk.fclk, hclk := d.clk.hclk, tiles := d.tiles, due := none } }
  let d := fput oObsCtrl fObsCtrlFrozen 1 d
  rput (oFreezeTime 0) (BitVec.ofNat 32 d.clk.time) (rput (oFreezeTime 1) (BitVec.ofNat 32 (d.clk.time / 2 ^ 32)) d)

/-- Slots of the domain (HY_CTRL) other than the device's own. -/
def otherSlots (d : Device) : List Nat :=
  (List.range 16).filter fun s => bit s (fget d oHyCtrl fHyCtrlSlots) && decide (s ≠ fget d oDeviceId fDeviceIdSlot)

/-- A trigger of the device's own (R524 to R526). -/
def freeze (d : Device) : Device :=
  if frozen d then d
  else if fbit d oObsCtrl fObsCtrlDomainFreeze then
    match d.frz.due with
    | some _ => d
    | none =>
      let f := d.clk.time + 2000
      (otherSlots d).foldl (fun d s => emit (.freezeFlit s f) d) { d with frz := { d.frz with due := some f } }
  else capture d

/-- A FREEZE flit from a member (R526). -/
def freezeFlit (f : Nat) (d : Device) : Device :=
  if frozen d then d
  else if f < d.clk.time then fput oObsCtrl fObsCtrlLate 1 (capture d)
  else { d with frz := { d.frz with due := some (match d.frz.due with | some g => min f g | none => f) } }

/-- TIME reaches F (R526). -/
def freezeCapture (d : Device) : Device :=
  match d.frz.due with
  | some f => if f ≤ d.clk.time ∧ !frozen d then capture d else d
  | none => d

/-- A write of 1 to RELEASE (R527). -/
def releaseFreeze (d : Device) : Device :=
  fput oObsCtrl fObsCtrlFrozen 0 { d with frz := { d.frz with picture := [], tiles := [] } }

/-! ## The sampler's generators (R529) -/

/-- One step of a generator: x^32 + x^22 + x^2 + x + 1, shifting as the generators of R232 do (log 22). -/
def smpNext (s : Nat) : Nat := (s * 2 + (b2n (bit 31 s) + b2n (bit 21 s) + b2n (bit 1 s) + b2n (bit 0 s)) % 2) % 2 ^ 32

/-- Where an array's generator starts. -/
def smpStart (d : Device) (a : Nat) : Nat :=
  let v := (rget d oSmpSeed).toNat ^^^ (a * 0x9E37)
  if v = 0 then 1 else v

/-- An array's generator. -/
def smpOf (d : Device) (a : Nat) : Nat :=
  match d.smp.find? fun e => decide (e.1 = a) with
  | some e => e.2.toNat
  | none => smpStart d a

/-- The draw for one tile that an array starts: whether it is tagged, and the generator after it (R529). -/
def smpDraw (a : Nat) (d : Device) : Bool × Device :=
  if fbit d oSmpCtrl fSmpCtrlSmpEn then
    let s := smpOf d a
    let rest := d.smp.filter fun e => decide (e.1 ≠ a)
    (decide (s % 2 ^ fget d oSmpCtrl fSmpCtrlSmpLog2 = 0),
      { d with smp := tabSet 0 a (BitVec.ofNat 32 (smpNext s)) rest })
  else (false, d)

/-- A write of SMP_SEED restarts every generator (R529). -/
def smpSeedWrite (v : Word) (d : Device) : Device := rput oSmpSeed (if v = 0 then 1 else v) { d with smp := [] }

/-! ## The trace port (R533 to R541) -/

/-- LOSS of a source (R534, R537). -/
def lossPkt (s : Nat) (d : Device) : TPkt :=
  { type := 2, stamp := d.clk.time,
    payload := [BitVec.ofNat 64 (s + min (tabGet 0 s d.trc.lostPk) 0xFFFFFF * 256 +
      min (tabGet 0 s d.trc.lostBy) 0xFFFFFFFF * 2 ^ 32)], since := d.clk.time }

/-- The STAMP of a packet lies within 4 ns of the last STAMP of another source (R541). `stamps` holds STAMP + 1. -/
def unord (stamps : Tab Nat) (src stamp : Nat) : Bool :=
  stamps.any fun e => decide (e.1 ≠ src) && decide ((stamp : Int) - ((e.2 : Int) - 1) ≤ 4) && decide (((e.2 : Int) - 1) - stamp ≤ 4)

/-- A packet leaves: SYNC with the time of emission, the STAMP kept for its source (R534, R541). Source 4 is the
alarm path, 5 the port itself. -/
def trcSend (src : Nat) (p : TPkt) (d : Device) : Device :=
  let p := if p.type = 1 then syncPkt d else p
  let u := unord d.trc.stamps src p.stamp
  let n := d.trc.sent + pktBytes p
  let d := { d with trc := { d.trc with
    stamps := if src < 4 then tabSet 0 src (p.stamp + 1) d.trc.stamps else d.trc.stamps
    lastSync := if p.type = 1 then d.clk.time else d.trc.lastSync
    sent := n % 64 } }
  perfOne 16 0x27 none (n / 64) (emit (.trace p u) d)

/-- The first source that has a packet waiting (R535). -/
def readySrc (t : Trace) : Option Nat := (List.range 4).find? fun s => decide (fifoOf t s ≠ [])

/-- The port sends its next packet (R535, R537, R539). -/
def tracePacketSend (d : Device) : Device :=
  if !trcOn d then d
  else match d.trc.alarms with
    | p :: r => trcSend 4 p { d with trc := { d.trc with alarms := r } }
    | [] => match d.trc.own with
      | p :: r => trcSend 5 p { d with trc := { d.trc with own := r } }
      | [] => match readySrc d.trc with
        | none => d
        | some s =>
          if tabGet 0 s d.trc.lostPk = 0 then
            match fifoOf d.trc s with
            | p :: r => trcSend s p { d with trc := setFifo s r d.trc }
            | [] => d
          else
            let p := lossPkt s d
            trcSend 5 p { d with trc := { d.trc with
              own := [syncPkt d], lostPk := tabSet 0 s 0 d.trc.lostPk, lostBy := tabSet 0 s 0 d.trc.lostBy } }

/-- A packet that has waited 380 µs is dropped (R536). -/
def tracePacketExpire (s : Nat) (d : Device) : Device :=
  match fifoOf d.trc s with
  | p :: r => if p.since + 380000 ≤ d.clk.time then trcDrop s p { d with trc := setFifo s r d.trc } else d
  | [] => d

/-- 8 ms have passed since the last SYNC (R539). -/
def syncTimer (d : Device) : Device :=
  if d.trc.lastSync + 8000000 ≤ d.clk.time then trcOwn (syncPkt d) d else d

/-- The end of an alarm's millisecond on the alarm path (R538). -/
def alarmMergeTimeout (code source : Nat) (d : Device) : Device :=
  match d.trc.alarmOpen.find? fun o => decide (o.code = code) && decide (o.source = source) with
  | none => d
  | some o =>
    if o.count = 0 then { d with trc := { d.trc with alarmOpen := d.trc.alarmOpen.erase o } }
    else
      let close (y : EvRec) : EvRec := if y = o then { o with count := 0 } else y
      { d with trc := { d.trc with
        alarmOpen := d.trc.alarmOpen.map close
        alarms := d.trc.alarms ++ [{ type := 4, stamp := o.time, payload := leDWords (evBytes o 0), since := d.clk.time }] } }

/-- A write of TRC_MARKER_LO (R534). -/
def marker (v : Word) (d : Device) : Device :=
  trcPut 0 { type := 8, stamp := d.clk.time,
             payload := [BitVec.ofNat 64 (v.toNat + 2 ^ 32 * (rget d oTrcMarkerHi).toNat)], since := d.clk.time } d

/-- A write of DUMP_RD (R545). -/
def dumpRdWrite (v : Word) (d : Device) : Device := rput oDumpRd v d

/-! ## Meanings -/

/-- FREEZE (R525). -/
def execFreeze (pin : Bool) (s : State) := run (.freeze pin) freeze s
/-- FREEZE_FLIT (R526). -/
def execFreezeFlit (f : Nat) (s : State) := run (.freezeFlit f) (freezeFlit f) s
/-- FREEZE_CAPTURE (R526). -/
def execFreezeCapture (s : State) := run .freezeCapture freezeCapture s
/-- RELEASE_FREEZE (R527). -/
def execReleaseFreeze (s : State) := run .releaseFreeze releaseFreeze s
/-- SMP_SEED_WRITE (R529). -/
def execSmpSeedWrite (v : Word) (s : State) := run (.smpSeedWrite v) (smpSeedWrite v) s
/-- MARKER (R534). -/
def execMarker (v : Word) (s : State) := run (.marker v) (marker v) s
/-- TRACE_PACKET_SEND (R535). -/
def execTracePacketSend (s : State) := run .tracePacketSend tracePacketSend s
/-- TRACE_PACKET_EXPIRE (R536). -/
def execTracePacketExpire (source : Nat) (s : State) := run (.tracePacketExpire source) (tracePacketExpire source) s
/-- SYNC_TIMER (R539). -/
def execSyncTimer (s : State) := run .syncTimer syncTimer s
/-- ALARM_MERGE_TIMEOUT (R538). -/
def execAlarmMergeTimeout (code source : Nat) (s : State) :=
  run (.alarmMergeTimeout code source) (alarmMergeTimeout code source) s
/-- DUMP_RD_WRITE (R545). -/
def execDumpRdWrite (v : Word) (s : State) := run (.dumpRdWrite v) (dumpRdWrite v) s

end Sys2Proof.Machine
end

