-- ==== Sys2Proof/Machine/Drive.lean ====
section
/-! DEFINITION. Planes, counts and accumulator entries (R58 to R68, R108, R120, R159, R160), stochastic streams (R231 to R239), the
walk of block maps (R201 to R206) and what a tile group reads before its first plane (R218, R246 to R248, R298). -/

namespace Sys2Proof.Machine

/-! ## Cells and columns -/

/-- Bit p of a two's complement number. -/
def ibit (p : Nat) (z : Int) : Bool := decide ((z / 2 ^ p) % 2 = 1)

/-- The planes that a pass drives (R63, R241). -/
def planesOf (c : Cmd) : List Nat := if isTop c then (List.range (mH c)).map (· + (mPa c - mH c)) else List.range (mPa c)

/-- The logical line that a physical row selects (R209); the row itself for dense images. -/
def lineOf (c : Cmd) (sub : Option Nat) (r idx : Nat) : Nat :=
  if mNM c && sub.isNone then r / mN c * mM c + idx else r

/-- The rows that are not gated, as (row, weight, activation) (R58, R71, R200). -/
def activeRows (c : Cmd) (sub : Option Nat) (rows : List (Option (Int × Nat))) (lines : List (Option Int)) : List (Nat × Int × Int) :=
  rows.zipIdx.filterMap fun x => match x.1 with
    | some (w, idx) => (lines.getD (lineOf c sub x.2 idx) none).map fun a => (x.2, w, a)
    | none => none

/-- An entry within the s20 range, and 1 when it was set to the nearest end (R160). -/
def ent20 (z : Int) : Int × Nat :=
  let q := clip (-524288) 524287 z
  (q, b2n (decide (q ≠ z)))

/-- A term added to the entry of a column. -/
def addEnt (e col : Nat) (z : Int) (x : AccSet × Nat) : AccSet × Nat :=
  let k := 512 * e + col
  let (q, s) := ent20 (tabGet 0 k x.1.ent + z)
  ({ x.1 with ent := tabSet 0 k q x.1.ent }, x.2 + s)

/-- Count of the tree of weight bit q for plane p (R57, R64). -/
def andCount (rows : List (Nat × Int × Int)) (q p : Nat) : Nat := rows.countP fun x => ibit q x.2.1 && ibit p x.2.2

/-- One plane against one column of a channel (R64, R159). -/
def drivePlane (c : Cmd) (e cc q p : Nat) (rows : List (Nat × Int × Int)) (x : AccSet × Nat) : AccSet × Nat :=
  let s : Int := if mAS c && decide (p + 1 = mPa c) then -1 else 1
  let (e', p') := if splitPlanes c && decide (10 ≤ p) then (e + 128, p - 10) else (e, p)
  addEnt e' (cc * mCols c + q) (s * ((andCount rows q p * 2 ^ p' : Nat) : Int)) x

/-- XNOR count of a binary pass (R65). -/
def driveBinary (e cc : Nat) (rows : List (Nat × Int × Int)) (x : AccSet × Nat) : AccSet × Nat :=
  addEnt e cc (2 * ((rows.countP fun r => ibit 0 r.2.1 == ibit 0 r.2.2 : Nat) : Int) - rows.length) x

/-! ## Streams (R231 to R239) -/

/-- One step of a generator (R232). -/
def genNext (s : Nat) : Nat :=
  let f := (b2n (bit 15 s) + b2n (bit 14 s) + b2n (bit 12 s) + b2n (bit 3 s) + b2n (decide (s % 2 ^ 15 = 0))) % 2
  (2 * s + f) % 2 ^ 16

/-- The state of generator g at the start of pass i of position j (R233). -/
def genStart (c : Cmd) (g j i : Nat) : Nat :=
  (if g < 16 then mSeedA c else mSeedW c) ^^^ (g * 0x0801 % 2 ^ 16) ^^^ (j * 0x6A09 % 2 ^ 16) ^^^ (i * 0xBB67 % 2 ^ 16)

/-- Rotation left of 16 bits. -/
def rotl16 (s r : Nat) : Nat := (s * 2 ^ (r % 16)) % 2 ^ 16 + s / 2 ^ (16 - r % 16)

/-- A row's number of P bits from a generator's state (R234). -/
def tapNum (s rot mask p : Nat) : Nat := bits 15 (16 - p) (rotl16 s rot ^^^ (mask * 512))

/-- A state stepped a number of times. -/
def genAt : Nat → Nat → Nat
  | 0, s => s
  | n + 1, s => genAt n (genNext s)

/-- One row's XNOR in cycle t of a position's pass (R231, R234, R237). -/
def streamBit (c : Cmd) (taps : List Nat) (j i t : Nat) (r : Nat × Int × Int) : Bool :=
  let w := taps.getD r.1 0
  let za := tapNum (genAt t (genStart c (bits 4 0 w) j i)) (bits 8 5 w) (bits 15 9 w) (mPa c)
  let zw := tapNum (genAt t (genStart c (bits 20 16 w) j i)) (bits 24 21 w) (bits 31 25 w) (mPw c)
  decide ((za : Int) < r.2.2 + 2 ^ (mPa c - 1)) == decide ((zw : Int) < r.2.1 + 2 ^ (mPw c - 1))

/-- A position's stream cycles against a channel's column (R239). -/
def driveStream (c : Cmd) (taps : List Nat) (j i e cc : Nat) (rows : List (Nat × Int × Int)) (x : AccSet × Nat) : AccSet × Nat :=
  (List.range (mLs c)).foldl (fun x t =>
    addEnt e cc (2 * ((rows.countP (streamBit c taps j i t) : Nat) : Int) - rows.length) x) x

/-- One channel of one position in one pass. -/
def driveChan (c : Cmd) (taps : List Nat) (sub : Option Nat) (j i e cc : Nat) (rows : List (Option (Int × Nat))) (lines : List (Option Int))
    (x : AccSet × Nat) : AccSet × Nat :=
  let act := activeRows c sub rows lines
  if isStoch c then driveStream c taps j i e cc act x
  else if mBin c then driveBinary e cc act x
  else (List.range (mPwe c)).foldl (fun x q => (planesOf c).foldl (fun x p => drivePlane c e cc q p act x) x) x

/-- The outlier products of a position, in list order, with the saturations they count (R120). DESIGN CHOICE: a VALUE that is not
finite is counted at each update of a position that it makes, and not at gated rows or skipped outputs; R120 names no count (log 85). -/
def outliers (c : Cmd) (sub : Option Nat) (l : Latches) (sl : Slice) (e : Nat) (gate : List (Nat × Nat)) : List (Nat × Nat × Nat) × Nat :=
  let xs := l.side.filterMap fun s =>
    if gate.contains (e, s.2.1) then none
    else
      let row := ((l.rows.getD s.2.1 []).getD s.1 none)
      match row.bind fun y => sl.lines.getD (lineOf c sub s.1 y.2) none with
      | none => none
      | some a =>
        let (v, k) := finite fp32 (flDecode fp32 s.2.2)
        let av := if aReal c then flRat (a * pow2 sl.x) (pow2 (-sl.x)) else flInt a
        let (w, o) := flSat fp32 (evOf c) (flMul v av)
        some ((e, s.2.1, w), k + b2n o)
  (xs.map (·.1), (xs.map (·.2)).sum)

/-- One position of a pass against the active latches (R63 to R66, R108, R120). -/
def drivePos (c : Cmd) (taps : List Nat) (l : Latches) (gate : List (Nat × Nat)) (p : Pass) (e j : Nat) (sl : Slice)
    (x : AccSet × Nat) : AccSet × Nat :=
  let x := l.rows.zipIdx.foldl (fun x y =>
    if gate.contains (e, y.2) then x else driveChan c taps p.sub j p.i e y.2 y.1 sl.lines x) x
  let (os, s) := outliers c p.sub l sl e gate
  ({ x.1 with adds := x.1.adds ++ os }, x.2 + s)

/-! ## What a tile group reads before its first plane -/

/-- The coordinate list of an array as a function of the digit. -/
def lstFn (sn : Snap) (k : Nat) : Int := ((sn.lst.getD k 0 : Nat) : Int)
def lstNat (sn : Snap) (k : Nat) : Nat := sn.lst.getD k 0

/-- The number whose pos_part locates an activation slice: the position, or the pair's input site (R216, R283). -/
def slicePos (c : Cmd) (sn : Snap) (j : Nat) : Nat :=
  if mScat c = 0 then j else match sn.pairs.find? fun x => decide (x.1 = j) with | some x => x.2.1 | none => 0

/-- Positions of a group that are not masked, as (entry, position) (R304). -/
def realPos (c : Cmd) (s : Share) (g : Nat) : List (Nat × Nat) := (groupPos c s g).filter fun x => decide (x.2 < realExt c)

/-- pos_part of the weights of a group (R287). -/
def groupW (c : Cmd) (s : Share) (g : Nat) (sn : Snap) : Int :=
  posPart c (lstNat sn) 1 (match groupPos c s g with | x :: _ => x.2 | [] => 0)

/-- The slice of a position in a pass. -/
def posSlice (d : Device) (c : Cmd) (a : Nat) (sn : Snap) (j : Nat) (p : Pass) : Slice :=
  slice d c a j (posPart c (lstNat sn) 0 (slicePos c sn j)) p

/-- Faults of a pair list and a coordinate list in a group (R218, R298). The 1 marks a coordinate. -/
def listFaults (d : Device) (c : Cmd) (a : Nat) (s : Share) (g : Nat) (sn : Snap) : Faults :=
  let js := (realPos c s g).map (·.2)
  let pairs := if mScat c = 0 then [] else
    js.flatMap fun j => wordsParity d a (mPair c + 2 * j) 2 ++
      (match sn.pairs.find? fun x => decide (x.1 = j) with
       | some x => faultIf (decide (mInExt c ≤ x.2.1) || decide (mOutExt c ≤ x.2.2)) 3
       | none => [])
  let digits := if pListLev c = 0 then [] else
    js.flatMap fun j =>
      (if bit 0 (pListOps c) then [listDigit c (slicePos c sn j)] else []) ++
      (if decide (2 ≤ pListOps c) then [listDigit c j] else [])
  pairs ++ digits.flatMap fun k => wordsParity d a ((pList c + k) % 65536) 1 ++
    (if pLimit c ≤ lstNat sn k then [(3, 1)] else [])

/-- Distance of an output (R246). -/
def gateDist (c : Cmd) (i j : Nat) : Nat :=
  let s := mSpan c
  let i' := if s = 0 then i else i % s
  let j' := if s = 0 then j else j % s
  let ab (x y : Nat) : Nat := max x y - min x y
  if mGrid c = 0 then ab i' j' else max (ab (i' / mGrid c) (j' / mGrid c)) (ab (i' % mGrid c) (j' % mGrid c))

/-- Bit index of an output in the importance map of a share (R243). -/
def mapBit (s : Share) (j ch : Nat) : Nat := (j - s.pos.1) * mapWidth s + (ch - s.ch.1)

/-- The importance map holds 0 for an output. -/
def weakAt (d : Device) (c : Cmd) (a : Nat) (s : Share) (j ch : Nat) : Bool :=
  let b := mapBit s j ch
  !bit (b % 32) (wsWord d a (mImap c + 2 + b / 32))

/-- The outputs of a group that are skipped, by entry and tile-local channel (R242, R245), and the parity of the map words read. -/
def gates (d : Device) (c : Cmd) (a : Nat) (s : Share) (g : Nat) (mapOk : Bool) : List (Nat × Nat) × Faults :=
  let far := decide (mGate c = 1) || decide (mGate c = 3)
  let weak := mapOk && decide (2 ≤ mGate c)
  let ch := groupCh c s g
  let outs := if mGate c = 0 then [] else
    (realPos c s g).flatMap fun x => (List.range ch.2).map fun cc => (x.1, x.2, cc)
  ((outs.filter fun o => (far && decide (mDist c < gateDist c o.2.1 (ch.1 + o.2.2))) ||
      (weak && weakAt d c a s o.2.1 (ch.1 + o.2.2))).map fun o => (o.1, o.2.2),
    if weak then outs.flatMap fun o => wordsParity d a (mImap c + 2 + mapBit s o.2.1 (ch.1 + o.2.2) / 32) 1 else [])

/-- The lists, pairs and gates of a group as its array reads them (R216, R248, R299). -/
def snapOf (d : Device) (c : Cmd) (a : Nat) (s : Share) (g : Nat) (mapOk : Bool) : Snap :=
  { lst := if pListLev c = 0 then [] else (List.range (lBound c (pListLev c - 1))).map (listAt d c a)
    pairs := if mScat c = 0 then [] else (realPos c s g).map fun x =>
      (x.2, wsWord d a (mPair c + 2 * x.2), wsWord d a (mPair c + 2 * x.2 + 1))
    gate := (gates d c a s g mapOk).1 }

/-- Reserved fields and parity of the rescale entries that a group reads (R126, R127). -/
def entryFaults (d : Device) (c : Cmd) (ss : List Share) (a : Nat) (s : Share) (g : Nat) : Faults :=
  let ch := groupCh c s g
  if usesTable ss c s then
    (List.range ch.2).flatMap fun k =>
      let e := entryWord d c a (ch.1 + k)
      wordsParity d a (mRt c + 8 * (ch.1 + k)) 8 ++
      faultIf (decide (bits 15 6 (e 3) ≠ 0) || decide (bits 31 17 (e 5) ≠ 0) || decide (e 6 ≠ 0) || decide (e 7 ≠ 0)) 8
  else []

/-! ## Passes and the walk (R201 to R206, R293) -/

def planPasses (c : Cmd) (s : Share) : List Pass := (List.range s.ps.2).map fun k => planPass c (s.ps.1 + k)

/-- The dense passes of a recomputation (R215). -/
def densePasses (c : Cmd) (s : Share) : List Pass :=
  (planPasses c s).flatMap fun p =>
    (List.range (ceilDiv p.blocks.length 16)).map fun k => { p with blocks := (p.blocks.drop (16 * k)).take 16, sub := some k }

/-- The lines that the walker reads: activation lines of the group's real positions, weight lines of its channels. -/
def walkLines (c : Cmd) (s : Share) (g : Nat) (sn : Snap) : List Int × List Int :=
  let ch := groupCh c s g
  (if mASp c = 0 then [] else (realPos c s g).map fun x => posPart c (lstNat sn) 0 x.2,
    if mWSp c = 0 then [] else (List.range ch.2).map fun k => groupW c s g sn + ((ch.1 + k : Nat) : Int))

/-- The surviving blocks of a group, and the faults of the walk (R201, R206). -/
def walk (d : Device) (c : Cmd) (a : Nat) (s : Share) (g : Nat) (sn : Snap) : List Nat × Faults :=
  let (la, lw) := walkLines c s g sn
  let ra := la.map fun l => runCodes d a (mAbm c) l (pNB c)
  let rw := lw.map fun l => runCodes d a (mWbm c) l (pNB c)
  let has (rs : List (List (Bool × Nat) × Faults)) (b : Nat) : Bool := rs.any fun r => (presence r.1).getD b false
  ((shareBlocks c s).filter fun b => (decide (mASp c = 0) || has ra b) && (decide (mWSp c = 0) || has rw b),
    ra.flatMap (·.2) ++ rw.flatMap (·.2))

/-- Whether a group of a number of surviving blocks is compacted (R204). -/
def compacts (c : Cmd) (s : Share) (bs : Nat) : Bool :=
  decide (mSp c = 1) || (decide (mSp c = 2) && decide (bs * 65536 < c.thresh * (shareBlocks c s).length))

/-- Blocks cut into compacted passes (R203). -/
def cutPasses : Nat → Nat → List Nat → List Pass
  | 0, _, _ => []
  | n + 1, i, bs => { i := i, blocks := bs.take 16 } :: cutPasses n (i + 1) (bs.drop 16)

/-- The passes of a group, whether it is compacted, and the walk's faults. -/
def groupPasses (d : Device) (c : Cmd) (a : Nat) (s : Share) (g : Nat) (sn : Snap) : List Pass × Bool × Faults :=
  if mSp c = 0 then (planPasses c s, false, [])
  else
    let (bs, fs) := walk d c a s g sn
    if compacts c s bs.length then (cutPasses (ceilDiv bs.length 16) 0 bs, true, fs) else (planPasses c s, false, fs)

/-- The load of a pass. -/
def loadOf (d : Device) (c : Cmd) (a : Nat) (s : Share) (g : Nat) (sn : Snap) (p : Pass) : Latches × Nat × Faults :=
  loadPass d c a (groupCh c s g) (groupW c s g sn) (g / posGroups c s + s.ch.1 / pCuse c) p

/-- The faults of the slices of a pass (R89, R225). -/
def feedFaults (d : Device) (c : Cmd) (a : Nat) (s : Share) (g : Nat) (sn : Snap) (p : Pass) : Faults :=
  (realPos c s g).flatMap fun x => (posSlice d c a sn x.2 p).bad

/-- Every fault of a tile group (R226). -/
def groupFaults (d : Device) (c : Cmd) (ss : List Share) (a : Nat) (s : Share) (g : Nat) (sn : Snap) (mapOk : Bool) (ps : List Pass) : Faults :=
  listFaults d c a s g sn ++ (gates d c a s g mapOk).2 ++ entryFaults d c ss a s g ++ (groupPasses d c a s g sn).2.2 ++
  ps.flatMap fun p => (loadOf d c a s g sn p).2.2 ++ feedFaults d c a s g sn p

/-- A pass driven against the active latches: the active set, and the saturations counted. -/
def drivePass (d : Device) (c : Cmd) (a : Nat) (s : Share) (g : Nat) (taps : List Nat) (sn : Snap) (l : Latches) (p : Pass) (acc : AccSet) :
    AccSet × Nat :=
  let sls := (realPos c s g).map fun x => (x, posSlice d c a sn x.2 p)
  let acc := if anyReal c then
      { acc with xw := l.exps,
                 xa := (List.range 256).map fun e => match sls.find? fun y => decide (y.1.1 = e) with | some y => y.2.x | none => 0 }
    else acc
  sls.foldl (fun x y => drivePos c taps l sn.gate p y.1.1 y.1.2 y.2 (x.1, x.2 + y.2.sat)) (acc, 0)

end Sys2Proof.Machine
end

