-- ==== Sys2Proof/Machine/Promote.lean ====
section
/-! DEFINITION. Segment partials (R66, R108, R161 to R163, R239), the promotion buffer (R164 to R166) and the writes of the output port
(R289, R605). -/

namespace Sys2Proof.Machine

/-! ## The output port -/

/-- A write of an array's row store: bit address, bits, and the value; none keeps the old bits (R249, R250). -/
abbrev Wr := Nat × Nat × Option Nat

/-- Bits of the row store replaced. -/
def setRowBits (a b n v : Nat) (d : Device) : Device :=
  let l := rowAddr a (b / 8)
  let k := ceilDiv (b % 8 + n) 8
  let old := leNat (bytesAt d l k)
  storeBytes l (leBytes k (setBits (b % 8 + n - 1) (b % 8) v old)) d

/-- The writes in order. -/
def applyWrites (a : Nat) (ws : List Wr) (d : Device) : Device :=
  ws.foldl (fun d w => match w.2.2 with | some v => setRowBits a w.1 w.2.1 v d | none => d) d

/-- The bits that writes set in a range. -/
def bitsIn (ws : List Wr) (lo n : Nat) : Nat :=
  ((ws.flatMap fun w => if w.2.2.isSome then (List.range w.2.1).map (w.1 + ·) else []).filter
    fun b => decide (lo ≤ b) && decide (b < lo + n)).eraseDups.length

/-- A write touches a range of bits. -/
def touches (ws : List Wr) (lo n : Nat) : Bool := ws.any fun w => decide (w.1 < lo + n) && decide (lo < w.1 + w.2.1)

/-- Row r is read before it is written: it holds a partial segment, or bits that are kept (R250, R289). -/
def readsRow (ws : List Wr) (r : Nat) : Bool :=
  ws.any (fun w => w.2.2.isNone && decide (w.1 / 4096 = r)) ||
  (List.range 8).any fun k => let n := bitsIn ws (r * 4096 + 512 * k) 512; decide (0 < n) && decide (n < 512)

/-- A failing 64-byte unit of row r. -/
def rowFailing (d : Device) (a r : Nat) : Option Nat :=
  d.merr.parity.find? fun k => decide (rowAddr a (512 * r) ≤ k) && decide (k < rowAddr a (512 * r + 512))

/-- The failing unit that the merge reads of a drain's writes meet (R605). Under FILL_MODE UNCHANGED (`all`) every row that is
written is read first (R250). -/
def mergeFault (d : Device) (a : Nat) (all : Bool) (ws : List Wr) : Option Nat :=
  if d.merr.parity = [] then none
  else (List.range 6144).findSome? fun r => if touches ws (r * 4096) 4096 && (all || readsRow ws r) then rowFailing d a r else none

/-- The writes of a drain: all of them, or none when a merge read fails (R170, R605). -/
def commit (a : Nat) (all : Bool) (ws : List Wr) (d : Device) : Device × Option Nat :=
  match mergeFault d a all ws with
  | some k => (countParity k d, some k)
  | none =>
    let d := applyWrites a ws d
    if d.merr.parity = [] then (d, none)
    else
      let whole (k : Nat) : Bool := decide (rowAddr a 0 ≤ k) && decide (k < rowAddr a 0 + 0x300000) &&
        decide (bitsIn ws ((k - rowAddr a 0) * 8) 512 = 512)
      ({ d with merr := { d.merr with parity := d.merr.parity.filter fun k => !whole k } }, none)

/-- An array's word set, whole. -/
def putWord (a w v : Nat) (d : Device) : Device := put (wordAddr a (4 * w)) (leBytes 4 v) d

/-- Saturations of an array counted (R517, R521). -/
def satCount (a part n : Nat) (d : Device) : Device :=
  if n = 0 then d else perfArr a 0x0B (some part) n (fsat (oSatCount a) fSatCountCount n d)

/-! ## Segment partials -/

/-- A column's value (R66, R159). -/
def colVal (c : Cmd) (acc : AccSet) (e col : Nat) : Int :=
  tabGet 0 (512 * e + col) acc.ent + (if splitPlanes c then 1024 * tabGet 0 (512 * (e + 128) + col) acc.ent else 0)

/-- The exact sum of a channel (R66). -/
def chanSum (c : Cmd) (acc : AccSet) (e cc : Nat) : Int :=
  if mBin c || isStoch c then tabGet 0 (512 * e + cc * mCols c) acc.ent
  else ((List.range (mPwe c)).map fun q =>
    (if mWTwos c && decide (q + 1 = mPwe c) then -1 else 1) * (2 ^ q : Int) * colVal c acc e (cc * mPwe c + q)).sum

/-- n × 2^z as a value. -/
def flShift (n : Int) (z : Int) : Fl := flRat (n * pow2 z) (pow2 (-z))

/-- A segment partial: int32 or FP32 bits, and the saturations counted (R108, R120, R161 to R163, R239). -/
def segPartial (c : Cmd) (acc : AccSet) (e cc : Nat) : Nat × Nat :=
  let y := chanSum c acc e cc
  if anyReal c then
    let k := (if aReal c then acc.xa.getD e 0 else 0) + (if wReal c then acc.xw.getD cc 0 else 0)
    let (t, o) := flSat fp32 (evOf c) (flShift y k)
    acc.adds.foldl (fun x s => if s.1 = e ∧ s.2.1 = cc then
        let (w, o) := flSat fp32 (evOf c) (flAdd (flDecode fp32 x.1) (flDecode fp32 s.2.2))
        (w, x.2 + b2n o)
      else x) (t, b2n o)
  else if isStoch c then
    let (w, o) := flSat fp32 (evOf c) (flShift y ((mPa c : Int) + mPw c - 2 - (mLs c).log2))
    (w, b2n o)
  else if mFp c then
    let (w, o) := flSat fp32 (evOf c) (flInt y)
    (w, b2n o)
  else
    let q := clip (-2147483648) 2147483647 y
    (unsigned 32 q, b2n (decide (q ≠ y)))

/-! ## The promotion buffer -/

/-- The entries and channels of a group. -/
def cellsOf (c : Cmd) (s : Share) (g : Nat) : List (Nat × Nat) :=
  (groupPos c s g).flatMap fun x => (List.range (groupCh c s g).2).map fun cc => (x.1, cc)

/-- Bit address of a slot's element (R166). -/
def slotBit (c : Cmd) (l e cc : Nat) : Nat := mPbRow c * 4096 + ((l * mT c * mP c + e) * pCuse c + cc) * 32

/-- A slot's element. -/
def slotGet (d : Device) (c : Cmd) (a l e cc : Nat) : Nat := rowBits d a (slotBit c l e cc) 32

/-- The level that an intermediate drain fills: the first that is not full (R164). -/
def freeLevel (mask : Nat) : Nat := ((List.range 16).find? fun l => !bit l mask).getD 16

/-- A partial added to the full levels of a set, in ascending order (R164). -/
def addLevels (d : Device) (c : Cmd) (a : Nat) (ls : List Nat) (e cc : Nat) (y : Nat × Nat) : Nat × Nat :=
  ls.foldl (fun x l => let (w, s) := addFull (mFp c) (evOf c) (slotGet d c a l e cc) x.1; (w, x.2 + s)) y

/-- The levels that a drain adds: those below the first free one, or every full one in the final drain. -/
def drainLevels (fin : Bool) (mask : Nat) : List Nat :=
  if fin then (List.range 16).filter fun l => bit l mask else List.range (freeLevel mask)

/-- The sums that a drain forms, by entry and channel, and the saturations; the sum of a skipped output is 0 (R245). -/
def drainSums (d : Device) (c : Cmd) (a : Nat) (s : Share) (dr : Drain) (acc : AccSet) : List ((Nat × Nat) × Nat) × Nat :=
  let ls := drainLevels dr.fin dr.mask
  let xs := (cellsOf c s dr.group).map fun k => (k, if dr.snap.gate.contains k then (0, 0) else addLevels d c a ls k.1 k.2 (segPartial c acc k.1 k.2))
  (xs.map fun x => (x.1, x.2.1), (xs.map fun x => x.2.2).sum)

/-- The failing unit that a drain's reads of slots meet. -/
def slotFault (d : Device) (c : Cmd) (a : Nat) (s : Share) (dr : Drain) : Option Nat :=
  if d.merr.parity = [] then none
  else (drainLevels dr.fin dr.mask).findSome? fun l => (cellsOf c s dr.group).findSome? fun k =>
    (rowsParity d a (slotBit c l k.1 k.2) 32).head?.map (·.2)

/-- The writes of a slot. -/
def slotWrites (c : Cmd) (l : Nat) (xs : List ((Nat × Nat) × Nat)) : List Wr := xs.map fun x => (slotBit c l x.1.1 x.1.2, 32, some x.2)

/-- The chain slot's level (R166). -/
def chainLevel (c : Cmd) (s : Share) : Nat := slotsOf c s - 1

/-- The share hands its partial to a chain (R165, R171). -/
def inChain (c : Cmd) (s : Share) : Bool := decide (s.red ≠ []) || (domainOf c && decide (dsplitOf c = 2))

end Sys2Proof.Machine
end

