-- ==== Sys2Proof/Machine/OutStage.lean ====
section
/-! DEFINITION. The output stage (R125 to R140, R144, R147, R613), fused elements (R180 to R182), fills (R249), top-k lists (R175 to
R179), importance maps (R240 to R244) and scatter tables (R216 to R224). -/

namespace Sys2Proof.Machine

/-! ## Steps 1 to 4 (R129, R133, R134) -/

/-- The integer path (R133). -/
def intPath (c : Cmd) : Bool :=
  !mFp c && decide (mAstK c ≠ 2) && decide (mWstK c ≠ 2) && decide (mSc c ≠ 2) && decide (mOK c = 0) && (decide (mFuse c = 0) || decide (mFuseFmt c ≤ 2))

/-- Rounding after a step: none on the integer path. -/
def stepRnd (c : Cmd) (x : Fl) : Fl := if intPath c then x else rnd32 (evOf c) x

/-- sa and sw_c as values, with 1 when the stored value is not finite (R130, R132). -/
def saVal (c : Cmd) (w : Nat) : Fl × Nat := if mAstK c = 2 then finite fp16 (flDecode fp16 (bits 15 0 w)) else (flOne, 0)
def swVal (d : Device) (c : Cmd) (a ch : Nat) : Fl × Nat :=
  if mWstK c = 2 then finite fp16 (flDecode fp16 (halfAt d a (mWst c) ch)) else (flOne, 0)

/-- g ≠ 1. -/
def notOne (g : Fl) : Bool := !(flLe g flOne && flLe flOne g)

/-- A field of the path: an s32, or FP32 with 1 when it is not finite (R125, R613). -/
def pathField (c : Cmd) (w : Nat) : Fl × Nat := if intPath c then (flInt (signed 32 w), 0) else finite fp32 (flDecode fp32 w)

/-- Step 1 (R129). -/
def step1 (c : Cmd) (sumw y : Nat) : Fl :=
  let z := mAzp c * signed 32 sumw
  if mFp c then (if mAzp c = 0 then flDecode fp32 y else rnd32 (evOf c) (flAdd (flDecode fp32 y) (flInt (-z))))
  else stepRnd c (flInt (signed 32 y - z))

/-- Step 2. -/
def step2 (c : Cmd) (g bias v : Fl) : Fl :=
  if intPath c then flAdd v bias
  else rnd32 (evOf c) (flAdd v (if notOne g then rnd32 (evOf c) (flDiv bias g) else bias))

/-- Step 3. -/
def step3 (c : Cmd) (g mult : Fl) (shift : Nat) (v : Fl) : Fl :=
  if intPath c then flMul (flMul v mult) (.fin false 1 (2 ^ shift))
  else
    let v := rnd32 (evOf c) (flMul v mult)
    if notOne g then rnd32 (evOf c) (flMul v g) else v

/-- The fused element of an output, with 1 when it is not finite (R180, R282, R613). -/
def fuseVal (d : Device) (c : Cmd) (a : Nat) (sn : Snap) (j ch : Nat) : Fl × Nat :=
  let w := rowBits d a (fuseBit c (lstNat sn) j ch).toNat (fuseBits c)
  match mFuseFmt c with
  | 0 => (flInt (signed 8 w), 0)
  | 1 => (flInt (signed 16 w), 0)
  | 2 => (flInt (signed 32 w), 0)
  | 3 => finite fp16 (flDecode fp16 w)
  | _ => finite fp32 (flDecode fp32 w)

/-- Step 4. -/
def step4 (c : Cmd) (f v : Fl) : Fl := stepRnd c (if mFuse c = 1 then flAdd v f else flMul v f)

/-- Steps 1 to 4 of an output with full-width value y: v, and 1 when a parameter was not finite (R134, R613). A predictor stops after
step 3 (R240). -/
def steps (d : Device) (c : Cmd) (a : Nat) (sn : Snap) (g : Fl) (j ch y : Nat) : Fl × Nat :=
  let e := entryWord d c a ch
  let (mult, n1) := pathField c (e 0)
  let (bias, n2) := pathField c (e 2)
  let v := step2 c g bias (step1 c (e 1) y)
  let r3 := step3 c g mult (bits 5 0 (e 3))
  if mFuse c = 0 then (r3 v, b2n (decide (0 < n1 + n2)))
  else
    let (f, n3) := fuseVal d c a sn j ch
    (if mFusePos c = 0 then r3 (step4 c f v) else step4 c f (r3 v), b2n (decide (0 < n1 + n2 + n3)))

/-! ## Steps 5 to 7 (R136, R137, R144) -/

/-- The floating format of the output. -/
def outFmt (c : Cmd) : Fmt := kindFmt (mOK c)

/-- An output before it is written: the captured value, the container's bits, the value offered to a list with its word, whether
it is clipped, and saturations counted. -/
structure OutVal where
  x : Fl
  bits : Nat
  num : Fl
  word : Nat
  clipped : Bool
  sat : Nat
  deriving DecidableEq, Repr

/-- The output zero point of an entry. -/
def outZp (d : Device) (c : Cmd) (a ch : Nat) : Int := signed 16 (bits 31 16 (entryWord d c a ch 3))

/-- A clamp of an integer output: a bound outside the range has no effect (R137). -/
def clampInt (lo hi : Int) (cl ch : Int) (q : Int) : Int :=
  let q := if q < cl ∧ lo ≤ cl ∧ cl ≤ hi then cl else q
  if ch < q ∧ lo ≤ ch ∧ ch ≤ hi then ch else q

/-- An integer output (R136, R137). -/
def outInt (c : Cmd) (zp : Int) (s : Nat) (en : Bool) (cl ch : Int) (x : Fl) : Int × Bool :=
  let lo := loOf (mPo c) (mOS c)
  let hi := hiOf (mPo c) (mOS c)
  let z := if mSc c = 2 then flDiv x (flDecode fp16 s) else x
  let (q, clipped) : Int × Bool := match z with
    | .inf true => (lo, true)
    | .inf false => (hi, true)
    | z =>
      let q := roundQ (evOf c) (flNum z).1 (flNum z).2 + (if mSc c = 2 then 0 else zp)
      (clip lo hi q, decide (clip lo hi q ≠ q))
  (if en then clampInt lo hi cl ch q else q, clipped)

/-- A bound of a floating clamp in the output's format, rounded to the inside: the bits of the nearest value not beyond it
(R137). `up` rounds up. -/
def boundBits (f : Fmt) (up : Bool) (b : Fl) : Nat :=
  let (w, _) := flSat f false b
  let v := flDecode f w
  let mag := w % 2 ^ (f.prec - 1 + f.ebits)
  let neg := bit (f.prec - 1 + f.ebits) w
  if up && flLt v b then (if neg then signBit f (decide (mag ≠ 1)) + (mag - 1) else mag + 1)
  else if !up && flLt b v then (if neg then signBit f true + (mag + 1) else if mag = 0 then signBit f true + 1 else mag - 1)
  else w

/-- The bound is a number that the output format's range holds. -/
def inRange (f : Fmt) (b : Fl) : Bool :=
  match b with
  | .fin _ n e => decide (n * (flNum (flDecode f (maxBits f))).2 ≤ (flNum (flDecode f (maxBits f))).1.natAbs * e)
  | _ => false

/-- A clamp of a floating output: min(max(q, CLAMP_LO), CLAMP_HI) by exact values, and the bound that replaces q rounded to the
inside (R137). -/
def clampFl (f : Fmt) (cl ch : Fl) (w : Nat) : Nat :=
  let q := flDecode f w
  let low := inRange f cl && flLt q cl
  if inRange f ch && flLt ch (if low then cl else q) then boundBits f false ch
  else if low then boundBits f true cl else w

/-- Steps 5 to 7 of an output (R136, R137). -/
def requant (d : Device) (c : Cmd) (a ch : Nat) (v : Fl) (k : Nat) : OutVal :=
  let nan := decide (v = .nan)
  let x := if nan then flZero else v
  let e4 := entryWord d c a ch 4
  let en := bit 16 (entryWord d c a ch 5)
  if mOK c = 0 then
    let (q, cp) := outInt c (outZp d c a ch) (cmdScale d c) en (signed 16 (bits 15 0 e4)) (signed 16 (bits 31 16 e4)) x
    { x := x, bits := unsigned (if mPo c = 32 then 32 else container (mPo c)) q, num := flInt q, word := unsigned 32 q, clipped := cp,
      sat := k + b2n nan + b2n cp }
  else
    let (w, cp) := flSat (outFmt c) (evOf c) x
    let w := if en then clampFl (outFmt c) (flDecode fp16 (bits 15 0 e4)) (flDecode fp16 (bits 31 16 e4)) w else w
    { x := x, bits := w, num := flDecode (outFmt c) w, word := (flSat fp32 (evOf c) (flDecode (outFmt c) w)).1, clipped := cp,
      sat := k + b2n nan + b2n cp }

/-- The magnitude that step 7 captures, FP16 bits (R144). -/
def captured (c : Cmd) (x : Fl) : Nat := (flSat fp16 (evOf c) (flAbs x)).1

/-- The bits that a skipped output is filled with; none leaves the element (R249). -/
def fillBits (d : Device) (c : Cmd) (a ch : Nat) : Option Nat :=
  match mFill c with
  | 0 => some (if mOK c = 0 ∧ mSc c ≠ 2 then unsigned (outBits c) (outZp d c a ch) else 0)
  | 1 => some (wsWord d a (mGp c) % 2 ^ outBits c)
  | _ => none

/-! ## Top-k lists (R175 to R179) -/

/-- A record of a list: index, value, and the value's word. -/
abbrev TkRec := Nat × Fl × Nat

/-- The first of two records in a list's order (R176). -/
def tkBefore (x y : TkRec) : Bool := flLt y.2.1 x.2.1 || (!flLt x.2.1 y.2.1 && decide (x.1 < y.1))

/-- A record put into a list in order. -/
def tkInsert (x : TkRec) : List TkRec → List TkRec
  | [] => [x]
  | y :: r => if tkBefore x y then x :: y :: r else y :: tkInsert x r

/-- A record offered to a list of at most k. -/
def tkOffer (k : Nat) (l : List TkRec) (x : TkRec) : List TkRec := (tkInsert x l).take k

/-- A list's words (R177). -/
def tkWords (k : Nat) (l : List TkRec) : List Nat :=
  (l.flatMap fun x => [x.1, x.2.2]) ++ (List.replicate (k - l.length) [0xFFFFFFFF, 0]).flatten

/-- The value of a list's word (R177). -/
def tkVal (c : Cmd) (w : Nat) : Fl :=
  if mOK c = 0 then (if mOS c then flInt (signed 32 w) else flInt w) else flDecode fp32 w

/-- A channel's list as its array's word store holds it. -/
def tkRead (d : Device) (c : Cmd) (a cs : Nat) : List TkRec :=
  (List.range (mTopk c)).filterMap fun r =>
    let i := wsWord d a (mTk c + cs * 2 * mTopk c + 2 * r)
    let w := wsWord d a (mTk c + cs * 2 * mTopk c + 2 * r + 1)
    if i = 0xFFFFFFFF then none else some (i, tkVal c w, w)

/-- A channel's list written. -/
def tkWrite (c : Cmd) (a cs : Nat) (l : List TkRec) (d : Device) : Device :=
  (tkWords (mTopk c) l).zipIdx.foldl (fun d x => putWord a (mTk c + cs * 2 * mTopk c + x.2) x.1 d) d

/-! ## The outputs of a tile group -/

/-- The distinct numbers of a list, rising. -/
def distinct (l : List Nat) : List Nat := l.foldl (fun acc k => nsInsert k acc) []

/-- The outputs of a group that are computed: (entry, position, channel, full-width value) (R304). -/
def liveCells (c : Cmd) (s : Share) (g : Nat) (sums : List ((Nat × Nat) × Nat)) : List (Nat × Nat × Nat × Nat) :=
  let ps := realPos c s g
  sums.filterMap fun x => (ps.find? fun p => decide (p.1 = x.1.1)).map fun p => (x.1.1, p.2, x.1.2, x.2)

/-- OUT of a pair. -/
def siteOf (sn : Snap) (j : Nat) : Nat := match sn.pairs.find? fun x => decide (x.1 = j) with | some x => x.2.2 | none => 0

/-- Bit address of a MERGE table entry (R219). -/
def mergeBit (c : Cmd) (o cc : Nat) : Nat := mTable c * 4096 + (o * pCuse c + cc) * 32

/-- Failing units that the output stage of a group meets among its scales, fill word, fused elements, lists and table rows (R132,
R225, R253). -/
def stageFaults (d : Device) (c : Cmd) (a : Nat) (s : Share) (dr : Drain) (cells : List (Nat × Nat × Nat × Nat)) : Faults :=
  let ch := groupCh c s dr.group
  if d.merr.parity = [] then []
  else
    (if mWstK c = 2 then wordsParity d a (mWst c + ch.1 / 2) ((ch.1 + ch.2 - 1) / 2 - ch.1 / 2 + 1) else []) ++
    (if isPred c ∨ mFill c = 1 then wordsParity d a (mGp c) 1 else []) ++
    (if mFuse c = 0 then [] else cells.flatMap fun x =>
      rowsParity d a (fuseBit c (lstNat dr.snap) x.2.1 (ch.1 + x.2.2.1)).toNat (fuseBits c)) ++
    (if mTopk c ≠ 0 ∧ mTkAxis c = 0 then wordsParity d a (mTk c + (ch.1 - s.ch.1) * 2 * mTopk c) (ch.2 * 2 * mTopk c) else []) ++
    (if mScat c = 1 then cells.flatMap fun x => rowsParity d a (mergeBit c (siteOf dr.snap x.2.1) x.2.2.1) 32 else [])

/-- A cell of a group with its outcome: none where it is skipped (R245). -/
abbrev CellOut := (Nat × Nat × Nat × Nat) × Option OutVal

/-- The outcome of a cell. -/
def cellOut (d : Device) (c : Cmd) (a : Nat) (s : Share) (dr : Drain) (sa : Nat) (x : Nat × Nat × Nat × Nat) : CellOut :=
  if dr.snap.gate.contains (x.1, x.2.2.1) then (x, none)
  else
    let ch := (groupCh c s dr.group).1 + x.2.2.1
    let g := rnd32 (evOf c) (flMul (saVal c sa).1 (swVal d c a ch).1)
    let (v, k) := steps d c a dr.snap g x.2.1 ch x.2.2.2
    (x, some (requant d c a ch v k))

/-- The plain writes of a group (R281, R249). -/
def plainWrites (d : Device) (c : Cmd) (a : Nat) (s : Share) (dr : Drain) (outs : List CellOut) : List Wr :=
  let c0 := (groupCh c s dr.group).1
  outs.map fun x =>
    let ch := c0 + x.1.2.2.1
    let b := (oBit c (posPart c (lstNat dr.snap) 2 x.1.2.1) ch).toNat
    (b, outBits c, match x.2 with | some o => some o.bits | none => fillBits d c a ch)

/-- The outcomes of a group. A drain takes its positions one after another: the fused elements of a position are read before its
outputs are written, and after those of the positions before it (R90, R181; log 51). -/
def cellOuts (d : Device) (c : Cmd) (a : Nat) (s : Share) (dr : Drain) (sa : Nat) (cells : List (Nat × Nat × Nat × Nat)) : List CellOut :=
  if mFuse c = 0 ∨ mTopk c ≠ 0 then cells.map (cellOut d c a s dr sa)
  else ((distinct (cells.map (·.1))).foldl (fun (r : Device × List CellOut) e =>
    let os := (cells.filter fun x => decide (x.1 = e)).map (cellOut r.1 c a s dr sa)
    (applyWrites a (plainWrites r.1 c a s dr os) r.1, r.2 ++ os)) (d, [])).2

/-- The lists of a group's positions as writes (R178). -/
def axis1Writes (c : Cmd) (s : Share) (dr : Drain) (outs : List CellOut) : List Wr :=
  (realPos c s dr.group).flatMap fun p =>
    let l := outs.foldl (fun l x => if x.1.1 = p.1 then
      (match x.2 with | some o => tkOffer (mTopk c) l ((groupCh c s dr.group).1 + x.1.2.2.1, o.num, o.word) | none => l) else l) []
    let b := (oBit c (posPart c (lstNat dr.snap) 2 p.2) 0).toNat
    (tkWords (mTopk c) l).zipIdx.map fun w => (b + 32 * w.2, 32, some w.1)

/-- The lists of a group's channels updated in the word store (R179). -/
def axis0Update (c : Cmd) (a : Nat) (s : Share) (dr : Drain) (outs : List CellOut) (d : Device) : Device :=
  let ch := groupCh c s dr.group
  (List.range ch.2).foldl (fun d cc =>
    let cs := ch.1 + cc - s.ch.1
    let l := outs.foldl (fun l x => if x.1.2.2.1 = cc then
      (match x.2 with | some o => tkOffer (mTopk c) l (x.1.2.1, o.num, o.word) | none => l) else l) (tkRead d c a cs)
    tkWrite c a cs l d) d

/-- v ≥ θ, or |v| ≥ θ (R240; log 31). -/
def important (c : Cmd) (theta v : Fl) : Bool :=
  match v, theta with
  | .nan, _ => true
  | _, .nan => Config.nanTheta
  | v, t => flLe t (if mCmp c = 1 then flAbs v else v)

/-- A predictor's bits of a group written into its map (R240, R242, R244). -/
def predict (c : Cmd) (a : Nat) (s : Share) (dr : Drain) (sa : Nat) (cells : List (Nat × Nat × Nat × Nat)) (d : Device) : Device × Nat :=
  let c0 := (groupCh c s dr.group).1
  let theta := flDecode fp32 (wsWord d a (mGp c))
  let hits := cells.filterMap fun x =>
    let ch := c0 + x.2.2.1
    let g := rnd32 (evOf c) (flMul (saVal c sa).1 (swVal d c a ch).1)
    let (v, k) := steps d c a dr.snap g x.2.1 ch x.2.2.2
    if dr.snap.gate.contains (x.1, x.2.2.1) then none
    else some (mapBit s x.2.1 ch, important c theta v, k)
  let d := hits.foldl (fun d h => if h.2.1 then
      let w := mImap c + 2 + h.1 / 32
      putWord a w (wsWord d a w ||| 2 ^ (h.1 % 32)) d
    else d) d
  (d, (hits.map (·.2.2)).sum)

/-! ## Scatter (R216 to R224) -/

/-- The sums of a MERGE tile, one for each distinct site and channel, in ascending pair order; and saturations (R220). -/
def mergeSums (c : Cmd) (sn : Snap) (cells : List (Nat × Nat × Nat × Nat)) : List (Nat × Nat × Nat) × Nat :=
  let site : Nat → Nat := siteOf sn
  let sites := distinct (cells.map fun x => site x.2.1)
  let ccs := distinct (cells.map fun x => x.2.2.1)
  let xs := sites.flatMap fun (o : Nat) => ccs.map fun (cc : Nat) =>
    let ys := (cells.filter fun x => decide (site x.2.1 = o) && decide (x.2.2.1 = cc)).map fun x => x.2.2.2
    match ys with
    | [] => (o, cc, 0, 0)
    | y :: r => let (w, k) := r.foldl (fun (z : Nat × Nat) y => let (w, k) := addFull (mFp c) (evOf c) z.1 y; (w, z.2 + k)) (y, 0)
      (o, cc, w, k)
  (xs.map fun x => (x.1, x.2.1, x.2.2.1), (xs.map fun x => x.2.2.2).sum)

/-- One tile's additions into a MERGE table, whose rows the group has checked, and the saturations (R219, R220). -/
def mergeTile (c : Cmd) (a : Nat) (sn : Snap) (cells : List (Nat × Nat × Nat × Nat)) (d : Device) : Device × Nat :=
  let (xs, k0) := mergeSums c sn cells
  let ws := xs.map fun x =>
    let (w, k) := addFull (mFp c) (evOf c) (rowBits d a (mergeBit c x.1 x.2.1) 32) x.2.2
    (x, w, k)
  ((commit a false (ws.map fun x => (mergeBit c x.1.1 x.1.2.1, 32, some x.2.1)) d).1, k0 + (ws.map (·.2.2)).sum)

/-- The lines that one position of a BANKED drain issues, in ascending address, each with the additions of its entries (R221,
R222). -/
def bankLines (c : Cmd) (ss : List Share) (a site : Nat) (tile : Nat × Nat) (ys : List (Nat × Nat)) : List ScatLine :=
  let (lo, cb) := bandCh ss (bandOf a)
  let at' (ch : Nat) : Nat := mTable c * 64 + (site * cb + (ch - lo)) * 4
  let lines := distinct (ys.map fun y => at' y.1 / 64)
  lines.map fun l =>
    ScatLine.mk l ((ys.filter fun y => decide (at' y.1 / 64 = l)).map fun y => (at' y.1 % 64 / 4, signed 32 y.2)) a tile

/-- A line retires: a read-add-write of every entry that it carries, each saturating (R162, R223). A line that fails its parity check
is counted and stays (R253, R605): the answer names the tile. -/
def retireLine (b : Nat) (x : ScatLine) (d : Device) : Device × Option (Nat × Nat) :=
  let l := bandAddr b (64 * x.line)
  if (firstBad d l 64).isSome then (countParity l d, some x.tile)
  else
    let part := bandOwner d b
    (x.adds.foldl (fun d e =>
      let z := signed 32 (leNat (bytesAt d (l + 4 * e.1) 4)) + e.2
      let q := clip (-2147483648) 2147483647 z
      satCount x.array part (b2n (decide (q ≠ z))) (storeBytes (l + 4 * e.1) (leBytes 4 (unsigned 32 q)) d))
        (perfOne b 0x11 (some part) 1 d), none)

/-- A bank's queue. -/
def bankOf (d : Device) (b k : Nat) : List ScatLine := tabGet [] (64 * b + k) d.scat
def setBank (b k : Nat) (l : List ScatLine) (d : Device) : Device := { d with scat := tabSet [] (64 * b + k) l d.scat }

/-- The oldest line of a bank retires (R223). -/
def retireBank (b k : Nat) (d : Device) : Device × Option (Nat × Nat) :=
  match bankOf d b k with
  | [] => (d, none)
  | x :: r => retireLine b x (setBank b k r d)

/-- The first of two failures. -/
def orElse (x y : Option (Nat × Nat)) : Option (Nat × Nat) := match x with | some t => some t | none => y

/-- A line is issued; one that finds its queue full stalls until the bank has retired its oldest line (R223). -/
def issueLine (b : Nat) (x : ScatLine) (r : Device × Option (Nat × Nat)) : Device × Option (Nat × Nat) :=
  let k := x.line % 64
  let (d, f) := if 16 ≤ (bankOf r.1 b k).length then
      retireBank b k (perfOne b 0x12 (some (bandOwner r.1 b)) 1 (fsat (oScatterStall b) fScatterStallStalls 1 r.1))
    else (r.1, none)
  (setBank b k (bankOf d b k ++ [x]) d, orElse r.2 f)

/-- Every line of a band's queues retires. -/
def flushBand (b : Nat) (r : Device × Option (Nat × Nat)) : Device × Option (Nat × Nat) :=
  (List.range 64).foldl (fun r k => (List.range (bankOf r.1 b k).length).foldl (fun r _ =>
    let (d, f) := retireBank b k r.1
    (d, orElse r.2 f)) r) r

end Sys2Proof.Machine
end

