-- ==== Sys2Proof/Machine/Budget.lean ====
section
/-! DEFINITION. Cycle budgets of matrix commands (R74, R78 to R83, R158, R167, R172, R173, R179, R188, R202, R220, R224, R238, R241,
R289, R331 to R334, R608). All cycles are ACLK cycles of 1.6 GHz. -/

namespace Sys2Proof.Machine

/-! ## Rows of a pass at their plan value -/

/-- Rows of 512 bytes that a position's slice counts when a list, a pair list or a block map selects it (R608). -/
def spanRows (s g : Nat) : Nat := ceilDiv (s + 512 - g) 512

/-- Distinct rows of ranges of bits. -/
def rowSet (rs : List (Nat × Nat)) : Nat :=
  (distinct (rs.flatMap fun r => (List.range ((r.1 + r.2 - 1) / 4096 - r.1 / 4096 + 1)).map (· + r.1 / 4096))).length

/-- A(i) of a group's pass (R72, R608). -/
def planA (c : Cmd) (s : Share) (g : Nat) (p : Pass) : Nat :=
  let js := groupPos c s g
  let k := (p.blocks.map fun b => min 32 (pK c - 32 * b)).sum
  if mASp c ≠ 0 then js.length * spanRows (p.blocks.length * 4 * mCa c) (4 * mCa c)
  else if bit 0 (pListOps c) || decide (mScat c ≠ 0) then js.length * spanRows (ceilDiv (k * mCa c) 8) (4 * mCa c)
  else rowSet (js.flatMap fun x => p.blocks.map fun b =>
    ((aBit c (posPart c id 0 x.2) (32 * b)).toNat, min 32 (pK c - 32 * b) * mCa c))

/-- Rw(i) of n channels (R74, R212, R608). -/
def planRw (c : Cmd) (n : Nat) : Nat :=
  if mWSp c ≠ 0 then n * spanRows (64 * mCw c) (4 * mCw c) else ceilDiv (imageBytes c n) 512

/-- Lw(i) of n channels (R74, R237). -/
def planLw (c : Cmd) (n : Nat) : Nat := if isStoch c then n else ceilDiv (n * mPwe c) 8

/-- Cycles in which one position of a pass is driven (R78, R238, R241). -/
def posCycles (c : Cmd) : Nat := if isStoch c then mLs c else if isTop c then mH c else if mBin c then 1 else mPa c

/-- A pass of n positions that reads A rows, with the channels of the next pass of the command, if there is one (R78, R238). -/
def passTime (c : Cmd) (n a : Nat) (next : Option Nat) : Nat :=
  let rw := match next with | some k => planRw c k | none => 0
  let lw := match next with | some k => planLw c k | none => 0
  if isStoch c then max (n * posCycles c) (2 * a) + 2 * max rw lw
  else max (n * posCycles c) (max (2 * (a + rw)) (2 * lw))

/-- The first load and the feed of a timeline (R81). -/
def prologue (c : Cmd) (n : Nat) : Nat := 2 * max (planRw c n) (planLw c n) + 6

/-! ## Drains -/

/-- Trailing ones, and ones, of a number of 16 bits. -/
def trailingOnes (g : Nat) : Nat := ((List.range 16).find? fun k => !bit k g).getD 16
def popCount (g : Nat) : Nat := (List.range 32).countP fun k => bit k g

/-- Overlapping or adjoining intervals merged; the list rises by its first bounds. -/
def mergeIv : List (Nat × Nat) → List (Nat × Nat)
  | [] => []
  | x :: r => match mergeIv r with
    | [] => [x]
    | y :: t => if y.1 ≤ x.2 then (x.1, max x.2 y.2) :: t else x :: y :: t

/-- Rows that hold a partial 64-byte segment of byte ranges (R289). -/
def partialRows (ivs : List (Nat × Nat)) : Nat :=
  let ms := mergeIv (ivs.mergeSort fun x y => decide (x.1 ≤ y.1))
  (distinct (ms.flatMap fun m => (if m.1 % 64 = 0 then [] else [m.1 / 512]) ++ (if m.2 % 64 = 0 then [] else [(m.2 - 1) / 512]))).length

/-- Byte ranges of a slot in a drain of a group (R166). -/
def slotIvs (c : Cmd) (s : Share) (g l : Nat) : List (Nat × Nat) :=
  (groupPos c s g).map fun x => (slotBit c l x.1 0 / 8, slotBit c l x.1 (groupCh c s g).2 / 8)

/-- Byte ranges of the destination of a group, a coordinate list taken as the digits themselves (log 32). -/
def outIvs (c : Cmd) (s : Share) (g : Nat) : List (Nat × Nat) :=
  let ch := groupCh c s g
  (groupPos c s g).map fun x =>
    let b := (oBit c (posPart c id 2 x.2) (if mTopk c = 0 then ch.1 else 0)).toNat
    let n := if mTopk c = 0 then ch.2 * outBits c else 64 * mTopk c
    (b / 8, ceilDiv (b + n) 8)

/-- The segment is left open: it has no drain (R184). -/
def leftOpen (c : Cmd) (i n : Nat) : Bool := mKeep c && decide (i + 1 = n)

/-- Bits that a position of a drain moves through the output port (R79, R167, R250): segment i of n. -/
def drainBits (c : Cmd) (s : Share) (ch i n : Nat) : Nat :=
  if i + 1 < n then 32 * ch * (trailingOnes i + 1)
  else
    32 * ch * popCount (n - 1) +
    (if inChain c s then 32 * ch
     else if isPred c then 0
     else (if mFuse c = 0 then 0 else ch * fuseBits c) + (if mFill c = 2 then ch * outBits c else 0) +
       (if mTopk c = 0 then ch * outBits c else if mTkAxis c = 1 then 64 * mTopk c else 0))

/-- Bytes of the partial rows of a drain (R289). -/
def drainExtra (c : Cmd) (s : Share) (g i n : Nat) : Nat :=
  512 * (if i + 1 < n then partialRows (slotIvs c s g (trailingOnes i))
    else if inChain c s then partialRows (slotIvs c s g (chainLevel c s))
    else if isPred c ∨ mFill c = 2 ∨ (mTopk c ≠ 0 ∧ mTkAxis c = 0) then 0
    else partialRows (outIvs c s g))

/-- Most lines that any site gives one position of n channels from offset k within the band's share of cb (R222). -/
def maxLines (c : Cmd) (cb k n : Nat) : Nat :=
  ((List.range (min 16 (mOutExt c))).map fun site =>
    let b := (site * cb + k) * 4
    (b + 4 * n - 1) / 64 - b / 64 + 1).foldl max 0

/-- D of a drain (R79, R220, R224); 0 for the segment that ACC_KEEP leaves undrained (R184; log 84). -/
def drainTime (c : Cmd) (ss : List Share) (s : Share) (g i n : Nat) : Nat :=
  let ps := (groupPos c s g).length
  let ch := groupCh c s g
  if leftOpen c i n then 0
  else if i + 1 = n ∧ mScat c = 1 then ((groupTiles c s g).map fun t => t.2 + 2 * ceilDiv (t.2 * 8 * pCuse c) 512).sum
  else if i + 1 = n ∧ mScat c = 2 then
    let (lo, cb) := bandCh ss (bandOf s.arr)
    2 * (ss.countP fun t => decide (bandOf t.arr = bandOf s.arr)) * ps * maxLines c cb (ch.1 - lo) ch.2
  else max ps (2 * ceilDiv (ps * drainBits c s ch.2 i n + 8 * drainExtra c s g i n) 4096)

/-! ## The timeline of an array (R81) -/

/-- One tile group: t and drain_end after it. -/
def groupTime (c : Cmd) (ss : List Share) (s : Share) (g : Nat) (x : Nat × Nat) : Nat × Nat :=
  let ps := planPasses c s
  let n := segments c ps.length
  let np := (groupPos c s g).length
  let nextCh (k : Nat) : Option Nat :=
    if k + 1 < ps.length then some (groupCh c s g).2
    else if g + 1 < groupsOf c s then some (groupCh c s (g + 1)).2 else none
  (List.range n).foldl (fun x i =>
    let t := (List.range (min (interval c) (ps.length - i * interval c))).foldl (fun t m =>
      let k := i * interval c + m
      t + passTime c np (match ps[k]? with | some p => planA c s g p | none => 0) (nextCh k)) x.1
    let t := if t + 4 < x.2 then x.2 - 4 else t
    (t, t + 4 + drainTime c ss s g i n)) x

/-- T_OUT (R77, R224). -/
def tOut (c : Cmd) : Nat := if mScat c = 2 then 32 else 12

/-- The ends of an array's tile groups: drain_end + T_OUT of each final drain. -/
def arrayTimes (c : Cmd) (ss : List Share) (s : Share) : List Nat :=
  ((List.range (groupsOf c s)).foldl (fun (acc : (Nat × Nat) × List Nat) g =>
    let x := groupTime c ss s g acc.1
    (x, acc.2 ++ [x.2 + tOut c])) ((prologue c (groupCh c s 0).2, 0), [])).2

/-! ## Divisions (R333, R334) -/

/-- A hop's cycles at a level of division: 1 to 4 within the device, 5 between devices (R35, R173, R333). -/
def hopCycles (c : Cmd) (l : Nat) : Nat :=
  let bytes := mT c * mP c * pCuse c * 4
  match l with
  | 1 => ceilDiv bytes 256 + 32
  | 2 => ceilDiv bytes 256 + 48
  | 3 => ceilDiv bytes 40 + 96
  | 4 => ceilDiv bytes 20 + 192
  | _ => ceilDiv (bytes * 16) 900 + 640

/-- out(g) (R173). -/
def chainOut (c : Cmd) : Nat := 2 * ceilDiv (mT c * mP c * pCuse c * (elemBits c + (if mFuse c = 0 then 0 else fuseBits c))) 4096

/-- One tile group of a chain: the members' fin values, with free and shift, and the times of the sum and of the last hop's
start (R334). -/
def chainGroup (hop : Nat) (fs free shift : List Nat) : (List Nat × List Nat) × Nat × Nat :=
  let r := (List.range fs.length).foldl (fun (r : (List Nat × List Nat) × Nat × Nat) m =>
    let ((free, shift), s, start) := r
    let f0 := fs.getD m 0 + shift.getD m 0
    let wait := free.getD m 0 - f0
    let shift := shift.set m (shift.getD m 0 + wait)
    let f := f0 + wait
    if m = 0 then ((free, shift), f, start)
    else
      let start := max s f
      let s := start + hop
      ((free.set (m - 1) s, shift), s, start)) ((free, shift), 0, 0)
  r

/-- The chain of a RED division: for each tile group the time at which the last member holds the sum, or at which its outputs
are written (R334). -/
def chainTimes (c : Cmd) (output : Bool) (l : Nat) (ms : List (List Nat)) : List Nat :=
  let n := ms.length
  let groups := ((ms.map List.length).foldl max 0)
  ((List.range groups).foldl (fun (acc : (List Nat × List Nat) × List Nat) g =>
    let ((free, shift), s, start) := chainGroup (hopCycles c l) (ms.map fun m => m.getD g 0) acc.1.1 acc.1.2
    let e := if output then max s (start + chainOut c) + 12 else s
    ((free.set (n - 1) e, shift), acc.2 ++ [e])) ((List.replicate n 0, List.replicate n 0), [])).2

/-- The larger of two lists of times, group by group. -/
def maxTimes (x y : List Nat) : List Nat := (List.range (max x.length y.length)).map fun k => max (x.getD k 0) (y.getD k 0)

/-- Times of the tile groups under a motif of level l. -/
def levelTimes (c : Cmd) (ss : List Share) (inRed : Bool) : Nat → Nat → Share → List Nat
  | 0, a, s => if emptyShare s then [] else arrayTimes c ss { s with arr := a }
  | l + 1, a, s =>
    let red := decide (splitAt c (l + 1) = 2)
    let ks := ((List.range (children (l + 1))).map fun j =>
      levelTimes c ss (inRed || red) l (a + chainAt (l + 1) j * arraysIn l) (divideBy (splitAt c (l + 1)) (children (l + 1)) j s)).filter
        fun t => decide (t ≠ [])
    if red then chainTimes c (!inRed) (l + 1) ks else ks.foldl maxTimes []

/-- The top-k term (R179, R333). -/
def topkTerm (c : Cmd) (ss : List Share) : Nat :=
  if mTopk c ≠ 0 ∧ mTkAxis c = 0 then
    (ss.map fun s =>
      ((ss.countP fun t => decide (t.ch = s.ch) && isLast ss t) - 1) * 2 * mTopk c * s.ch.2 + 2 * ceilDiv (s.ch.2 * mTopk c * 8) 512).foldl max 0
  else 0

/-- The budget of a MATMUL (R333); of an EMPTY one 0. -/
def matmulBudget (d : Device) (c : Cmd) : Nat :=
  if mReal c = 0 then 0
  else
    let a := (motifArrays (targetOf c)).1
    if domainOf c then
      let n := (members d c.part).length
      let ts := (List.range n).map fun j =>
        let s := partOfMember c n j
        let ss := sharesOf c s
        (levelTimes c ss (decide (dsplitOf c = 2)) 4 a s, topkTerm c ss)
      let ks := (ts.map (·.1)).filter fun t => decide (t ≠ [])
      (if dsplitOf c = 2 then chainTimes c true 5 ks else ks.foldl maxTimes []).foldl max 0 + (ts.map (·.2)).foldl max 0
    else
      let ss := shares d c
      (levelTimes c ss false (levelOf c) a (ownPart d c)).foldl max 0 + topkTerm c ss

/-- 2^31 ACLK (R336). -/
def budgetLimit : Nat := 2147483648

end Sys2Proof.Machine
end

