-- ==== Sys2Proof/Machine/Tiles.lean ====
section
/-! DEFINITION. The steps of an array: it starts tile groups (R168, R609), swaps weight latches and drives passes (R76, R86 to R89),
swaps accumulator sets (R80, R158), drains (R164, R167, R173, R174), and hands sums along chains (R171, R172). -/

namespace Sys2Proof.Machine

/-! ## Faults and stops (R37, R86, R87, R225, R226, R609) -/

/-- A running command is stopped, unless it is already; it will end so (R342). -/
def stopWith (id : Nat) (x : Done) (d : Device) : Device :=
  match cmdOf d id with
  | some c => if c.stop.isNone then setCmd { c with stop := some x } d else d
  | none => d

/-- The first tile of a group (R170, R286). -/
def groupTile (c : Cmd) (s : Share) (g : Nat) : Nat × Nat :=
  ((match groupPos c s g with | x :: _ => x.2 | [] => 0), (groupCh c s g).1)

/-- A command ends with a status naming the first tile of a group. -/
def stopTile (c : Cmd) (s : Share) (g st : Nat) (d : Device) : Device :=
  stopWith c.id { status := st, tilePos := (groupTile c s g).1, tileCh := (groupTile c s g).2 } d

/-- The counters of a fault (R253, SP_FAULTS). -/
def countFault (fs : Faults) (f : Nat × Nat) (d : Device) : Device :=
  match f.1 with
  | 1 => countParity f.2 d
  | 3 => if fs.contains (3, 0) then fsat oSpFaults fSpFaultsRange 1 d else d
  | 4 => fsat oSpFaults fSpFaultsPattern 1 d
  | _ => d

/-- A tile group has faults: the command stops with the first in order of R226. -/
def stopFaults (c : Cmd) (s : Share) (g : Nat) (fs : Faults) (d : Device) : Device :=
  match worst fs with
  | none => d
  | some f => countFault fs f (stopTile c s g (rankStatus f.1) d)

/-! ## Jobs -/

/-- The command that an array works for, stopped or not: the command, all its shares, the array's own, and its progress. -/
def jobOf (d : Device) (a : Nat) : Option (Cmd × List Share × Share × Prog) :=
  match (arrOf d a).prog with
  | none => none
  | some p =>
    match runningAs d p.id (· = 0x10) with
    | some c =>
      let ss := shares d c
      (ss.find? fun s => decide (s.arr = a)).map fun s => (c, ss, s, p)
    | none => none

/-- The same of an array whose stores answer: an array that is being substituted or cleared waits (R254, R453). -/
def jobAny (d : Device) (a : Nat) : Option (Cmd × List Share × Share × Prog) := if heldArray d a then none else jobOf d a

/-- The same of a command that has not been stopped. -/
def jobAt (d : Device) (a : Nat) : Option (Cmd × List Share × Share × Prog) := (jobAny d a).filter fun j => j.1.stop.isNone

/-- An array's progress replaced. -/
def setProg (a : Nat) (p : Prog) (d : Device) : Device := setArr a { arrOf d a with prog := some p } d

/-- The next group that is run, from g on (R305). -/
def nextGroup (c : Cmd) (s : Share) (g : Nat) : Nat :=
  ((List.range (groupsOf c s)).find? fun k => decide (g ≤ k) && !skipped c s k).getD (groupsOf c s)

/-- Tags drawn for a number of tiles (R529). -/
def drawTags (a : Nat) : Nat → Device → List Bool × Device
  | 0, d => ([], d)
  | n + 1, d =>
    let (t, d) := smpDraw a d
    let (ts, d) := drawTags a n d
    (t :: ts, d)

/-- Nothing kept: a tile group that starts from empty accumulators. -/
def noKept : Kept := ⟨0, 0, 0, 0, false, 0, 0, 0, 0, 0, 0⟩

/-- A group starts again with dense passes: what it had accumulated is discarded (R215). DESIGN CHOICE: λ_b, T_buf and the check of
rows keep the plan's segments, and the recomputation fills the levels that its own segments need; R165 speaks of the plan (log 85). -/
def restartDense (c : Cmd) (ss : List Share) (s : Share) (p : Prog) (d : Device) : Device :=
  let x := arrOf d s.arr
  let ps := densePasses c s
  let mine := match p.drain with | some dr => decide (dr.group = p.group) | none => false
  let (l, n, fs) := match ps with | q :: _ => loadOf d c s.arr s p.group p.snap q | [] => ({}, 0, [])
  let (k, act) := p.base.getD (noKept, {})
  let d := setArr s.arr { x with
    active := act, shadow := if mine then {} else x.shadow, latch := {}, latchShadow := latched l fs
    prog := some { p with ahead := none, passes := ps, pass := 0, seg := k.segPasses, segs := k.segDone, mask := k.fullMask, closed := false,
                          drain := if mine then none else p.drain } } d
  let d := fsat oSpFallbacks fSpFallbacksGroups 1 (satCount s.arr c.part n d)
  let d := match cmdOf d c.id with | some c => setCmd { c with fell := true } d | none => d
  if fs = [] then d
  else stopFaults c s p.group ((groupFaults d c ss s.arr s p.group p.snap p.mapOk ps).filter fun f => decide (f.1 ≠ 4)) d

/-- Faults found in a group take effect: a pattern fault alone, under DENSE_FALLBACK, restarts the group (R214, R215); any other
stops the command. -/
def faulted (c : Cmd) (ss : List Share) (s : Share) (found : Faults) (d : Device) : Device :=
  if found = [] then d
  else match (arrOf d s.arr).prog with
  | none => d
  | some p =>
    let all := groupFaults d c ss s.arr s p.group p.snap p.mapOk p.passes
    if mFallback c then
      if found.all fun f => decide (f.1 = 4) then restartDense c ss s p d
      else stopFaults c s p.group (all.filter fun f => decide (f.1 ≠ 4)) d
    else stopFaults c s p.group all d

/-- The entries and products of an accumulator set without those of skipped outputs, which are 0 (R245). -/
def ungated (c : Cmd) (gate : List (Nat × Nat)) (x : AccSet) : AccSet :=
  if gate = [] then x
  else
    let n := if splitPlanes c then 128 else 256
    { x with ent := x.ent.filter fun y => !gate.contains (y.1 / 512 % n, y.1 % 512 / mCols c)
             adds := x.adds.filter fun y => !gate.contains (y.1, y.2.1) }

/-- The load of the first pass of the group after the one whose last pass is being driven: the next tile's, which is then in the
shadow latches when that tile starts. A walked group loads only after its walk (R76, R202). -/
def loadAhead (d : Device) (c : Cmd) (s : Share) (p : Prog) : Option (Latches × Nat × Faults) :=
  if mSp c = 0 ∧ p.next < groupsOf c s then
    (planPasses c s).head?.map fun q => loadOf d c s.arr s p.next (snapOf d c s.arr s p.next p.mapOk) q
  else none

/-- An array starts tile group g of its share (R168, R201, R529, R609). What the load of its first pass found counts for this
group (R86). -/
def startGroup (c : Cmd) (ss : List Share) (s : Share) (p : Prog) (g : Nat) (d : Device) : Device :=
  let a := s.arr
  let sn := snapOf d c a s g p.mapOk
  let (ps, cp, fw) := groupPasses d c a s g sn
  let (l, n, fl) : Latches × Nat × Faults := match p.ahead, ps with
    | some fl, _ => ((arrOf d a).latchShadow, 0, fl)
    | none, q :: _ => loadOf d c a s g sn q
    | none, [] => ({}, 0, [])
  let found := listFaults d c a s g sn ++ (gates d c a s g p.mapOk).2 ++ entryFaults d c ss a s g ++ fw ++ fl
  let (tags, d) := drawTags a (groupTiles c s g).length d
  let (k, act) := p.base.getD (noKept, {})
  let q := { p with group := g, next := nextGroup c s (g + 1), passes := ps, pass := 0, seg := k.segPasses, segs := k.segDone,
                    mask := k.fullMask, closed := false, ahead := none, tags := tags, snap := sn, fetch := d.clk.time,
                    div := fget d oAclkCtrl fAclkCtrlDiv }
  let d := setArr a { arrOf d a with active := ungated c sn.gate act, latchShadow := latched l fl, prog := some q } d
  let d := satCount a c.part n d
  let d := if cp then perfArr a 0x09 (some c.part) ((shareBlocks c s).length - ((ps.map fun q => q.blocks.length).sum))
      (perfArr a 0x08 (some c.part) 1 d) else d
  faulted c ss s found d

/-! ## Preparing the arrays -/

/-- COMPLETED_TILES of an array, its band and its die start again (R37). -/
def zeroTiles (a : Nat) (d : Device) : Device :=
  { d with tiles := tabSet 0 a 0 (tabSet 0 (192 + bandOf a) 0 (tabSet 0 (204 + dieOf a) 0 d.tiles)) }

/-- The failure of the checks that precede the command's first tile: sa (R132) and the tap table (R234, R235). -/
def earlyFault (d : Device) (c : Cmd) (ss : List Share) : Option (Done × Device) :=
  let saBad := if mAstK c = 2 ∧ mScat c = 0 ∧ mKeep c = false then
      ss.findSome? fun s => if isLast ss s then
        (match wordsParity d s.arr (mAst c) 1 with
         | f :: _ => some (refusedWith stParity, countParity f.2 d)
         | [] => if bits 31 16 (wsWord d s.arr (mAst c)) ≠ 0 then some (refusedWith stMalformed, d) else none)
      else none
    else none
  match saBad with
  | some r => some r
  | none => if isStoch c then
      ss.findSome? fun s =>
        match wordsParity d s.arr (mTap c) 512 with
        | f :: _ => some (refusedWith stParity, countParity f.2 d)
        | [] =>
          let rows := min 512 (pK c - 512 * s.ps.1)
          if (List.range rows).any fun r =>
            let w := wsWord d s.arr (mTap c + r)
            decide (16 ≤ bits 4 0 w) || decide (bits 20 16 w < 16)
          then some (refusedWith stStream, fsat (oStaleMaps c.part) fStaleMapsCorrelation 1 d) else none
    else none

/-- The map of an array is valid for the command (R247). -/
def mapValid (d : Device) (c : Cmd) (a : Nat) : Bool :=
  bit 31 (wsWord d a (mImap c + 1)) && decide (wsWord d a (mImap c) = stepOf c)

/-- An array is prepared for its share: its kept accumulation is taken or discarded (R185, R186), a predictor's map and top-k lists
are emptied (R179, R244). -/
def initArr (c : Cmd) (ss : List Share) (s : Share) (d : Device) : Device :=
  let a := s.arr
  let x := arrOf d a
  let p : Prog := {
    id := c.id, group := 0, passes := [], closed := true, next := nextGroup c s 0
    mapOk := decide (2 ≤ mGate c) && mapValid d c a
    taps := if isStoch c then (List.range 512).map fun r => wsWord d a (mTap c + r) else []
    sa := if mAstK c = 2 then wsWord d a (mAst c) else 0 }
  let base := match mCont c, c.retry, x.prog with
    | false, _, _ => none
    | true, some _, some q => q.base
    | true, _, _ => x.kept.map fun k => (k, x.active)
  let y := { x with kept := none, active := {}, shadow := {}, latch := {}, latchShadow := {}, prog := some { p with base := base } }
  let d := zeroTiles a (setArr a y d)
  let d := if mAstK c = 2 ∧ isLast ss s ∧ mScat c = 0 ∧ mKeep c = false then satCount a c.part (saVal c p.sa).2 d else d
  let d := if isPred c then (List.range (mapWords s - 1)).foldl (fun d k => putWord a (mImap c + 1 + k) 0 d) d else d
  if mTopk c ≠ 0 ∧ mTkAxis c = 0 ∧ isLast ss s then
    (List.range s.ch.2).foldl (fun d cs => tkWrite c a cs [] d) d
  else d

/-- The arrays start a command's work: once for each of its computations (R37, R132, R143, R185, R235, R247). A command that the checks
of sa or the taps stop has started on its arrays, and their kept accumulations go (R186). DESIGN CHOICE: such a command neither opens
nor uses its channel's step (R143 is silent); an array whose share is empty keeps its kept accumulation; in a recomputation sa is
read, and counted where it is not finite, again (log 85). -/
def prepare (c : Cmd) (d : Device) : Device :=
  let ss := shares d c
  match earlyFault d c ss with
  | some (x, d) => setCmd { c with admitted := true, stop := some x } (dropKept (ss.map (·.arr)) d)
  | none =>
    let d := if mSc c ≠ 0 ∧ c.scaled = false then scUse c (mScNum c) (scaleDiv (decide (mOK c = 0)) (mPo c)) d else d
    let mapBad := if mGate c < 2 then [] else ss.flatMap fun s => wordsParity d s.arr (mImap c) 2
    let stale := decide (2 ≤ mGate c) && ss.any (fun s => !mapValid d c s.arr) && !c.stale
    let c := { c with admitted := true, scaled := c.scaled || decide (mSc c ≠ 0), stale := c.stale || stale }
    let d := setCmd c d
    match mapBad with
    | f :: _ => countParity f.2 (stopWith c.id (refusedWith stParity) (dropKept (ss.map (·.arr)) d))
    | [] =>
      let d := if stale then fsat (oStaleMaps c.part) fStaleMapsStale 1 (raise c.part 0x0003 (targetOf c) (seqOf c) 0 (stepOf c) d) else d
      ss.foldl (fun d s => initArr c ss s d) d

/-! ## Weight and segment swaps -/

/-- The active latches swap with the shadow, the pass is driven, and the next pass of the command is loaded (R76, R168). -/
def weightSwap (a : Nat) (d : Device) : Device :=
  match jobAt d a with
  | none => d
  | some (c, ss, s, p) =>
    match p.passes[p.pass]? with
    | none => d
    | some q =>
      if p.closed ∨ interval c ≤ p.seg then d
      else
        let x := arrOf d a
        let fed := feedFaults d c a s p.group p.snap q
        let (acc, n) := if fed = [] then drivePass d c a s p.group p.taps p.snap x.latchShadow q x.active else (x.active, 0)
        let later := if p.pass + 1 < p.passes.length then none else loadAhead d c s p
        let (l, m, fl) : Latches × Nat × Faults := match p.passes[p.pass + 1]?, later with
          | some r, _ => loadOf d c a s p.group p.snap r
          | none, some (l, m, _) => (l, m, [])
          | none, none => ({}, 0, [])
        let ahead := later.map fun y => y.2.2
        let d := setArr a { x with latch := x.latchShadow, latchShadow := latched l (fl ++ ahead.getD []), active := acc,
                                   prog := some { p with pass := p.pass + 1, seg := p.seg + 1, ahead := ahead } } d
        faulted c ss s (fed ++ fl) (perfArr a 0x05 (some c.part) 1 (satCount a c.part (n + m) d))

/-- The segment in progress ends now: it is full and passes follow, or the group's passes have ended; ACC_KEEP leaves its last
segment open (R158, R184, R185). -/
def segmentEnds (c : Cmd) (p : Prog) : Bool :=
  !p.closed && decide (p.drain = none) &&
    (if p.pass < p.passes.length then decide (interval c ≤ p.seg) else !mKeep c)

/-- The accumulator sets swap and the drain begins (R80). DESIGN CHOICE: a continued accumulation that closes a segment with
FULL_MASK 0xFFFF fills level 16 and its mask becomes 0; R164 has sixteen slots (log 85). -/
def segmentSwap (a : Nat) (d : Device) : Device :=
  match jobAt d a with
  | none => d
  | some (c, _, _, p) =>
    if segmentEnds c p then
      let x := arrOf d a
      let fin := decide (p.passes.length ≤ p.pass)
      let dr : Drain := { group := p.group, fin := fin, mask := p.mask, tags := p.tags, snap := p.snap, fetch := p.fetch, div := p.div }
      let m := if fin then p.mask else (p.mask + 1) % 65536
      let p := { p with seg := 0, segs := p.segs + 1, mask := m, closed := fin, drain := some dr }
      setArr a { x with active := {}, shadow := x.active, prog := some p } d
    else d

/-! ## Drains -/

/-- A sample record (R531). -/
def sampleRec (d : Device) (c : Cmd) (a : Nat) (t : Nat × Nat) (dr : Drain) (st : List Nat) : List Byte :=
  let now := fget d oAclkCtrl fAclkCtrlDiv
  leBytes 4 (wordAt c.words 1) ++ leBytes 4 (stepOf c) ++
  leBytes 4 (seqOf c + a * 2 ^ 16 + c.part * 2 ^ 24 + b2n (decide (now ≠ dr.div)) * 2 ^ 30) ++ leBytes 4 t.1 ++
  leBytes 4 (t.2 + dr.div * 2 ^ 24) ++ leBytes 8 (st.getD 0 0) ++ leBytes 4 (st.getD 1 0) ++ leBytes 4 (st.getD 2 0) ++
  leBytes 4 (st.getD 3 0) ++ leBytes 4 (st.getD 4 0) ++ leBytes 20 0

/-- A sample record leaves (R531). -/
def sampleOut (bs : List Byte) (d : Device) : Device :=
  if fbit d oSmpCtrl fSmpCtrlSmpDest then
    let base := pair64 d oSmpBaseLo oSmpBaseHi
    let n := 2 ^ fget d oSmpCtrl fSmpCtrlSmpRlog2
    putHbm (base + 64 * (d.smpCount % n)) bs { d with smpCount := d.smpCount + 1 }
  else trcPut 2 { type := 6, stamp := d.clk.time, payload := leDWords bs, since := d.clk.time } d

/-- Samples of the tagged tiles of a group, with the stamps that are left (R531). -/
def samples (c : Cmd) (a c0 : Nat) (dr : Drain) : List (Bool × (Nat × Nat)) → Device × List (List Nat) → Device × List (List Nat)
  | [], x => x
  | (false, _) :: r, x => samples c a c0 dr r x
  | (true, t) :: r, (d, st) =>
    samples c a c0 dr r (sampleOut (sampleRec d c a (t.1, c0) dr (st.headD [])) d, st.tail)

/-- The tiles of a group are complete: counters and samples (R20, R37, R521, R531). -/
def tilesDone (c : Cmd) (s : Share) (dr : Drain) (x : Device × List (List Nat)) : Device × List (List Nat) :=
  let a := s.arr
  let ts := groupTiles c s dr.group
  let add (k : Nat) (t : Tab Nat) : Tab Nat := tabSet 0 k ((tabGet 0 k t + ts.length) % 2 ^ 32) t
  let d := { x.1 with tiles := add a (add (192 + bandOf a) (add (204 + dieOf a) x.1.tiles)) }
  samples c a (groupCh c s dr.group).1 dr (dr.tags.zip ts) (perfArr a 0x07 (some c.part) ts.length d, x.2)

/-- CUR_MAX, CLIPPED and the command's counts take the outputs of a group (R144, R147, R154, R251). -/
def countOuts (c : Cmd) (a : Nat) (outs : List CellOut) (d : Device) : Device :=
  let live := outs.filterMap (·.2)
  let clip := live.countP (·.clipped)
  let skips := if mTopk c = 0 then outs.countP (·.2.isNone) else 0
  let d := if mSc c = 0 then d
    else live.foldl (fun d o => scMax (mScNum c) (captured c o.x) d) (fsat (oScClipped (mScNum c)) fScClippedClipped clip d)
  let d := match cmdOf d c.id with
    | some c => setCmd { c with clipped := c.clipped + clip, written := c.written + live.length, skips := c.skips + skips } d
    | none => d
  perfArr a 0x0A (some c.part) (outs.countP (·.2.isNone)) (satCount a c.part ((live.map (·.sat)).sum) d)

/-- A command is stopped by a failing unit found in a drain. -/
def stopParity (c : Cmd) (s : Share) (g : Nat) (d : Device) : Device := stopTile c s g stParity d

/-- The full-width results of a group go through the output stage, into a map, or into a scatter table (R134, R217, R240). -/
def finishGroup (c : Cmd) (ss : List Share) (s : Share) (sa : Nat) (dr : Drain) (sums : List ((Nat × Nat) × Nat))
    (x : Device × List (List Nat)) : Device × List (List Nat) :=
  let a := s.arr
  let (d, st) := x
  let g := dr.group
  let cells := liveCells c s g sums
  match stageFaults d c a s dr cells with
  | f :: _ => (countParity f.2 (stopParity c s g d), st)
  | [] =>
    let chans := groupCh c s g
    let swBad := if mWstK c = 2 then ((List.range chans.2).map fun k => (swVal d c a (chans.1 + k)).2).sum * (groupTiles c s g).length else 0
    if mScat c = 1 then
      tilesDone c s dr ((List.range (groupTiles c s g).length).foldl (fun d τ =>
        let (d, k) := mergeTile c a dr.snap (cells.filter fun y => decide (y.1 / mP c = τ)) d
        satCount a c.part k d) d, st)
    else if mScat c = 2 then
      let js := distinct (cells.map fun y => y.2.1)
      let (d, f) := js.foldl (fun r j =>
        let ys := (cells.filter fun y => decide (y.2.1 = j)).map fun y => (chans.1 + y.2.2.1, y.2.2.2)
        (bankLines c ss a (siteOf dr.snap j) (groupTile c s g) ys).foldl (fun r l => issueLine (bandOf a) l r) r) (d, none)
      match f with
      | some t => tilesDone c s dr (stopWith c.id { status := stParity, tilePos := t.1, tileCh := t.2 } d, st)
      | none => tilesDone c s dr (d, st)
    else if isPred c then
      let (d, k) := predict c a s dr sa cells d
      tilesDone c s dr (satCount a c.part (k + swBad) d, st)
    else
      let outs := cellOuts d c a s dr sa cells
      let (d, f) := if mTopk c ≠ 0 ∧ mTkAxis c = 0 then (axis0Update c a s dr outs d, none)
        else commit a (decide (mFill c = 2)) (if mTopk c ≠ 0 then axis1Writes c s dr outs else plainWrites d c a s dr outs) d
      match f with
      | some _ => (stopParity c s g d, st)
      | none => tilesDone c s dr (countOuts c a outs (satCount a c.part swBad d), st)

/-- A chain has passed all its sums of a group to its last member, whose output stage follows (R173). A chain that goes on between
devices waits for the domain's hop. -/
def chainDone (c : Cmd) (ss : List Share) (s : Share) (x : Device × List (List Nat)) : Device × List (List Nat) :=
  let hops := allHops ss
  let mine := chainHops ss s
  match mine.2.bind fun a => ss.find? fun t => decide (t.arr = a) with
  | none => x
  | some t =>
    match (arrOf x.1 t.arr).prog, cmdOf x.1 c.id with
    | some p, some c' =>
      match p.slot with
      | some dr =>
        if mine.1.all (fun h => c'.hops.any fun k => decide (hops[k]? = some h)) && !(domainOf c && decide (dsplitOf c = 2)) then
          let sums := (cellsOf c t dr.group).map fun k => (k, slotGet x.1 c t.arr (chainLevel c t) k.1 k.2)
          let d := setCmd { c' with hops := c'.hops.filter fun k => !(mine.1.any fun h => decide (hops[k]? = some h)) } x.1
          finishGroup c ss t p.sa dr sums (setProg t.arr { p with slot := none } d, x.2)
        else x
      | none => x
    | _, _ => x

/-- A drain ends: its sums go to a slot, to the chain slot, or to the outputs (R164, R167, R171). The final drain of a group
completes even when the command has been stopped (R87). DESIGN CHOICE: a member of a RED chain before the last completes no tile:
COMPLETED_TILES and event 0x07 count where a tile is written (R37; log 85). `stamps` are those of the tagged
tiles (R530). -/
def drainGo (a : Nat) (x : Device × List (List Nat)) : Device × List (List Nat) :=
  let (d, st) := x
  match jobAny d a with
  | none => x
  | some (c, ss, s, p) =>
    match p.drain with
    | none => x
    | some dr =>
      if (dr.fin && inChain c s && p.slot.isSome) || (!dr.fin && c.stop.isSome) then x
      else match slotFault d c a s dr with
      | some k => (countParity k (stopParity c s dr.group (setProg a { p with drain := none } d)), st)
      | none =>
        let (sums, n) := drainSums d c a s dr (arrOf d a).shadow
        let d := perfArr a 0x06 (some c.part) 1 (satCount a c.part n d)
        let d := setArr a { arrOf d a with shadow := {}, prog := some { p with drain := none } } d
        if dr.fin && !inChain c s then finishGroup c ss s p.sa dr sums (d, st)
        else
          match commit a false (slotWrites c (if dr.fin then chainLevel c s else freeLevel dr.mask) sums) d with
          | (d, some _) => (stopParity c s dr.group d, st)
          | (d, none) =>
            if dr.fin then chainDone c ss s (setProg a { p with drain := none, slot := some dr } d, st) else (d, st)

/-- Stage stamps of a drain's tagged tiles from four offsets each; FETCH is the group's (R530). -/
def stampsOf (fetch : Nat) : Nat → List Nat → List (List Nat)
  | 0, _ => []
  | n + 1, l => (fetch :: l.take 4) :: stampsOf fetch n (l.drop 4)

/-- The end of an array's drain. -/
def drainEnd (a : Nat) (stamps : List Nat) (d : Device) : Device :=
  let fetch := match (arrOf d a).prog with | some p => (match p.drain with | some dr => dr.fetch | none => 0) | none => 0
  (drainGo a (d, stampsOf fetch (stamps.length / 4) stamps)).1

/-! ## Chains (R171 to R174) -/

/-- Whether hop m may be made: the sum at its sender and the partial of its receiver are complete, of one tile group, and the stores
of both answer (R172, R453, R454). -/
def hopReady (d : Device) (c : Cmd) (ss : List Share) (m : Nat) : Option (Share × Share × Drain × Prog × Prog) :=
  let hs := allHops ss
  match hs[m]? with
  | none => none
  | some (x, y) =>
    match ss.find? (fun s => decide (s.arr = x)), ss.find? (fun s => decide (s.arr = y)), (arrOf d x).prog, (arrOf d y).prog with
    | some sx, some sy, some px, some py =>
      let before := (List.range m).all fun k => c.hops.contains k || (match hs[k]? with | some h => decide (h.2 ≠ x) && decide (h.2 ≠ y) | none => true)
      match px.slot, py.slot with
      | some dx, some dy =>
        if before && !c.hops.contains m && decide (dx.group = dy.group) && !heldArray d x && !heldArray d y then some (sx, sy, dy, px, py) else none
      | _, _ => none
    | _, _, _, _ => none

/-- A running sum is handed to the next member, which adds its own partial (R172). -/
def chainGo (id m : Nat) (x : Device × List (List Nat)) : Device × List (List Nat) :=
  let (d, st) := x
  match runningAs d id (· = 0x10) with
  | none => x
  | some c =>
    let ss := shares d c
    match hopReady d c ss m with
    | none => x
    | some (sx, sy, dr, px, _) =>
      let xs := (cellsOf c sy dr.group).map fun k =>
        let (w, n) := addFull (mFp c) (evOf c) (slotGet d c sx.arr (chainLevel c sx) k.1 k.2) (slotGet d c sy.arr (chainLevel c sy) k.1 k.2)
        (k, w, n)
      let bad := if d.merr.parity = [] then none
        else xs.findSome? fun y => (rowsParity d sx.arr (slotBit c (chainLevel c sx) y.1.1 y.1.2) 32 ++
          rowsParity d sy.arr (slotBit c (chainLevel c sy) y.1.1 y.1.2) 32).head?.map (·.2)
      match bad with
      | some k => (countParity k (stopParity c sy dr.group d), st)
      | none =>
        let (d, _) := commit sy.arr false (slotWrites c (chainLevel c sy) (xs.map fun y => (y.1, y.2.1))) d
        let d := satCount sy.arr c.part ((xs.map fun y => y.2.2).sum) (setProg sx.arr { px with slot := none } d)
        let d := perfOne (12 + dieOf sy.arr) 0x1A (some c.part) 1 (setCmd { c with hops := c.hops ++ [m] } d)
        chainDone c ss sy (d, st)

/-- The hop of a running command. -/
def chainHop (id m : Nat) (d : Device) : Device := (chainGo id m (d, [])).1

end Sys2Proof.Machine
end

