-- ==== Sys2Proof/Machine/Matmul.lean ====
section
/-! DEFINITION. MATMUL as a whole (R37, R47 to R49, R147 to R153, R179, R184, R244, R301 to R306, R318, R331 to R338), and ACC_SAVE and
ACC_LOAD (R187 to R189, R321). -/

namespace Sys2Proof.Machine

/-! ## Checks (R301) -/

/-- Budget of a MATMUL beyond 2^31 (R336). -/
def overBudget (d : Device) (c : Cmd) : Bool := fixedTime c && decide (budgetLimit < matmulBudget d c)

/-- How the checks before the start refuse a MATMUL, in the order of R301. -/
def matmulCheck (d : Device) (c : Cmd) : Option Done :=
  if matmulBad c then some (refusedWith stMalformed)
  else if c.prickErr ≠ 0 then some (refusedWith c.prickErr)
  else if prickBad d c || overBudget d c then some (refusedWith stMalformed)
  else if matmulPerm d c then some (refusedWith stPermission)
  else if retiredTarget d c then some (refusedWith stRemote)
  else if mReal c ≠ 0xFFFFFFFF ∧ pNP c < mReal c then some (refusedWith stShape)
  else none

/-- The first tile group that an array starts: the command is admitted once its checks have passed (R301). -/
def admitFor (a : Nat) (d : Device) : Device :=
  match d.cmds.find? fun c => decide (c.phase = .running) && decide (opOf c = 0x10) && !waitsDump c && !c.admitted && !domainOf c &&
      (motifList (targetOf c)).contains a with
  | some c => if (matmulCheck d c).isNone && decide (mReal c ≠ 0) && stepFree d c then prepare c d else d
  | none => d

/-- An array starts its next tile group (R168). -/
def tileStart (a : Nat) (d : Device) : Device :=
  let d := admitFor a d
  match jobAt d a with
  | none => d
  | some (c, ss, s, p) => if p.closed && decide (p.next < groupsOf c s) then startGroup c ss s p p.next d else d

/-! ## A command's tiles to their end -/

/-- The device, the stage stamps not yet used, and whether the sums of another member have yet to arrive. -/
abbrev RunSt := (Device × List (List Nat)) × Bool

/-- The command as it now stands. -/
def current (c : Cmd) (d : Device) : Cmd := (cmdOf d c.id).getD c

/-- One more step of an array that has work left in its group. -/
def arrayGo (a : Nat) (x : Device × List (List Nat)) : Device × List (List Nat) :=
  match (arrOf x.1 a).prog with
  | none => x
  | some p =>
    if p.drain.isSome then drainGo a x
    else match jobAt x.1 a with
      | none => x
      | some (c, _, _, p) => if segmentEnds c p then (segmentSwap a x.1, x.2) else (weightSwap a x.1, x.2)

/-- An array's steps, as many as a group can need. -/
def arrayRun (a : Nat) : Nat → Device × List (List Nat) → Device × List (List Nat)
  | 0, x => x
  | n + 1, x => arrayRun a n (arrayGo a x)

/-- An array completes tile group g of its share. -/
def runGroup (s : Share) (g : Nat) (x : Device × List (List Nat)) : Device × List (List Nat) :=
  let d := match (arrOf x.1 s.arr).prog with
    | some p => if p.closed && decide (p.next = g) then tileStart s.arr x.1 else x.1
    | none => x.1
  arrayRun s.arr (32 * s.ps.2 + 16) (d, x.2)

/-- The members of a domain command that hold work, in chain order, and the place of this device among them (R30, R31, R48). -/
def domainChain (d : Device) (c : Cmd) : List Nat :=
  let ms := members d c.part
  (List.range ms.length).filterMap fun j => if emptyShare (memberPart c ms.length j) then none else ms[j]?

/-- What a member has handed over for this command so far. -/
def handed (d : Device) (c : Cmd) (m : Nat) : List Byte := inboxOf d (slotDev d m) c.part (sharedName d c).1 (sharedName d c).2

/-- Bytes handed to a member for this command. -/
def handOver (c : Cmd) (m : Nat) (bs : List Byte) (d : Device) : Device :=
  sendPacket (slotDev d m) c.part false (.bytes (sharedName d c).1 (sharedName d c).2 bs) d

/-- This member's sum of a group goes on between the devices of a RED domain: it takes the sum of the member before, once that has
arrived, and hands it to the next member or to the output stage (R48, R172, R173). -/
def domainPass (c : Cmd) (ss : List Share) (t : Share) (x : RunSt) : RunSt :=
  let d := x.1.1
  match (arrOf d t.arr).prog with
  | none => x
  | some p =>
    match p.slot with
    | none => x
    | some dr =>
      let chain := domainChain d c
      let k := chain.findIdx fun m => decide (m = ownSlot d)
      let cells := cellsOf c t dr.group
      let at' := (current c d).passed
      let inc := if k = 0 then [] else (handed d c (chain.getD (k - 1) 0)).drop at'
      if 0 < k ∧ inc.length < 4 * cells.length then (x.1, true)
      else
      let own := cells.map fun q => (q, slotGet d c t.arr (chainLevel c t) q.1 q.2)
      let sums := if k = 0 then own.map fun y => (y, 0)
        else own.zipIdx.map fun y =>
          let (w, n) := addFull (mFp c) (evOf c) (leNat ((inc.drop (4 * y.2)).take 4)) y.1.2
          ((y.1.1, w), n)
      let d := satCount t.arr c.part ((sums.map (·.2)).sum) d
      let d := (commit t.arr false (slotWrites c (chainLevel c t) (sums.map (·.1))) d).1
      let d := match cmdOf d c.id with | some c => setCmd { c with hops := [], passed := if k = 0 then c.passed else c.passed + 4 * cells.length } d | none => d
      let d := setProg t.arr { p with slot := none } d
      if k + 1 < chain.length then
        ((handOver c (chain.getD (k + 1) 0) (sums.flatMap fun y => leBytes 4 y.1.2) d, x.1.2), x.2)
      else (finishGroup (current c d) ss t p.sa dr (sums.map (·.1)) (d, x.1.2), x.2)

/-- Tile group g on every array, then the chains of the group; nothing more while a group waits for another member's sums. -/
def runStep (c : Cmd) (ss : List Share) (x : RunSt) (g : Nat) : RunSt :=
  if x.2 then x
  else
  let y := ss.foldl (fun y s => runGroup s g y) x.1
  let hs := allHops ss
  let y := (List.range hs.length).foldl (fun y m => chainGo c.id m y) y
  if domainOf c ∧ dsplitOf c = 2 then
    (ss.filter fun s => endsChain ss s).foldl (fun x t => if x.2 then x else domainPass c ss t x) (y, x.2)
  else (y, x.2)

/-- Every tile group of a command. -/
def runTiles (c : Cmd) (x : RunSt) : RunSt :=
  let ss := shares x.1.1 c
  (List.range ((ss.map fun s => groupsOf c s).foldl max 0)).foldl (runStep c ss) x

/-! ## The end -/

/-- Lines still in the queues of a BANKED command's bands retire (R88, R224). -/
def flushAll (c : Cmd) (ss : List Share) (d : Device) : Device :=
  if mScat c = 2 then
    let (d, f) := (distinct (ss.map fun s => bandOf s.arr)).foldl (fun r b => flushBand b r) (d, none)
    match f with
    | some t => stopWith c.id { status := stParity, tilePos := t.1, tileCh := t.2 } d
    | none => d
  else d

/-- The merged lists of a channel in chain order (R179). -/
def mergeLists (k : Nat) (ls : List (List TkRec)) : List TkRec := ls.foldl (fun l m => m.foldl (tkOffer k) l) []

/-- The arrays that hold top-k lists for their channels, each the first in chain order (R179). -/
def listArrays (c : Cmd) (ss : List Share) : List Share :=
  if mTopk c ≠ 0 ∧ mTkAxis c = 0 then ss.filter fun s => isLast ss s && firstOfCh ss s else []

/-- A command's lists fail their parity check, at the first array that merges them. -/
def listStop (c : Cmd) (s : Share) (d : Device) : Device :=
  stopWith c.id { status := stParity, tilePos := s.pos.1, tileCh := s.ch.1 } d

/-- The lists of arrays that share channels are merged into the first one's (R179). -/
def topkMerge (c : Cmd) (ss : List Share) (d : Device) : Device :=
  (listArrays c ss).foldl (fun d s =>
    let same := ss.filter fun t => isLast ss t && decide (t.ch = s.ch)
    match same.findSome? fun t => (wordsParity d t.arr (mTk c) (t.ch.2 * 2 * mTopk c)).head?.map (·.2) with
    | some k => countParity k (listStop c s d)
    | none => (List.range s.ch.2).foldl (fun d cs =>
        tkWrite c s.arr cs (mergeLists (mTopk c) (same.map fun t => tkRead d c t.arr cs)) d) d) d

/-- The first array writes the lists of its share to its destination (R179). -/
def topkWrite (c : Cmd) (ss : List Share) (d : Device) : Device :=
  (listArrays c ss).foldl (fun d s =>
    let ws : List Wr := (List.range s.ch.2).flatMap fun cs =>
      (tkWords (mTopk c) (tkRead d c s.arr cs)).zipIdx.map fun w => (mORow c * 4096 + cs * mTopk c * 64 + 32 * w.2, 32, some w.1)
    match commit s.arr false ws d with
    | (d, some _) => listStop c s d
    | (d, none) => d) d

/-- The lists of a member of a domain as the words that it hands to the first member (R32, R48, R179; log 86). -/
def listWords (c : Cmd) (ss : List Share) (d : Device) : List Nat :=
  (listArrays c ss).flatMap fun s => (List.range s.ch.2).flatMap fun cs => tkWords (mTopk c) (tkRead d c s.arr cs)

/-- The list that a number of words holds. -/
def tkOf (c : Cmd) : List Nat → List TkRec
  | i :: w :: r => if i = 0xFFFFFFFF then tkOf c r else (i, tkVal c w, w) :: tkOf c r
  | _ => []

/-- The lists of another member merged into this device's: those of its first arrays, in their order (R179; log 86). -/
def topkTake (c : Cmd) (ss : List Share) (ws : List Nat) (d : Device) : Device :=
  ((listArrays c ss).foldl (fun (r : Device × List Nat) s =>
    (List.range s.ch.2).foldl (fun r cs =>
      (tkWrite c s.arr cs (mergeLists (mTopk c) [tkRead r.1 c s.arr cs, tkOf c (r.2.take (2 * mTopk c))]) r.1,
        r.2.drop (2 * mTopk c))) r) (d, ws)).1

/-- The members of a domain hold lists of the same channels (R32, R179). -/
def sharesLists (c : Cmd) (ss : List Share) : Bool := domainOf c && decide (dsplitOf c = 1) && decide (listArrays c ss ≠ [])

/-- The top-k lists at the end of a command. Under a domain divided by POS the members' lists go to the first member, which alone
writes them, merged in chain order (R32, R48, R179; log 86). -/
def topkEnd (c : Cmd) (ss : List Share) (d : Device) : Device :=
  let d := topkMerge c ss d
  if sharesLists c ss then
    match domainChain d c with
    | m :: r =>
      if m = ownSlot d then topkWrite c ss (r.foldl (fun d m => topkTake c ss ((leWords (handed d c m)).map (·.toNat)) d) d)
      else handOver c m ((listWords c ss d).flatMap (leBytes 4)) d
    | [] => d
  else topkWrite c ss d

/-- The lists of the other members have arrived at the first. -/
def listsHere (d : Device) (c : Cmd) (ss : List Share) : Bool :=
  if sharesLists c ss && decide ((domainChain d c).head? = some (ownSlot d)) then
    let n := 8 * mTopk c * ((listArrays c ss).map (·.ch.2)).sum
    (domainChain d c).tail.all fun m => decide (n ≤ (handed d c m).length)
  else true

/-- The arrays that write part of the output: not those whose positions are all masked, nor those whose lists another array writes
(R153, R179, R304). -/
def writers (c : Cmd) (ss : List Share) : List Nat :=
  if mKeep c then []
  else if mTopk c ≠ 0 ∧ mTkAxis c = 0 then (listArrays c ss).map (·.arr)
  else (ss.filter fun s => isLast ss s && decide (s.pos.1 < realExt c)).map (·.arr)

/-- A scale word written in every writer's word store (R153). -/
def putScale (c : Cmd) (ss : List Share) (w : Nat) (d : Device) : Device := (writers c ss).foldl (fun d a => putWord a (mOst c) w d) d

/-- A predictor's maps become valid (R243, R244). -/
def mapsEnd (c : Cmd) (ss : List Share) (d : Device) : Device :=
  if isPred c then
    ss.foldl (fun d s =>
      let n := ((List.range (mapWords s - 2)).map fun k => popCount (wsWord d s.arr (mImap c + 2 + k))).sum
      putWord s.arr (mImap c + 1) (min n 0xFFFFFF + 2 ^ 31) (putWord s.arr (mImap c) (stepOf c) d)) d
  else d

/-- The state that an array keeps for a later command (R184, R189). -/
def keepEnd (c : Cmd) (s : Share) (d : Device) : Device :=
  match (arrOf d s.arr).prog with
  | some p => setArr s.arr { arrOf d s.arr with kept := some {
      tilePos := mP c - 1, group := mT c - 1, pa := mPa c - 1, pwe := mPwe c - 1, fullWidth := mFp c, cUse := pCuse c - 1,
      segPasses := p.seg, segDone := p.segs % 65536, fullMask := p.mask, pbRow := mPbRow c, pbSize := mPbSize c } } d
  | none => d

/-- The arrays leave a command. The active set stays only under ACC_KEEP. -/
def release (kept : Bool) (ss : List Share) (d : Device) : Device :=
  ss.foldl (fun d s =>
    let x := arrOf d s.arr
    setArr s.arr { x with active := if kept then x.active else {}, shadow := {}, latch := {}, latchShadow := {}, prog := none } d) d

/-- SKIPPED_OUTPUTS advances (R251). -/
def countSkips (c : Cmd) (d : Device) : Device :=
  if c.skips = 0 then d
  else
    let v := min (pair64 d (oSkippedOutputs c.part) (oSkippedOutputsHi c.part) + c.skips) (2 ^ 48 - 1)
    rput (oSkippedOutputs c.part) (BitVec.ofNat 32 v) (rput (oSkippedOutputsHi c.part) (BitVec.ofNat 32 (v / 2 ^ 32)) d)

/-- A tile group of a share has not been written. -/
def groupLeft (d : Device) (s : Share) (g : Nat) : Bool :=
  match (arrOf d s.arr).prog with
  | none => true
  | some p => decide (p.next ≤ g) || (decide (p.group = g) && (!p.closed || p.drain.isSome)) ||
      (match p.drain with | some dr => decide (dr.group = g) | none => false) ||
      (match p.slot with | some dr => decide (dr.group = g) | none => false)

/-- The first tile that a stopped command has not written, in chain order, with the position of its group (R338). -/
def firstLeft (d : Device) (c : Cmd) (ss : List Share) : Option (Nat × Nat) :=
  ss.findSome? fun s => ((List.range (groupsOf c s)).find? fun g => !skipped c s g && groupLeft d s g).map (groupTile c s)

/-- Final drains and hops that are under way complete, though the command has been stopped (R87, R88). -/
def settle (c : Cmd) (ss : List Share) (x : Device × List (List Nat)) : Device × List (List Nat) :=
  let x := ss.foldl (fun x s =>
    match (arrOf x.1 s.arr).prog with
    | some p => if p.drain.isSome then drainGo s.arr x else x
    | none => x) x
  (List.range (allHops ss).length).foldl (fun x m => chainGo c.id m x) x

/-- The work of a command ends on this device, with what its completion, or its part's end, reports. -/
def endWith (id : Nat) (ss : List Share) (kept : Bool) (x : Done) (budget took : Nat) (d : Device) : Device :=
  match cmdOf d id with
  | some c => countSkips c (finish c x budget took (release kept ss d))
  | none => d

/-- A command that has done all its work ends: R153, R179, R184, R244. A domain command's deadline counts for the whole of it (R48). Its flags begin with those given; the maps of a predictor
become valid only where it completes with OK. -/
def endDone (c : Cmd) (ss : List Share) (flags budget took : Nat) (d : Device) : Device :=
  let d := topkEnd c ss d
  let d := if mSc c = 2 then putScale c ss (cmdScale d c) d else d
  match (current c d).stop with
  | some x => endWith c.id ss false x budget took d
  | none =>
    let c := current c d
    let x : Done := { flags := flags + (if c.fell || c.retry.isSome then flagFallback else 0) }
    let x := if domainOf c then x else deadline c budget took x
    let d := if mKeep c then ss.foldl (fun d s => keepEnd c s d) d else d
    endWith c.id ss (mKeep c) x budget took (if x.status = stOk then mapsEnd c ss d else d)

/-- Whether a command is recomputed, after SAT_COUNT and the event of a command over the threshold (R147, R149). -/
def judge (c : Cmd) (d : Device) : Bool × Device :=
  if mSc c ≠ 0 ∧ c.retry = none ∧ scOver d (mScNum c) c.clipped c.written then
    let d := scSat (mScNum c) d
    let d := if c.policy = 0 then d else raise c.part 0x0001 (mScNum c) c.clipped c.written (stepOf c) d
    (decide (c.policy = 2) && !fixedTime c && decide (mSc c = 2), d)
  else (false, d)

/-- A stopped command ends (R37, R87, R338). An abort that finds the last tile complete leaves a command that has run to its end: it is
judged, and not recomputed (R147, R338; log 87). -/
def endStopped (c : Cmd) (ss : List Share) (x : Done) (st : List (List Nat)) (d : Device) : Device :=
  let (d, _) := settle c ss (d, st)
  let d := flushAll c ss d
  if x.status = stAborted then
    match firstLeft d c ss with
    | some t => endWith c.id ss false { x with tilePos := t.1, tileCh := t.2 } 0 0 d
    | none =>
      if listsHere d c ss then
        let d := setCmd { current c d with stop := none } d
        endDone (current c d) ss flagLate 0 0 (judge (current c d) d).2
      else endWith c.id ss false x 0 0 d
  else endWith c.id ss false x 0 0 d

/-- A recomputation begins with s_r, which the output scale word takes at once (R150); the outputs that it skips are counted in
place of those of the first computation (R251). The sums that another member has handed over are taken again (log 60). -/
def retryWith (c : Cmd) (ss : List Share) (d : Device) : Device :=
  let s := scaleFrom c.legacy (fget d (oScState (mScNum c)) fScStateCurMax) (scaleDiv (decide (mOK c = 0)) (mPo c))
  let c := { c with retry := some s, skips := 0, passed := 0 }
  prepare c (setCmd c (putScale c ss s (fput (oScStatus (mScNum c)) fScStatusRetried 1 d)))

/-- The tiles of an admitted command and its end. A command that is to be recomputed goes on running, from its first tile: the next
MATMUL step, or the steps of its arrays, do it again (R150, R152; log 87). A part of a domain command goes on in a later step when it
has yet to be handed another member's sums or lists. -/
def matmulRun (c : Cmd) (budget : Nat) (x : Circ) (d : Device) : Device :=
  let ss := shares d c
  let ((d, st), waits) := runTiles c ((d, x.stamps), false)
  let c := current c d
  match c.stop with
  | some y => endStopped c ss y st d
  | none =>
    if waits || !listsHere d c ss then d
    else
      let d := flushAll c ss d
      let c := current c d
      match c.stop with
      | some y => endStopped c ss y st d
      | none =>
        let (again, d) := judge c d
        if again then retryWith c ss d else endDone c ss 0 budget x.took d

/-- The members that hold work are each handed their part of a domain command, with the command and the pricking (R31, R48, R276). -/
def shareOut (c : Cmd) (d : Device) : Device :=
  if domainOf c && c.member.isNone then
    let ms := domainChain d c
    (ms.filter fun m => decide (m ≠ ownSlot d)).foldl
      (fun d m => sendPacket (slotDev d m) c.part false (.share c.id c.legacy c.words c.prick) d) (setCmd { c with shared := ms } d)
  else d

/-- The part of a domain command that is this device's own, where it has one, has ended. -/
def ownOver (d : Device) (c : Cmd) : Bool := decide (c.shared ≠ []) && !(awaited c).contains (ownSlot d)

/-- Members that cannot be reached end the command that this device sequences; where it does a part of another's, its own part (R49). -/
def losses (c : Cmd) (x : Circ) (d : Device) : Device :=
  if c.member.isSome then
    match unreachable d c x with
    | some s => stopWith c.id { status := stRemote, detail := 0x8000 + s } d
    | none => d
  else ((awaited c).filter x.unreach.contains).foldl (fun d m => memberLost c.id m d) d

/-- The tiles of an admitted command, unless this device has no part in them that is left, or one of its arrays is being substituted
or cleared: the work then goes on afterwards (R52, R453). -/
def matmulOn (id : Nat) (x : Circ) (d : Device) : Device :=
  match runningAs d id (· = 0x10) with
  | some c => if ownOver d c || (shares d c).any (fun s => heldArray d s.arr) then d
    else matmulRun c (matmulBudget d c) x d
  | none => d

/-- MATMUL: what remains of its work is done, and it ends. -/
def matmul (id : Nat) (x : Circ) (d : Device) : Device :=
  match runningAs d id (· = 0x10) with
  | none => d
  | some c =>
    let d := applyCirc c.part x d
    if c.admitted then matmulOn id x (losses c x d)
    else match matmulCheck d c, c.stop with
      | some y, _ => endCmd c y d
      | none, some y => endCmd c y (if mKeep c || mCont c then dropKept (motifList (targetOf c)) d else d)
      | none, none =>
        if mReal c = 0 then endCmd c (deadline c 0 x.took { flags := flagEmpty }) d
        else match unreachable d c x with
          | some s => endCmd c { status := stRemote, detail := 0x8000 + s } d
          | none =>
            if !stepFree d c then d
            else
              let d := shareOut c d
              matmulOn id x (prepare (current c d) d)

/-! ## ACC_SAVE and ACC_LOAD (R187 to R189, R321) -/

def accRow (c : Cmd) : Nat := cf c 6 12 0
def accSt (c : Cmd) : Nat := cf c 7 15 0

/-- The checks of both (R187, R301, R321). -/
def accCheck (d : Device) (c : Cmd) : Option Done :=
  if headBad c || decide (levelOf c ≠ 0) || decide (cf c 6 31 13 ≠ 0) || decide (cf c 7 31 16 ≠ 0) || wordsSet c 8 15 then
    some (refusedWith stMalformed)
  else if headPerm d c || decide (6144 < accRow c + 1024) || decide (65536 < accSt c + 16) then some (refusedWith stPermission)
  else if retiredTarget d c then some (refusedWith stRemote)
  else none

/-- The words of an accumulation state record (R189). DESIGN CHOICE: the record of an array without a kept accumulation is 0 throughout;
the spec gives its VALID 0 alone (log 85). -/
def keptWords (k : Option Kept) : List Nat :=
  match k with
  | none => List.replicate 16 0
  | some k => [k.tilePos + k.group * 2 ^ 8 + k.pa * 2 ^ 16 + k.pwe * 2 ^ 20 + b2n k.fullWidth * 2 ^ 24 + 2 ^ 31, k.cUse,
      k.segPasses, k.segDone + k.fullMask * 2 ^ 16, k.pbRow + k.pbSize * 2 ^ 13] ++ List.replicate 11 0

/-- A reserved field of a record is set (R188, R189). -/
def keptReserved (w : Nat → Nat) : Bool :=
  decide (bits 30 25 (w 0) ≠ 0) || decide (bits 31 9 (w 1) ≠ 0) || decide (bits 31 10 (w 2) ≠ 0) || decide (bits 31 16 (w 4) ≠ 0) ||
  (List.range 11).any fun k => decide (w (5 + k) ≠ 0)

/-- The kept accumulation that a record holds. -/
def keptOf (w : Nat → Nat) : Option Kept :=
  if bit 31 (w 0) then
    some { tilePos := bits 7 0 (w 0), group := bits 15 8 (w 0), pa := bits 19 16 (w 0), pwe := bits 23 20 (w 0),
           fullWidth := bit 24 (w 0), cUse := bits 8 0 (w 1), segPasses := bits 9 0 (w 2), segDone := bits 15 0 (w 3),
           fullMask := bits 31 16 (w 3), pbRow := bits 12 0 (w 4), pbSize := bits 15 13 (w 4) }
  else none

/-- The image of an active set (R187). -/
def imageOf (x : AccSet) : List Byte :=
  (List.range 256).flatMap fun e => (List.range 512).flatMap fun k => leBytes 4 (unsigned 32 (tabGet 0 (512 * e + k) x.ent))

/-- ACC_SAVE. -/
def accSave (id : Nat) (x : Circ) (d : Device) : Device :=
  match runningAs d id (· = 0x11) with
  | none => d
  | some c =>
    let d := applyCirc c.part x d
    match accCheck d c, c.stop with
    | some y, _ => endCmd c y d
    | none, some y => endCmd c y d
    | none, none =>
      if heldArray d (motifArrays (targetOf c)).1 then d
      else
      let a := (motifArrays (targetOf c)).1
      let d := put (rowAddr a (512 * accRow c)) (imageOf (arrOf d a).active) d
      let d := put (wordAddr a (4 * accSt c)) ((keptWords (arrOf d a).kept).flatMap (leBytes 4)) d
      endCmd c (deadline c 2060 x.took {}) d

/-- An image value within the s20 range (R188). -/
def imageEnt (d : Device) (a row k : Nat) : Int × Nat := ent20 (signed 32 (leNat (bytesAt d (rowAddr a (512 * row + 4 * k)) 4)))

/-- ACC_LOAD. The exponents of a loaded set, which the image does not hold, are free values (log 33). DESIGN CHOICE: neither the image
nor the record holds outlier products of the open segment (R120), and a loaded set has none (log 33). -/
def accLoad (id : Nat) (x : Circ) (d : Device) : Device :=
  match runningAs d id (· = 0x12) with
  | none => d
  | some c =>
    let d := applyCirc c.part x d
    match accCheck d c, c.stop with
    | some y, _ => endCmd c y d
    | none, some y => endCmd c y d
    | none, none =>
      if heldArray d (motifArrays (targetOf c)).1 then d
      else
      let a := (motifArrays (targetOf c)).1
      let w (k : Nat) : Nat := wsWord d a (accSt c + k)
      match rowsParity d a (accRow c * 4096) (1024 * 4096) ++ wordsParity d a (accSt c) 16 with
      | f :: _ => endCmd c (refusedWith stParity) (countParity f.2 d)
      | [] =>
        if keptReserved w then endCmd c (refusedWith stMalformed) d
        else
          let vs := (List.range 131072).map fun k => (k, imageEnt d a (accRow c) k)
          let ent := vs.filterMap fun v => if v.2.1 = 0 then none else some (v.1, v.2.1)
          let (n, d) := drawFree d
          let act : AccSet := { ent := ent, xa := (List.range 256).map (Config.loadedExp n), xw := (List.range 512).map fun k => Config.loadedExp n (256 + k) }
          let d := setArr a { arrOf d a with active := act, kept := keptOf w } d
          endCmd c (deadline c 2052 x.took {}) (satCount a c.part ((vs.map fun v => v.2.2).sum) d)

/-- A bank of a band retires a line (R223). -/
def scatterRetire (b k : Nat) (d : Device) : Device :=
  match retireBank b k d with
  | (d, none) => d
  | (d, some t) =>
    match d.cmds.find? fun c => decide (c.phase = .running) && decide (opOf c = 0x10) && decide (mScat c = 2) && (motifBands (targetOf c)).contains b with
    | some c => stopWith c.id { status := stParity, tilePos := t.1, tileCh := t.2 } d
    | none => d

/-! ## Meanings -/

/-- MATMUL (R318). -/
def execMatmul (id : Nat) (c : Circ) (s : State) := run (.matmul id c) (matmul id c) s
/-- ACC_SAVE (R188). -/
def execAccSave (id : Nat) (c : Circ) (s : State) := run (.accSave id c) (accSave id c) s
/-- ACC_LOAD (R188). -/
def execAccLoad (id : Nat) (c : Circ) (s : State) := run (.accLoad id c) (accLoad id c) s
/-- TILE_START (R168). -/
def execTileStart (a : Nat) (s : State) := run (.tileStart a) (tileStart a) s
/-- WEIGHT_SWAP (R76). -/
def execWeightSwap (a : Nat) (s : State) := run (.weightSwap a) (weightSwap a) s
/-- SEGMENT_SWAP (R80). -/
def execSegmentSwap (a : Nat) (s : State) := run (.segmentSwap a) (segmentSwap a) s
/-- DRAIN_END (R79). -/
def execDrainEnd (a : Nat) (stamps : List Nat) (s : State) := run (.drainEnd a stamps) (drainEnd a stamps) s
/-- CHAIN_HOP (R172). -/
def execChainHop (id m : Nat) (s : State) := run (.chainHop id m) (chainHop id m) s
/-- SCATTER_RETIRE (R223). -/
def execScatterRetire (band bank : Nat) (s : State) := run (.scatterRetire band bank) (scatterRetire band bank) s

end Sys2Proof.Machine
end

