-- ==== Sys2Proof/Machine/Position.lean ====
section
/-! DEFINITION. The position unit, the line triggers and motion wake (R475 to R487, R495, R496). -/

namespace Sys2Proof.Machine

/-! ## Filters (R475; log 88) -/

/-- An input's filter takes n samples of one level: after how many of them the filtered level changes, if it does, and the samples in a
row that have then shown another level. `need` is FILT, `cur` the filtered level, `seen` the count before. -/
def filtered (need n : Nat) (cur level : Bool) (seen : Nat) : Option Nat × Nat :=
  if n = 0 then (none, seen)
  else if level = cur then (none, 0)
  else if need ≤ seen + n then (some (need - seen), 0)
  else (none, seen + n)

/-- What two inputs' filters let through, in the order of the samples: each change alone, or both in one sample. -/
def inOrder {α : Type} (ta tb : Option Nat) (cura curb a b : Bool) (move : Bool → Bool → α → α) (d : α) : α :=
  match ta, tb with
  | none, none => d
  | some _, none => move a curb d
  | none, some _ => move cura b d
  | some x, some y => if x = y then move a b d else if x < y then move a b (move a curb d) else move a b (move cura b d)

/-! ## The counter -/

/-- Signed edge of a quadrature change: A leading B counts up (log 16). The levels are old A, old B, new A, new B. -/
def quadEdge (a0 b0 a b : Bool) : Int :=
  if a0 = a then (if b0 = b then 0 else if a = b then 1 else -1)
  else if b0 = b then (if a = b then -1 else 1) else 0

/-- The lead encoder (POS_CTRL). -/
def leadEnc (d : Device) : Nat := fget d oPosCtrl fPosCtrlLead
/-- Whether an encoder is decoded, and whether its direction is inverted (R476). -/
def encOn (d : Device) (e : Nat) : Bool := if e = 0 then fbit d oPosCtrl fPosCtrlEn0 else fbit d oPosCtrl fPosCtrlEn1
def encInv (d : Device) (e : Nat) : Bool := if e = 0 then fbit d oPosCtrl fPosCtrlInv0 else fbit d oPosCtrl fPosCtrlInv1
/-- ENC_SCALE (R477). -/
def encScale (d : Device) (e : Nat) : Int := ((rget d (oEncScale e)).toNat : Int)

/-- The 48-bit signed position (R477). -/
def position (d : Device) : Int := signed 48 (posWord d)

/-- Points of output n reached when the position is p: with NEXT at `next` and pitch `pitch`, how many (R482). -/
def pointsReached (dir : Bool) (next p : Int) (pitch : Nat) : Nat :=
  let past := if dir then next - p else p - next
  if past < 0 then 0 else past.toNat / pitch + 1

/-- One point of output n reached (R483, R484, R487). -/
def reachPoint (n : Nat) (d : Device) : Device :=
  let t := trigOf d n
  let due := d.clk.tick + 2 + fget d (oTrigTime n) fTrigTimeDelay
  if trigBlocked d then fsat (oTrigDrop n) fTrigDropDropped 1 d
  else match t.pulse with
    | .idle => setTrig n { t with pulse := .pending due (position d) false } d
    | _ => match t.held with
      | none => fsat (oTrigDrop n) fTrigDropHeld 1 (setTrig n { t with held := some (due, position d) } d)
      | some _ => fsat (oTrigDrop n) fTrigDropDropped 1 d

/-- NEXT as a signed 48-bit number (TRIG_NEXT). -/
def trigNext (d : Device) (n : Nat) : Int := signed 48 (pair64 d (oTrigNextLo n) (oTrigNextHi n))

/-- NEXT set. -/
def setNext (n : Nat) (z : Int) (d : Device) : Device :=
  rput (oTrigNextLo n) (BitVec.ofNat 32 (unsigned 48 z))
    (rput (oTrigNextHi n) (BitVec.ofNat 32 (unsigned 48 z / 2 ^ 32)) d)

/-- Output n looks at the position: every point reached moves NEXT by one pitch; the first is scheduled or held, the second held
or dropped, the others dropped (R482, R484). -/
def lookTrig (d : Device) (n : Nat) : Device :=
  if fbit d (oTrigCfg n) fTrigCfgEn then
    let dir := fbit d (oTrigCfg n) fTrigCfgDir
    let pitch := fget d (oTrigPitch n) fTrigPitchPitch
    let k := pointsReached dir (trigNext d n) (position d) (max pitch 1)
    if k = 0 then d
    else
      let move : Int := (k : Int) * (pitch : Int)
      let d := setNext n (if dir then trigNext d n - move else trigNext d n + move) d
      let d := reachPoint n d
      let d := if 2 ≤ k then reachPoint n d else d
      if 3 ≤ k then fsat (oTrigDrop n) fTrigDropDropped (k - 2) d else d
  else d

/-- Every output looks at the position. -/
def lookTrigs (d : Device) : Device := (List.range 16).foldl lookTrig d

/-- The counter set, as an s64 (R477). -/
def setCtr (z : Int) (d : Device) : Device :=
  lookTrigs { d with pos := { d.pos with ctr := signed 64 (unsigned 64 z) } }

/-- New filtered levels of an encoder stored. -/
def setLevels (e : Nat) (a b : Bool) (d : Device) : Device :=
  { d with pos := if e = 0 then { d.pos with a0 := a, b0 := b } else { d.pos with a1 := a, b1 := b } }

/-- The step accumulator takes an edge (R495). -/
def accEdge (s : Int) (d : Device) : Device :=
  let v := d.pos.acc + s
  let d := if v < -32767 ∨ 32767 < v then fput oPosStatus fPosStatusStepOvf 1 d else d
  { d with pos := { d.pos with acc := clip (-32767) 32767 v } }

/-- A filtered change of A or B of an encoder (R476, R477, R479, R482, R495). -/
def edge (e : Nat) (a b : Bool) (d : Device) : Device :=
  let a0 := if e = 0 then d.pos.a0 else d.pos.a1
  let b0 := if e = 0 then d.pos.b0 else d.pos.b1
  let d := setLevels e a b d
  if encOn d e then
    if a0 ≠ a ∧ b0 ≠ b then fsat oPosStatus fPosStatusEncErrors 1 d
    else
      let s := if encInv d e then -quadEdge a0 b0 a b else quadEdge a0 b0 a b
      if s = 0 then d
      else if d.clk.accumulating then (if e = leadEnc d then accEdge s d else d)
      else
        let inc := s * encScale d e
        let d := { d with pos := if e = 0 then { d.pos with d0 := d.pos.d0 + inc } else { d.pos with d1 := d.pos.d1 + inc } }
        if e = leadEnc d then setCtr (d.pos.ctr + inc) d else d
  else d

/-- FILT (POS_CTRL). -/
def filt (d : Device) : Nat := fget d oPosCtrl fPosCtrlFilt

/-- Samples in a row in which input k has shown another level than its filtered one. -/
def seenOf (d : Device) (k : Nat) : Nat := tabGet 0 k d.pos.seen
def setSeen (k n : Nat) (d : Device) : Device := { d with pos := { d.pos with seen := tabSet 0 k n d.pos.seen } }

/-- The inputs A and B of an encoder show levels in n consecutive samples; what their filters let through is decoded (R475, R476). -/
def encoderEdge (e : Nat) (a b : Bool) (n : Nat) (d : Device) : Device :=
  let a0 := if e = 0 then d.pos.a0 else d.pos.a1
  let b0 := if e = 0 then d.pos.b0 else d.pos.b1
  let x := filtered (filt d) n a0 a (seenOf d (3 * e))
  let y := filtered (filt d) n b0 b (seenOf d (3 * e + 1))
  inOrder x.1 y.1 a0 b0 a b (edge e) (setSeen (3 * e + 1) y.2 (setSeen (3 * e) x.2 d))

/-- The input Z of an encoder shows a level in n consecutive samples; a rising filtered Z counts (R475, R476). -/
def encoderIndex (e : Nat) (z : Bool) (n : Nat) (d : Device) : Device :=
  let z0 := if e = 0 then d.pos.z0 else d.pos.z1
  let x := filtered (filt d) n z0 z (seenOf d (3 * e + 2))
  let d := setSeen (3 * e + 2) x.2 d
  if x.1.isSome then
    let d := { d with pos := if e = 0 then { d.pos with z0 := z } else { d.pos with z1 := z } }
    if encOn d e && z then (if e = 0 then fwrap oPosStatus fPosStatusZ0 1 d else fwrap oPosStatus fPosStatusZ1 1 d) else d
  else d

/-- The load that a write of 1 to LOAD asked for (R478). -/
def positionLoad (d : Device) : Device :=
  if fbit d oPosLoadHi fPosLoadHiLoad then
    let p := signed 48 (fget d oPosLoadLo fPosLoadLoLoadPos + 2 ^ 32 * fget d oPosLoadHi fPosLoadHiLoadPos)
    setCtr (p * 65536) (fput oPosLoadHi fPosLoadHiLoad 0 d)
  else d

/-- SPEED as a signed number. -/
def speed (d : Device) : Int := signed 32 (rget d oSpeed).toNat

/-- The speed gate after an update of SPEED (R493). -/
def gateNext (on off : Nat) (open' : Bool) (v : Int) : Bool :=
  if on ≤ v.natAbs then true else if v.natAbs < min on off then false else open'

/-- Every 100 µs: SPEED is the position now minus that 1 ms earlier; the gate follows (R480, R493; log 17). -/
def speedUpdate (d : Device) : Device :=
  let now := position d
  let old := (d.pos.hist ++ [now]).getD (min 9 (d.pos.hist.length - 1)) now
  let d := rput oSpeed (BitVec.ofInt 32 (now - old)) d
  let d := { d with pos := { d.pos with hist := (now :: d.pos.hist).take 10 } }
  outputs { d with ilk := { d.ilk with
    gate := gateNext (fget d oSpeedGate fSpeedGateOnTh) (fget d oSpeedGate fSpeedGateOffTh) d.ilk.gate (speed d) } }

/-- A window shows slip (R481), the increments in 2^-16 units. -/
def slips (abs pm : Nat) (d0 d1 lead : Int) : Bool :=
  decide (max (abs * 65536 * 1024) (lead.natAbs * pm) < (d0 - d1).natAbs * 1024)

/-- The end of a 10 ms window (R481). -/
def slipWindow (d : Device) : Device :=
  if d.clk.accumulating then d else
  let d0 := d.pos.d0
  let d1 := d.pos.d1
  let lead := leadEnc d
  let dl := if lead = 0 then d0 else d1
  let prev := d.pos.prevLead
  let d := { d with pos := { d.pos with d0 := 0, d1 := 0, prevLead := dl } }
  if encOn d 0 && encOn d 1 && slips (fget d oSlipCfg fSlipCfgSlipAbs) (fget d oSlipCfg fSlipCfgSlipPm) d0 d1 dl then
    let d := fsat oPosStatus fPosStatusSlipCount 1 (fput oPosStatus fPosStatusSlip 1 d)
    let near0 := (d0 - prev).natAbs
    let near1 := (d1 - prev).natAbs
    let next := if fget d oPosCtrl fPosCtrlLeadMode = 2 then
        (if near0 < near1 then 0 else if near1 < near0 then 1 else lead) else lead
    let d := fput oPosCtrl fPosCtrlLead next d
    journal 0x0012 (leBytes 4 (unsigned 32 (d0 / 65536)) ++ leBytes 4 (unsigned 32 (d1 / 65536)) ++ leBytes 4 lead ++
      leBytes 4 next) d
  else d

/-- A scheduled pulse rises once its tick has come: the line index advances, a trigger record is due (R483, R485, R486). Where
the outputs are held low the pulse is dropped instead (R487). -/
def triggerPulse (n : Nat) (d : Device) : Device :=
  let t := trigOf d n
  match t.pulse with
  | .pending due pos held =>
    if trigBlocked d then fsat (oTrigDrop n) fTrigDropDropped 1 (setTrig n { t with pulse := .idle } d)
    else if d.clk.tick < due then d
    else
      let line := fget d (oTrigLine n) fTrigLineLine
      let d := setTrig n { t with pulse := .high (d.clk.tick + fget d (oTrigTime n) fTrigTimeWidth) } d
      let d := fwrap (oTrigLine n) fTrigLineLine 1 d
      let d := { d with
        pins := { d.pins with trig := d.pins.trig ||| BitVec.ofNat 16 (2 ^ n) },
        trigRecs := d.trigRecs ++ [{ line := line, pos := pos, output := n, held := held, time := d.clk.time }] }
      if line = 0xFFFFFFFF then raiseDev 0x0005 n (posWord d % 2 ^ 32) (posWord d / 2 ^ 32) d else d
  | _ => d

/-- A pulse ends; a held point's pulse becomes due at the later of its own tick and the next one (R483, R484). -/
def triggerPulseEnd (n : Nat) (d : Device) : Device :=
  let t := trigOf d n
  match t.pulse with
  | .high ends =>
    if d.clk.tick < ends then d
    else
      let d := { d with pins := { d.pins with trig := d.pins.trig &&& ~~~ BitVec.ofNat 16 (2 ^ n) } }
      match t.held with
      | some (due, pos) => setTrig n { pulse := .pending (max due (d.clk.tick + 1)) pos true, held := none } d
      | none => setTrig n { t with pulse := .idle } d
  | _ => d

/-- A trigger record's 32 bytes (R486). -/
def trigRecBytes (r : TrigRec) : List Byte :=
  let p := unsigned 48 r.pos
  leBytes 4 r.line ++ leBytes 4 p ++ leBytes 4 (p / 2 ^ 32 + r.output * 2 ^ 16 + b2n r.held * 2 ^ 20) ++ leBytes 4 0 ++
  leBytes 8 r.time ++ leBytes 8 0

/-- The oldest trigger record due is written to the ring in HBM (R486). -/
def triggerRecord (d : Device) : Device :=
  match d.trigRecs with
  | [] => d
  | r :: rest =>
    let base := rget d oTrigRecBaseLo
    let a := base.toNat + 2 ^ 32 * fget d oTrigRecBaseHi fTrigRecBaseHiAddr
    let k := fget d oTrigRecCount fTrigRecCountCount % 2 ^ fget d oTrigRecBaseHi fTrigRecBaseHiLog2
    fwrap oTrigRecCount fTrigRecCountCount 1 (putHbm (a + 32 * k) (trigRecBytes r) { d with trigRecs := rest })

/-- The position unit takes the accumulator's edges over (R496). -/
def positionHandover (d : Device) : Device :=
  if d.pos.handover then
    let acc := d.pos.acc
    let d := fput oStepAcc fStepAccSteps (unsigned 16 acc) d
    let d := { d with
      clk := { d.clk with accumulating := false },
      pos := { d.pos with acc := 0, handover := false, hist := [], d0 := 0, d1 := 0, prevLead := 0 } }
    setCtr (d.pos.ctr + acc * encScale d (leadEnc d)) d
  else d

/-! ## Meanings -/

/-- ENCODER_EDGE (R476). -/
def execEncoderEdge (enc : Nat) (a b : Bool) (s : State) (samples : Nat := 1) := run (.encoderEdge enc a b samples) (encoderEdge enc a b samples) s
/-- ENCODER_INDEX (R476). -/
def execEncoderIndex (enc : Nat) (s : State) (z : Bool := true) (samples : Nat := 1) := run (.encoderIndex enc z samples) (encoderIndex enc z samples) s
/-- POSITION_LOAD (R478). -/
def execPositionLoad (s : State) := run .positionLoad positionLoad s
/-- SPEED_UPDATE (R480). -/
def execSpeedUpdate (s : State) := run .speedUpdate speedUpdate s
/-- SLIP_WINDOW (R481). -/
def execSlipWindow (s : State) := run .slipWindow slipWindow s
/-- TRIGGER_PULSE (R483). -/
def execTriggerPulse (n : Nat) (s : State) := run (.triggerPulse n) (triggerPulse n) s
/-- TRIGGER_PULSE_END (R484). -/
def execTriggerPulseEnd (n : Nat) (s : State) := run (.triggerPulseEnd n) (triggerPulseEnd n) s
/-- TRIGGER_RECORD (R486). -/
def execTriggerRecord (s : State) := run .triggerRecord triggerRecord s
/-- POSITION_HANDOVER (R496). -/
def execPositionHandover (s : State) := run .positionHandover positionHandover s

end Sys2Proof.Machine
end

