-- ==== Sys2Proof/Machine/Interlock.lean ====
section
/-! DEFINITION. The illumination interlock (R488 to R494). -/

namespace Sys2Proof.Machine

/-- Both channels safe: A low and B high. -/
def ilkSafe (a b : Bool) : Bool := !a && b
/-- Both channels active: A high and B low. -/
def ilkActive (a b : Bool) : Bool := a && !b

/-- Entry to SAFE takes the written DISC (R491). -/
def ilkToSafe (d : Device) : Device :=
  { d with ilk := { d.ilk with st := .safe, disc := fget d oIlkCfg fIlkCfgDisc } }

/-- Entry to LATCHED (R489). -/
def ilkLatch (d : Device) : Device :=
  outputs (raiseDev 0x8005 0 d.ilk.disc 0 { d with ilk := { d.ilk with st := .latched } })

/-- DISAGREE with both channels in agreement again (R488). -/
def ilkSettle (d : Device) : Device :=
  if d.ilk.st = .disagree then
    if 25 * d.ilk.disc ≤ d.ilk.count then ilkLatch d
    else if ilkSafe d.ilk.a d.ilk.b then ilkToSafe d
    else if ilkActive d.ilk.a d.ilk.b then
      { d with ilk := { d.ilk with st := if d.ilk.fromSafe then .active else .hold } }
    else d
  else d

/-- New filtered levels of the channels (R488). A change out of SAFE, ACTIVE or HOLD enters DISAGREE with the count at 0; channels
that then agree leave it at once (log 19). -/
def ilkMove (a b : Bool) (d : Device) : Device :=
  if a = d.ilk.a ∧ b = d.ilk.b then d
  else
    let d1 := { d with ilk := { d.ilk with a := a, b := b } }
    outputs <| match d.ilk.st with
      | .latched => d1
      | .disagree => ilkSettle d1
      | .safe => ilkSettle { d1 with ilk := { d1.ilk with st := .disagree, fromSafe := true, count := 0 } }
      | .active | .hold => ilkSettle { d1 with ilk := { d1.ilk with st := .disagree, fromSafe := false, count := 0 } }

/-- Samples per filtered change of a channel: 250 ticks. -/
def ilkFilt : Nat := 250

/-- The pins of the two channels show levels in n consecutive samples; the interlock moves on what their filters let through (R475,
R488). -/
def interlockChange (a b : Bool) (n : Nat) (d : Device) : Device :=
  let x := filtered ilkFilt n d.ilk.a a d.ilk.seenA
  let y := filtered ilkFilt n d.ilk.b b d.ilk.seenB
  inOrder x.1 y.1 d.ilk.a d.ilk.b a b ilkMove { d with ilk := { d.ilk with seenA := x.2, seenB := y.2 } }

/-- The count reaches 25 × DISC (R488, R489). -/
def interlockDiscrepancy (d : Device) : Device :=
  if d.ilk.st = .disagree ∧ 25 * d.ilk.disc ≤ d.ilk.count then ilkLatch d else d

/-- A write of 1 to LATCH (R489). -/
def latchClear (d : Device) : Device :=
  if d.ilk.st = .latched ∧ ilkSafe d.ilk.a d.ilk.b then outputs (ilkToSafe d) else d

/-- The interlock at power-on reset (R490). -/
def ilkInit (a b : Bool) : Ilk :=
  { st := if ilkSafe a b then .safe else if ilkActive a b then .hold else .disagree,
    fromSafe := false, count := 0, a := a, b := b }

/-! ## Meanings -/

/-- INTERLOCK_CHANGE (R488). -/
def execInterlockChange (a b : Bool) (s : State) (samples : Nat := 1) := run (.interlockChange a b samples) (interlockChange a b samples) s
/-- INTERLOCK_DISCREPANCY (R489). -/
def execInterlockDiscrepancy (s : State) := run .interlockDiscrepancy interlockDiscrepancy s
/-- LATCH_CLEAR (R489). -/
def execLatchClear (s : State) := run .latchClear latchClear s

end Sys2Proof.Machine
end

