-- ==== Sys2Proof/Machine/Journal.lean ====
section
/-! DEFINITION. The journal: posting, writing, erasing, scanning, power failure and media faults (R497 to R515). -/

namespace Sys2Proof.Machine

/-- The journal area and its sectors (R498). -/
def jnlBase : Nat := 0x1000000
def jnlSectors : Nat := 1792
def jnlSector (off : Nat) : Nat := (off - jnlBase) / 65536

/-- Bytes that a record occupies (R500). -/
def recLen (plen : Nat) : Nat := 64 * ceilDiv (40 + plen) 64

/-- Bytes 0 to L - 9 of a record (R500). -/
def recHead (r : JRec) : List Byte :=
  let l := recLen r.payload.length
  leBytes 2 0x6D1E ++ leBytes 2 r.type ++ leBytes 2 r.payload.length ++ leBytes 2 0 ++ leBytes 4 r.seq ++ leBytes 8 r.time ++
  leBytes 6 (unsigned 48 r.pos) ++ leBytes 6 0 ++ r.payload ++ List.replicate (l - 8 - 32 - r.payload.length) 0

/-- Bytes 0 to L - 2: all but COMMIT (R500, R505). -/
def recBytes (r : JRec) : List Byte := recHead r ++ leBytes 4 (crc32c (recHead r)) ++ leBytes 3 0

/-- A byte of a flash; 0xFF where erased. -/
def flashAt (f : List Host.Cell) (off : Nat) : Byte := tabGet 0xFF off f

/-- Bytes programmed into a flash. -/
def flashPut : Nat → List Byte → List Host.Cell → List Host.Cell
  | _, [], f => f
  | off, b :: bs, f => flashPut (off + 1) bs (tabSet 0xFF off b f)

/-- Where a record of length l goes: at the write point, or at the start of the next sector, in ring order (R500); and whether
that enters a sector. -/
def recPlace (wp l : Nat) : Nat × Bool :=
  if wp % 65536 = 0 then (wp, true)
  else if wp % 65536 + l ≤ 65536 then (wp, false)
  else (jnlBase + (jnlSector wp + 1) % jnlSectors * 65536, true)

/-- The write point after a record. -/
def recAfter (off l : Nat) : Nat := if off + l = jnlBase + jnlSectors * 65536 then jnlBase else off + l

/-- Whether a flash is still written (R513). -/
def flashUp (d : Device) (k : Nat) : Bool :=
  if k = 0 then !fbit d oJnlStatus fJnlStatusJaFault else !fbit d oJnlStatus fJnlStatusJbFault

/-- One copy of a record programmed: committed when it reads back as written, else with bytes that the
manual leaves open (R505; log 20). -/
def writeCopy (up ok : Bool) (free off : Nat) (bs : List Byte) (f : List Host.Cell) : List Host.Cell :=
  if up then
    if ok then flashPut off (bs ++ [0x5A]) f
    else flashPut off ((List.range bs.length).map fun k => Config.flashByte (free + k)) f
  else f

/-- Attempts at writing a record (R505): each takes a place, if a sector is ready for it; a copy that does not match makes the
record be written again at the next boundary. -/
def writeTries (r : JRec) : List (Bool × Bool) → Device → Option Device
  | [], d => some d
  | (ka, kb) :: rest, d =>
    let bs := recBytes r
    let l := bs.length + 1
    let (off, enters) := recPlace d.jnl.wp l
    if enters ∧ d.jnl.erased = 0 then none
    else
      let ua := flashUp d 0
      let ub := flashUp d 1
      let j := d.jnl
      let j := { j with
        flashA := writeCopy ua ka d.free off bs j.flashA
        flashB := writeCopy ub kb (d.free + l) off bs j.flashB
        wp := recAfter off l
        erased := if enters then j.erased - 1 else j.erased
        present := if (ua && ka) || (ub && kb) then
            (j.present.filter fun x => decide (x.1 ≠ r.seq)) ++ [(r.seq, off, l)] else j.present }
      let d := { d with jnl := j, free := if (ua && !ka) || (ub && !kb) then d.free + 2 * l else d.free }
      if (ua && !ka) || (ub && !kb) then writeTries r rest d else some d

/-- The oldest present record's SEQ (R511): the record that no other is older than. -/
def oldestSeq (l : List (Nat × Nat × Nat)) : Option Nat :=
  (l.find? fun x => l.all fun y => serialGe y.1 x.1).map (·.1)
/-- The newest present record (R511). -/
def newestRec (l : List (Nat × Nat × Nat)) : Option (Nat × Nat × Nat) := l.find? fun x => l.all fun y => serialGe x.1 y.1

/-- JNL_OLDEST_SEQ follows the live window. -/
def noteOldest (d : Device) : Device :=
  match oldestSeq d.jnl.present with
  | some q => fput oJnlOldestSeq fJnlOldestSeqSeq q d
  | none => d

/-- A JOURNAL_DROPPED record's payload (R502, R504). -/
def dropPayload (t : Tab Nat) : List Byte := t.flatMap fun e => leBytes 2 e.1 ++ leBytes 2 0 ++ leBytes 4 (min e.2 0xFFFFFFFF)

/-- A JOURNAL_DROPPED record enqueued when the drop table holds a count, and the table cleared (R504). -/
def noteDrops (d : Device) : Device :=
  if d.jnl.drops = [] ∨ !jnlTakes d true then d
  else jnlPush 0x00F0 (dropPayload d.jnl.drops) { d with jnl := { d.jnl with drops := [] } }

/-- The record that is written next: in SEQ order, priority records first after PFAIL_N has fallen (R505, R508). -/
def nextRec (d : Device) : Option JRec :=
  if d.jnl.prio then
    match d.jnl.queue.find? fun r => jnlPrio r.type r.payload with
    | some r => some r
    | none => d.jnl.queue.head?
  else d.jnl.queue.head?

/-- The next queued record is programmed, verified and committed (R505); a JOURNAL_DROPPED record takes its place in the queue
(R504). -/
def journalRecordWrite (okA okB : List Bool) (d : Device) : Device :=
  if jnlDead d then d else
  match nextRec d with
  | none => d
  | some r =>
    match writeTries r (okA.zip okB) d with
    | none => d
    | some d =>
      let d := noteOldest { d with jnl := { d.jnl with queue := d.jnl.queue.erase r } }
      let d := if d.jnl.present.any (fun x => decide (x.1 = r.seq)) then perfOne 16 0x28 none 1 d else d
      noteDrops d

/-- The sector that an erase takes next: the one behind those erased ahead of the write point (R506). -/
def oldestSector (d : Device) : Nat :=
  let cur := if d.jnl.wp % 65536 = 0 then jnlSector d.jnl.wp else jnlSector d.jnl.wp + 1
  (cur + d.jnl.erased) % jnlSectors

/-- The oldest sector is erased while fewer than 8 erased ones lie ahead; its records leave the journal (R506). -/
def sectorErase (d : Device) : Device :=
  if 8 ≤ d.jnl.erased ∨ jnlDead d then d
  else
    let off := jnlBase + oldestSector d * 65536
    noteOldest { d with jnl := { d.jnl with
      flashA := if flashUp d 0 then tabDrop off 65536 d.jnl.flashA else d.jnl.flashA
      flashB := if flashUp d 1 then tabDrop off 65536 d.jnl.flashB else d.jnl.flashB
      erased := d.jnl.erased + 1
      present := d.jnl.present.filter fun x => decide (x.2.1 < off ∨ off + 65536 ≤ x.2.1) } }

/-- PFAIL_N falls (R504, R508): non-priority types are no longer taken, the drop table goes into a record, a POWER record
follows the priority records. -/
def powerFail (d : Device) : Device :=
  let d := fput oJnlStatus fJnlStatusPfailSeen 1 { d with pins := { d.pins with pfailN := false } }
  let d := noteDrops { d with jnl := { d.jnl with prio := true } }
  let n := (d.jnl.queue.filter fun r => !jnlPrio r.type r.payload).length
  journal 0x0020 (leBytes 4 n) d

/-! ## Scanning -/

/-- The record at a boundary of a flash: (TYPE-independent) SEQ and length when MAGIC and PLEN are right, and whether it is
committed and passes its CRC (R510). -/
def recAt (f : List Host.Cell) (off : Nat) : Option (Nat × Nat × Bool) :=
  let rd (k n : Nat) : Nat := leNat ((List.range n).map fun i => flashAt f (off + k + i))
  if rd 0 2 = 0x6D1E ∧ rd 4 2 ≤ 4056 then
    let l := recLen (rd 4 2)
    some (rd 8 4, l, decide (rd (l - 1) 1 = 0x5A) &&
      decide (rd (l - 8) 4 = crc32c ((List.range (l - 8)).map fun i => flashAt f (off + i))))
  else none

/-- The walk of a sector from an offset on (R510); `fuel` is the number of 64-byte boundaries left. -/
def scanSector (f : List Host.Cell) : Nat → Nat → Nat → List (Nat × Nat × Nat)
  | 0, _, _ => []
  | fuel + 1, off, limit =>
    if limit ≤ off then []
    else match recAt f off with
      | some (seq, l, good) =>
        if good then (seq, off, l) :: scanSector f fuel (off + l) limit else scanSector f fuel (off + l) limit
      | none => scanSector f fuel (off + 64) limit

/-- Sectors of the journal area in which a flash holds anything but 0xFF, ascending. -/
def usedSectors (f : List Host.Cell) : List Nat :=
  (f.filter fun c => decide (jnlBase ≤ c.1)).foldl (fun l c => nsInsert (jnlSector c.1) l) []

/-- The present records of a flash (R510). -/
def scanFlash (f : List Host.Cell) : List (Nat × Nat × Nat) :=
  (usedSectors f).flatMap fun s => scanSector f 1024 (jnlBase + s * 65536) (jnlBase + (s + 1) * 65536)

/-- The live window of both flashes: one entry for each SEQ, the later offset taken (R499, R511). -/
def liveWindow (fa fb : List Host.Cell) : List (Nat × Nat × Nat) :=
  (scanFlash fa ++ scanFlash fb).foldl (fun l x =>
    match l.find? fun y => decide (y.1 = x.1) with
    | some y => if y.2.1 < x.2.1 then (l.erase y) ++ [x] else l
    | none => l ++ [x]) []

/-- Erased sectors in ring order from a sector on. -/
def erasedRun (used : List Nat) : Nat → Nat → Nat
  | 0, _ => 0
  | fuel + 1, s => if used.contains s then 0 else 1 + erasedRun used fuel ((s + 1) % jnlSectors)

/-- The journal scanned (R510, R511; log 21). -/
def journalScan (d : Device) : Device :=
  let live := liveWindow d.jnl.flashA d.jnl.flashB
  let used := usedSectors d.jnl.flashA ++ usedSectors d.jnl.flashB
  let d := fput oJnlStatus fJnlStatusRescan 0 { d with jnl := { d.jnl with present := live } }
  match newestRec live with
  | none =>
    { d with jnl := { d.jnl with wp := jnlBase, erased := erasedRun used jnlSectors 0 } }
  | some (seq, off, l) =>
    let wp := recAfter off l
    let from' := if wp % 65536 = 0 then jnlSector wp else (jnlSector wp + 1) % jnlSectors
    let d := noteOldest { d with jnl := { d.jnl with wp := wp, erased := erasedRun used jnlSectors from' } }
    let next := (seq + 1) % 2 ^ 32
    if serialLater next (rget d oJnlNextSeq).toNat ∨ d.jnl.queue = [] ∧ (rget d oJnlNextSeq).toNat = 0 then
      fput oJnlNextSeq fJnlNextSeqSeq next d
    else d

/-- A write of 1 to RESCAN (R510). -/
def journalRescan (d : Device) : Device := if fbit d oJnlStatus fJnlStatusRescan then journalScan d else d

/-! ## Media faults and posts -/

/-- A flash fails (R512 to R514). -/
def journalMediaFault (flash op off : Nat) (d : Device) : Device :=
  if flashUp d flash then
    let d := fput oJnlStatus (if flash = 0 then fJnlStatusJaFault else fJnlStatusJbFault) 1 d
    let d := if jnlDead d then { d with pins := { d.pins with fault := true } } else d
    let d := raiseDev 0x8006 flash 0 0 d
    journal 0x00F1 (leBytes 4 flash ++ leBytes 4 op ++ leBytes 8 off) d
  else d

/-- A write of JNL_POST (R515). -/
def journalPost (v : Word) (d : Device) : Device :=
  let type := bits 15 0 v.toNat
  let plen := bits 27 16 v.toNat
  if type < 0x1000 ∨ 0x7FFF < type ∨ 4056 < plen then fput oJnlStatus fJnlStatusPostErr 1 d
  else
    let payload := ((List.range (ceilDiv plen 4)).flatMap fun k => leBytes 4 (rget d (oJnlStage k)).toNat).take plen
    let taken := jnlTakes d false
    let d := journal type payload d
    if taken then fwrap oJnlPosted fJnlPostedPosted 1 d else d

/-- The device's own record types (R502). -/
def deviceTypes : List Nat := [0x0001, 0x0002, 0x0003, 0x0011, 0x0012, 0x0013, 0x0014, 0x0020, 0x00F0, 0x00F1]

/-- A device record at intake (R501 to R504). -/
def journalIntake (type : Nat) (payload : List Byte) (d : Device) : Device :=
  if deviceTypes.contains type then journal type payload d else d

/-! ## Meanings -/

/-- JOURNAL_POST (R515). -/
def execJournalPost (v : Word) (s : State) := run (.journalPost v) (journalPost v) s
/-- JOURNAL_INTAKE (R503). -/
def execJournalIntake (type source : Nat) (payload : List Byte) (s : State) :=
  run (.journalIntake type source payload) (journalIntake type payload) s
/-- JOURNAL_RECORD_WRITE (R505). -/
def execJournalRecordWrite (okA okB : List Bool) (s : State) :=
  run (.journalRecordWrite okA okB) (journalRecordWrite okA okB) s
/-- SECTOR_ERASE (R506). -/
def execSectorErase (s : State) := run .sectorErase sectorErase s
/-- POWER_FAIL (R508). -/
def execPowerFail (s : State) := run .powerFail powerFail s
/-- JOURNAL_RESCAN (R510). -/
def execJournalRescan (s : State) := run .journalRescan journalRescan s
/-- JOURNAL_MEDIA_FAULT (R513). -/
def execJournalMediaFault (flash op off : Nat) (s : State) :=
  run (.journalMediaFault flash op off) (journalMediaFault flash op off) s

end Sys2Proof.Machine
end

