-- ==== Sys2Proof/Machine/Power.lean ====
section
/-! DEFINITION. Power cap, thermal limits, clock division and power states (R555 to R564, R495). -/

namespace Sys2Proof.Machine

/-- The division one slower, one faster (R555). -/
def slower (v : Nat) : Nat := match v with | 4 => 5 | 5 => 6 | _ => 8
def faster (v : Nat) : Nat := match v with | 8 => 6 | 6 => 5 | _ => 4

def divNow (d : Device) : Nat := fget d oAclkCtrl fAclkCtrlDiv
def divFloor (d : Device) : Nat := fget d oAclkCtrl fAclkCtrlDivFloor

/-- A division is wanted (R555, R558). -/
def wantDiv (v : Nat) (d : Device) : Device :=
  if v = divNow d then d else { d with clk := { d.clk with divWanted := some v } }

/-- DIE_POWER and PKG_POWER (R519). -/
def setPower (dies : List Nat) (pkg : Nat) (d : Device) : Device :=
  let d := (List.range 5).foldl (fun d k => rput (oDiePower k) (BitVec.ofNat 32 (dies.getD k 0)) d) d
  rput oPkgPower (BitVec.ofNat 32 pkg) d

/-- The end of a 1 ms window (R557 to R559, R473). Powers in mW; `delayed` and `waited` are the µs for which tile starts were
delayed and for which THROUGHPUT work waited on FIXED_TIME work (R474; log 5). -/
def powerWindow (dies : List Nat) (pkg delayed waited : Nat) (d : Device) : Device :=
  let d := setPower dies pkg d
  let cap := fget d oPwrCap fPwrCapCapW * 1000
  let d := if d.clk.delayTiles ∧ delayed ≠ 0 then breach 0 4 delayed d else d
  let d := if waited = 0 then d else breach 2 4 waited d
  if cap < pkg ∨ d.clk.hot ≠ [] then
    let capOver := if d.clk.delayTiles then d.clk.capOver + 1 else 0
    let d := { d with clk := { d.clk with capOver := capOver, capUnder := 0, delayTiles := true } }
    if 2 ≤ capOver then wantDiv (slower (divNow d)) d else d
  else
    let low := pkg * 100 < cap * 95
    let capUnder := if low then d.clk.capUnder + 1 else 0
    let step := decide (10 ≤ capUnder)
    let d := { d with clk := { d.clk with capOver := 0, capUnder := if step then 0 else capUnder, delayTiles := false } }
    if step then wantDiv (max (faster (divNow d)) (divFloor d)) d else d

/-- CORE_VID of a division (R555, R590). -/
def vidOf (v : Nat) : BitVec 2 := match v with | 4 => 0 | 5 => 1 | 6 => 2 | _ => 3

/-- The division that was decided takes effect (R555). -/
def aclkDivChange (v : Nat) (d : Device) : Device :=
  if d.clk.divWanted = some v then
    fput oAclkCtrl fAclkCtrlDiv v
      { d with clk := { d.clk with divWanted := none }, pins := { d.pins with coreVid := vidOf v } }
  else d

/-- The largest of a die's sensors (R519). -/
def hottest (l : List Int) : Int := l.foldl max (l.headD 0)

/-- A die's hot count: 1 when it has reached THROTTLE_C; each later update below THROTTLE_C - 3 adds 1, any other restarts it;
after 100 of them it no longer throttles (R559). -/
def hotNext (old : Nat) (reached cool : Bool) : Nat :=
  if reached then 1 else if old = 0 then 0 else if cool then (if old = 100 then 0 else old + 1) else 1

/-- Outputs low, MAIN_EN low: the thermal trip (R560). -/
def thermalTrip (d : Device) : Device :=
  let d := mainReset d
  outputs { d with clk := { d.clk with power := .tripped }, pins := { d.pins with mainEn := false } }

/-- A die's sensors updated (R519, R559, R560). -/
def tempDie (k : Nat) (l : List Int) (d : Device) : Device :=
  let old := signed 16 (rget d (oTempMax k)).toNat
  let m := hottest l
  let d := (List.range 8).foldl (fun d s => rput (oTemp k s) (BitVec.ofNat 32 (unsigned 16 (l.getD s 0))) d) d
  let d := rput (oTempMax k) (BitVec.ofNat 32 (unsigned 16 m)) d
  let thr : Int := fget d oThermCfg fThermCfgThrottleC
  let reached := decide (thr * 16 ≤ m)
  let d := if reached && decide (old < thr * 16) then raiseDev 0x8007 k (unsigned 32 (m / 16)) 0 d else d
  { d with clk := { d.clk with
    hot := tabSet 0 k (hotNext (tabGet 0 k d.clk.hot) reached (decide (m < (thr - 3) * 16))) d.clk.hot } }

/-- Every 100 µs (R519, R559, R560, R595). `taken` is the HBM bandwidth in MB/s that the higher refresh rate takes from reservation
classes (R474; log 5). -/
def tempUpdate (temps : List (List Int)) (taken : Nat) (d : Device) : Device :=
  let d := (List.range 5).foldl (fun d k => tempDie k (temps.getD k []) d) d
  let d := if taken = 0 then d else breach 2 3 taken d
  match (List.range 5).find? fun k => decide (((fget d oThermCfg fThermCfgTripC : Nat) : Int) * 16 ≤ hottest (temps.getD k [])) with
  | some k => if powered d then thermalTrip (raiseDev 0x8007 k (unsigned 32 (hottest (temps.getD k []) / 16)) 0 d) else d
  | none => d

/-! ## Power states (R561 to R564) -/

/-- Some partition has FT_ENABLE at 1 (R561). -/
def anyFixedTime (d : Device) : Bool := (List.range 64).any fun p => fbit d (oEngCtrl p) fEngCtrlFtEnable

/-- IDLE_US without work (R561). -/
def idleEntry (d : Device) : Device :=
  if d.clk.power = .run ∧ d.cmds = [] ∧ !anyFixedTime d ∧
      d.clk.busyAt + fget d oPwrState fPwrStateIdleUs * 1000 ≤ d.clk.time then powerTo .idle d else d

/-- A write of RUN to REQ (R562). -/
def reqRun (d : Device) : Device := if powered d then powerTo .run { d with clk := { d.clk with standbyWanted := false } } else d

/-- A write of STANDBY to REQ (R562). -/
def reqStandby (d : Device) : Device := if powered d then { d with clk := { d.clk with standbyWanted := true } } else d

/-- STANDBY once no command is queued or running (R562). -/
def standbyEntry (d : Device) : Device :=
  if d.clk.standbyWanted ∧ powered d ∧ d.cmds = [] then powerTo .standby d else d

/-- Packets that the port holds. -/
def trcWaiting (t : Trace) : Nat :=
  t.alarms.length + t.own.length + t.fifo0.length + t.fifo1.length + t.fifo2.length + t.fifo3.length

/-- The port sends every packet still queued (R540). -/
def trcDrain : Nat → Device → Device
  | 0, d => d
  | fuel + 1, d => trcDrain fuel (tracePacketSend d)

/-- Some partition is enabled, or the device is in a pair (R563). -/
def sleepRefused (d : Device) : Bool :=
  (List.range 64).any (partEn d) || fbit d oPairCtrl fPairCtrlPairEn

/-- A write of SLEEP to REQ (R563, R540). -/
def reqSleep (d : Device) : Device :=
  if !powered d then d
  else if sleepRefused d then fput oPwrState fPwrStatePwrErr 1 d
  else
    let old := powerCode d.clk.power
    let d := trcDrain (3 * trcWaiting d.trc + 12) d
    let d := if trcOn d then trcSend 5 (powerPkt old 3 0 d) d else d
    let d := mainReset d
    outputs { d with
      clk := { d.clk with power := .sleep, sleepAt := d.clk.time }
      pins := { d.pins with mainEn := false } }

/-- The device leaves SLEEP: MAIN_EN high, waiting for the rails (R564). -/
def leaveSleep (d : Device) : Device :=
  if d.clk.power = .sleep then
    { d with clk := { d.clk with power := .waking }, pins := { d.pins with mainEn := true } }
  else d

/-- SLEEP_TIMER seconds have passed (R564). -/
def sleepTimerWake (d : Device) : Device :=
  let w := (rget d oSleepTimer).toNat
  if w ≠ 0 ∧ d.clk.sleepAt + w * 1000000000 ≤ d.clk.time then leaveSleep d else d

/-- PERST_N rises (R564, R570). -/
def perstRise (d : Device) : Device :=
  leaveSleep { d with pins := { d.pins with perstN := true }, pcie := { d.pcie with held := false } }

/-- An edge of the lead encoder in SLEEP, and the wake (R495, R564). -/
def motionWake (a b : Bool) (n : Nat) (d : Device) : Device :=
  if d.clk.accumulating then
    let d := encoderEdge (leadEnc d) a b n d
    if fbit d oWakeCfg fWakeCfgWakeEn && decide (fget d oWakeCfg fWakeCfgWakeEdges ≤ d.pos.acc.natAbs) then leaveSleep d else d
  else d

/-! ## Meanings -/

/-- POWER_WINDOW (R558). -/
def execPowerWindow (dies : List Nat) (pkg delayed waited : Nat) (s : State) :=
  run (.powerWindow dies pkg delayed waited) (powerWindow dies pkg delayed waited) s
/-- ACLK_DIV_CHANGE (R555). -/
def execAclkDivChange (div : Nat) (s : State) := run (.aclkDivChange div) (aclkDivChange div) s
/-- TEMP_UPDATE (R519). -/
def execTempUpdate (temps : List (List Int)) (taken : Nat) (s : State) := run (.tempUpdate temps taken) (tempUpdate temps taken) s
/-- IDLE_ENTRY (R561). -/
def execIdleEntry (s : State) := run .idleEntry idleEntry s
/-- REQ_RUN (R562). -/
def execReqRun (s : State) := run .reqRun reqRun s
/-- REQ_STANDBY (R562). -/
def execReqStandby (s : State) := run .reqStandby reqStandby s
/-- STANDBY_ENTRY (R562). -/
def execStandbyEntry (s : State) := run .standbyEntry standbyEntry s
/-- REQ_SLEEP (R563). -/
def execReqSleep (s : State) := run .reqSleep reqSleep s
/-- SLEEP_TIMER_WAKE (R564). -/
def execSleepTimerWake (s : State) := run .sleepTimerWake sleepTimerWake s
/-- PERST_RISE (R564). -/
def execPerstRise (s : State) := run .perstRise perstRise s
/-- MOTION_WAKE (R495). -/
def execMotionWake (a b : Bool) (s : State) (samples : Nat := 1) := run (.motionWake a b samples) (motionWake a b samples) s

end Sys2Proof.Machine
end

