-- ==== Sys2Proof/Machine/Reset.lean ====
section
/-! DEFINITION. Start-up, power-on reset, loss and return of the main rails, firmware images (R565 to R572, R606). -/

namespace Sys2Proof.Machine

/-! ## Spare maps (R53, R606) -/

/-- A die's spare that serves a logical array, if one is mapped in. -/
def spareOf (d : Device) (a : Nat) : Option Nat :=
  (List.range 4).find? fun n => fbit d (oSpareMap (a / 48) n) fSpareMapValid &&
    decide (fget d (oSpareMap (a / 48) n) fSpareMapLogical = a % 48)

/-- A free spare of a die: neither VALID nor FAILED. DESIGN CHOICE: of several, the one with the lowest number, where R606 says
only "another free spare" (log 78). -/
def freeSpare (d : Device) (die : Nat) : Option Nat :=
  (List.range 4).find? fun n => !fbit d (oSpareMap die n) fSpareMapValid && !fbit d (oSpareMap die n) fSpareMapFailed

/-- The spare that serves a logical array has failed: VALID cleared, FAILED set, LOGICAL kept (R606). -/
def spareFail (a : Nat) (d : Device) : Device :=
  match spareOf d a with
  | some n => fput (oSpareMap (a / 48) n) fSpareMapValid 0 (fput (oSpareMap (a / 48) n) fSpareMapFailed 1 d)
  | none => d

/-- A spare mapped in for a logical array. -/
def spareMapIn (a n : Nat) (d : Device) : Device :=
  rput (oSpareMap (a / 48) n) (BitVec.ofNat 32 (a % 48 + 2 ^ 7)) (spareFail a d)

/-- A logical array retired (R53). -/
def retireArray (a : Nat) (d : Device) : Device :=
  let d := spareFail a d
  rput (oAvailMask (a / 32)) (rget d (oAvailMask (a / 32)) &&& ~~~ BitVec.ofNat 32 (2 ^ (a % 32))) d

/-- A failing array that the self-test finds: a spare is mapped in, or the array is retired, and the event goes to the journal (R50,
R53, R54, R569; log 78). -/
def mapFailed (d : Device) (a : Nat) : Device :=
  if a < 192 ∧ avail d a then
    match freeSpare d (a / 48) with
    | some n => raiseArray 0x0006 a n (spareMapIn a n d)
    | none => raiseArray 0x8001 a 0 (retireArray a d)
  else d

/-- A failing spare that the self-test finds, spare n of die k as 4 × k + n: one that is mapped in is a fault of the array that
it serves (R606); any other is never mapped in. -/
def failSpare (d : Device) (k : Nat) : Device :=
  if k < 16 then
    let off := oSpareMap (k / 4) (k % 4)
    if fbit d off fSpareMapValid then mapFailed d (k / 4 * 48 + fget d off fSpareMapLogical) else fput off fSpareMapFailed 1 d
  else d

/-- An entry of the fuse maps, applied after what the journal holds (R50, R54, R606). Where the journal has mapped another spare for
the array, or has retired it, the fuses' spare has failed at run time; where it is no longer free, the array takes another
(log 78). -/
def fuseArray (d : Device) (x : Nat × Nat) : Device :=
  if x.1 < 192 ∧ x.2 < 4 then
    let off := oSpareMap (x.1 / 48) x.2
    let used := fbit d off fSpareMapValid || fbit d off fSpareMapFailed
    if !avail d x.1 || (spareOf d x.1).isSome then
      if used then d else rput off (BitVec.ofNat 32 (x.1 % 48 + 2 ^ 6)) d
    else if used then mapFailed d x.1
    else spareMapIn x.1 x.2 d
  else d

/-- A control processor that the fuses replace by its die's spare (R50, R456). -/
def fuseProc (d : Device) (x : Nat × Nat) : Device :=
  if x.1 < 5 ∧ x.2 < 3 ∧ !fbit d (oCpStatus x.1) fCpStatusSpareUsed then
    fput (oCpStatus x.1) fCpStatusActive (15 - 2 ^ x.2) (fput (oCpStatus x.1) fCpStatusSpareUsed 1 d)
  else d

/-! ## What the journal reapplies (R54, R411, R569) -/

/-- The EVENT record at a flash offset as (CODE, SOURCE, ARG0). -/
def eventAt (f : List Host.Cell) (off : Nat) : Option (Nat × Nat × Nat) :=
  let rd (k n : Nat) : Nat := leNat ((List.range n).map fun i => flashAt f (off + k + i))
  if rd 2 2 = 0x0003 then some (rd 32 2, rd 36 4, rd 40 4) else none

/-- The flash whose copy of the record at an offset is good. -/
def goodCopy (j : Jnl) (off : Nat) : List Host.Cell :=
  match recAt j.flashA off with
  | some (_, _, true) => j.flashA
  | _ => j.flashB

/-- Put by distance from the oldest SEQ. -/
def bySeqInsert (base : Nat) (x : Nat × Nat × Nat) : List (Nat × Nat × Nat) → List (Nat × Nat × Nat)
  | [] => [x]
  | y :: r =>
    if (x.1 + 2 ^ 32 - base) % 2 ^ 32 ≤ (y.1 + 2 ^ 32 - base) % 2 ^ 32 then x :: y :: r else y :: bySeqInsert base x r

/-- The live window in SEQ order. -/
def bySeq (l : List (Nat × Nat × Nat)) : List (Nat × Nat × Nat) :=
  match oldestSeq l with
  | some b => l.foldr (bySeqInsert b) []
  | none => l

/-- A retirement entry reapplied (R411). -/
def reapplyPage (k page : Nat) (d : Device) : Device :=
  let e := fget d (oHbmUnc k) fHbmUncRetired
  if k < 6 ∧ e < 128 then
    fput (oHbmUnc k) fHbmUncRetireFull (if e = 127 then 1 else 0)
      (fsat (oHbmUnc k) fHbmUncRetired 1
        (rput (oRetireEntry k e) (BitVec.ofNat 32 (page % 2 ^ 24 + b2n (Config.retireUncorr k page) * 2 ^ 30 + 2 ^ 31)) d))
  else d

/-- One journalled event reapplied: spare maps, retired arrays, retired pages. -/
def reapply (d : Device) (x : Nat × Nat × Nat) : Device :=
  match eventAt (goodCopy d.jnl x.2.1) x.2.1 with
  | some (0x0006, a, n) => if a < 192 ∧ n < 4 then spareMapIn a n d else d
  | some (0x8001, a, _) => if a < 192 then retireArray a d else d
  | some (0x000A, k, page) => reapplyPage k page d
  | _ => d

/-! ## Firmware (R571) -/

/-- The START record (R502; log 27). -/
def startRecord (d : Device) : Device :=
  journal 0x0001 (leBytes 8 (match d.variant with | .c => 0 | .t => 1) ++
    leBytes 8 (rget d oStraps).toNat ++ leBytes 8 (rget d oFwVersion).toNat ++
    leBytes 8 (rget d oResetCause).toNat) d

/-- Step 8 ends with an image started (R569, R571). -/
def started (src : Nat) (version : Word) (d : Device) : Device :=
  let d := fput oBootCtrl fBootCtrlSource src (rput oFwVersion version d)
  startRecord (outputs { d with clk := { d.clk with power := .run, busyAt := d.clk.time } })

/-- Step 8: the firmware source that STRAP_BOOT selects (R571). -/
def loadFirmware (d : Device) : Device :=
  let im := d.images
  if d.straps.boot ≠ 1 ∧ im.slotA then started 0 im.version d
  else if d.straps.boot ≠ 1 ∧ im.slotB then started 1 im.version d
  else if d.straps.boot = 2 then
    fput oBootCtrl fBootCtrlSource 3 (fput oBootCtrl fBootCtrlBootErr 1 (outputs { d with clk := { d.clk with power := .noImage } }))
  else fput oBootCtrl fBootCtrlSource 3 (outputs { d with clk := { d.clk with power := .awaitImage } })

/-- Steps 4 to 8 (R569), with the reset cause. -/
def startUp (cause : Nat) (p : PowerOn) (d : Device) : Device :=
  let d := (bySeq d.jnl.present).foldl reapply d
  let d := p.fuseProcs.foldl fuseProc (p.fuseArrays.foldl fuseArray d)
  let d := p.failedArrays.foldl mapFailed (p.failedSpares.foldl failSpare d)
  let d := fput oAclkCtrl fAclkCtrlPllSpare (b2n p.pllSpare) d
  let d := fput oResetCause fResetCauseCause cause d
  let d := { d with images := { slotA := p.slotA, slotB := p.slotB, version := p.version },
                    pos := { d.pos with handover := d.clk.accumulating } }
  loadFirmware d

/-! ## Resets -/

/-- A power-on reset and the start-up that follows with the rails good: everything but the flashes at its reset value (R565,
R569, R572). -/
def powerOnReset (p : PowerOn) (d : Device) : Device :=
  let d : Device := {
    variant := d.variant
    straps := { compat7 := p.compat7, boot := p.boot, slot := p.slot, role := p.role }
    pins := { perstN := d.pins.perstN, fenceIn := d.pins.fenceIn, hbIn := d.pins.hbIn }
    pcie := { held := !d.pins.perstN }
    ilk := ilkInit p.ilkA p.ilkB
    jnl := { flashA := d.jnl.flashA, flashB := d.jnl.flashB }
    free := d.free, out := d.out }
  startUp 0 p (journalScan d)

/-- VCC_AUX falls below its limits: OFF until it returns (R565, R585, R593). -/
def vccAuxLoss (d : Device) : Device :=
  { variant := d.variant, clk := { power := .off },
    pins := { perstN := d.pins.perstN, fenceIn := d.pins.fenceIn, hbIn := d.pins.hbIn, mainEn := false },
    jnl := { flashA := d.jnl.flashA, flashB := d.jnl.flashB }, free := d.free, out := d.out }

/-- Main power is present. -/
def mainUp (d : Device) : Bool := powered d || decide (d.clk.power = .awaitImage) || decide (d.clk.power = .noImage)

/-- A main rail leaves its tolerance (R567, R593). -/
def mainPowerLoss (d : Device) : Device :=
  if mainUp d then
    let d := mainReset d
    outputs { d with clk := { d.clk with power := .mainLost } }
  else d

/-- The reset cause of a return of the rails (RESET_CAUSE). -/
def causeOf (p : Power) : Option Nat :=
  match p with
  | .waking => some 3
  | .mainLost => some 4
  | .tripped => some 5
  | _ => none

/-- The rails return: steps 4 to 8, and the position unit is to take over (R496, R564, R567). After SLEEP the trace port's first
packets are SYNC and POWER_STATE (R540). -/
def mainRailsGood (p : PowerOn) (d : Device) : Device :=
  match causeOf d.clk.power with
  | none => d
  | some cause =>
    let d := startUp cause p { d with pins := { d.pins with mainEn := true } }
    if cause = 3 ∧ d.clk.power = .run then trcOwn (powerPkt 3 0 0 d) (trcOwn (syncPkt d) d) else d

/-! ## Warm reset (R565, R566) -/

/-- Registers that a warm reset keeps: those that only power-on reset restores, RWS fields, retirement entries (R565, R597;
log 25). -/
def warmKeeps (off : Nat) : Bool :=
  match regFind off with
  | some (f, _) =>
    match f.id with
    | .hbmClass | .hbmRegion | .retireEntry => true
    | _ => decide (f.dom = .po) || decide (f.dom = .fused)
  | none => true

/-- RETIRED and RETIRE_FULL of a stack (log 25). -/
def keepRetired (old : Device) (d : Device) (k : Nat) : Device :=
  fput (oHbmUnc k) fHbmUncRetireFull (fget old (oHbmUnc k) fHbmUncRetireFull)
    (fput (oHbmUnc k) fHbmUncRetired (fget old (oHbmUnc k) fHbmUncRetired) d)

/-- A warm reset up to the firmware's start; what the commands that it stops leave in memory is settled before (R566). -/
def warmCore (cause : Nat) (d : Device) : Device :=
  let d1 : Device := { d with
    regs := d.regs.filter fun e => warmKeeps e.1
    frz := {}, cmds := [], parts := [], tiles := [], scat := [], scs := [], links := [],
    align := { stepped := d.align.stepped }, rem := {}, coll := {}, pair := {}, trc := {}, smp := [], smpCount := 0
    trigs := [], waiting := [], served := [], pcie := { held := d.pcie.held }
    arrs := (d.arrs.filter fun e => e.2.failing).map fun e => (e.1, { failing := true, held := e.2.held })
    pins := { d.pins with hbOut := false, fenceOut := false, claim := false, trig := 0, coreVid := 0 }
    clk := { d.clk with capOver := 0, capUnder := 0, delayTiles := false, hot := [], divWanted := none, aclk := 0, fclk := 0, hclk := 0,
                        standbyWanted := false, warmWanted := false } }
  let d1 := (List.range 6).foldl (keepRetired d) d1
  loadFirmware (fput oResetCause fResetCauseCause cause d1)

/-- A write of BOOT_CTRL with GO at 1 (R571): the image lies in HBM from local address 0. A warm reset asked for before start-up
ended follows (R568). An image that cannot be read whole (R406) is rejected. -/
def bootGo (v : Word) (x : Circ) (d : Device) : Device :=
  let w := v.toNat
  let d := fput oBootCtrl fBootCtrlLen (bits 31 8 w) (if bit 1 w then fput oBootCtrl fBootCtrlBootErr 0 d else d)
  if d.clk.power = .awaitImage ∧ bit 0 w then
    let d := applyCirc 0 x d
    let image := bytesAt d 0 (64 * fget d oBootCtrl fBootCtrlLen)
    if Config.imageVerifies image && (firstBad d 0 image.length).isNone then
      let d := started 2 (Config.imageVersion image) d
      if d.clk.warmWanted then warmCore 2 d else d
    else fput oBootCtrl fBootCtrlBootErr 1 d
  else d

/-! ## Meanings -/

/-- POWER_ON_RESET (R569). -/
def execPowerOnReset (p : PowerOn) (s : State) := run (.powerOnReset p) (powerOnReset p) s
/-- MAIN_POWER_LOSS (R567). -/
def execMainPowerLoss (s : State) := run .mainPowerLoss mainPowerLoss s
/-- MAIN_RAILS_GOOD (R567). -/
def execMainRailsGood (p : PowerOn) (s : State) := run (.mainRailsGood p) (mainRailsGood p) s
/-- BOOT_GO (R571). -/
def execBootGo (v : Word) (s : State) (c : Circ := {}) := run (.bootGo v c) (bootGo v c) s
/-- VCC_AUX_LOSS (R565). -/
def execVccAuxLoss (s : State) := run .vccAuxLoss vccAuxLoss s

end Sys2Proof.Machine
end

