-- ==== Sys2Proof/Machine/Array.lean ====
section
/-! DEFINITION. Array faults and spares (R52, R53, R451 to R455, R606) and tallies (R267 to R270, R612). -/

namespace Sys2Proof.Machine

/-- A running command holds the array. -/
def arrayHeld (d : Device) (a : Nat) : Bool :=
  d.cmds.any fun c => decide (c.phase = .running) && decide (queueOf c = some .matrix) && (motifList (targetOf c)).contains a

/-- The tile that an array works at, with its command: the group that drains, for a fault that the drain finds (R451). -/
def faultTile (d : Device) (a : Nat) (kind : FaultKind) : Option (Cmd × Share × Prog × Nat) :=
  match jobOf d a with
  | none => none
  | some (c, _, s, p) =>
    let g := match kind, p.drain with
      | .accumulator, some dr => dr.group
      | _, _ => if p.closed then p.next else p.group
    some (c, s, p, g)

/-- No spare is left: the logical array is retired, and the running command ends (R53). -/
def retireNow (a : Nat) (kind : FaultKind) (d : Device) : Device :=
  let d := match faultTile d a kind with
    | some (c, s, _, g) => stopTile c s g stRemote d
    | none =>
      match d.cmds.find? fun c => decide (c.phase = .running) && decide (queueOf c = some .matrix) && (motifList (targetOf c)).contains a with
      | some c => stopWith c.id (refusedWith stRemote) d
      | none => d
  let d := retireArray a (setArr a { arrOf d a with failing := false } { d with subst := d.subst.erase a })
  raiseArray 0x8001 a 0 d

/-- The array's work in progress is discarded, from the tile group that is retried on (R52, R452). -/
def discardTile (a : Nat) (kind : FaultKind) (d : Device) : Device :=
  match faultTile d a kind with
  | none => d
  | some (_, _, p, g) =>
    let lost := match kind with | .accumulator => true | _ => false
    let gone := match p.drain with | some dr => lost || (!dr.fin && decide (dr.group = g)) | none => false
    let x := arrOf d a
    setArr a { x with active := {}, shadow := if gone then {} else x.shadow, latch := {}, latchShadow := {},
                      prog := some { p with next := g, closed := true, ahead := none, drain := if gone then none else p.drain } } d

/-- The array whose substitution is under way on a die: the fault found first (R454). -/
def substNow (d : Device) (die : Nat) : Option Nat := d.subst.find? fun a => decide (dieOf a = die)

/-- An array fault (R451 to R454): with a free spare, or with a substitution ahead of it on its die, the array is held. -/
def arrayFault (a : Nat) (kind : FaultKind) (d : Device) : Device :=
  if (arrOf d a).failing || !avail d a then d
  else if (freeSpare d (dieOf a)).isNone && (substNow d (dieOf a)).isNone then retireNow a kind d
  else
    let d := discardTile a kind d
    setArr a { arrOf d a with failing := true, kept := none } { d with subst := d.subst ++ [a] }

/-- The substitution under way on the array's die ends (R452, R454): the spare is mapped in, or, where the last free spare has gone
to a fault ahead, the array is retired; the accesses that were held are served. DESIGN CHOICE: a spare that has failed keeps VALID 1
until this step, which clears it with FAILED set; R606 gives no moment (log 78). -/
def spareMapped (a : Nat) (d : Device) : Device :=
  if (arrOf d a).failing ∧ substNow d (dieOf a) = some a then
    serveHeld (match freeSpare d (dieOf a) with
    | some n =>
      raiseArray 0x0006 a n (spareMapIn a n (setArr a { arrOf d a with failing := false } { d with subst := d.subst.erase a }))
    | none => retireNow a .idleTest d)
  else d

/-- The idle test of an array that no command holds (R451, R455). -/
def idleTest (a : Nat) (pass : Bool) (d : Device) : Device :=
  if pass || arrayHeld d a then d else arrayFault a .idleTest d

/-- A tally incremented: the word's parity is checked first (R268, R612). -/
def tallyUp (a t : Nat) (d : Device) : Device :=
  let l := wordAddr a (4 * (65472 + t))
  let d := perfArr a 0x0C none 1 d
  if (firstBad d l 4).isSome then countParity l d
  else storeBytes l (leBytes 4 (wsWord d a (65472 + t) + 1)) d

/-- An increment that is due is applied, once the array's stores may be accessed (R254, R268, R453). -/
def tallyIncrement (a t : Nat) (d : Device) : Device :=
  let x := arrOf d a
  if heldArray d a || !x.held.contains t then d
  else tallyUp a t (setArr a { x with held := x.held.erase t } d)

/-! ## Meanings -/

/-- ARRAY_FAULT (R451). -/
def execArrayFault (a : Nat) (kind : FaultKind) (progress : Nat) (s : State) := run (.arrayFault a kind progress) (arrayFault a kind) s
/-- SPARE_MAPPED (R452). -/
def execSpareMapped (a : Nat) (s : State) := run (.spareMapped a) (spareMapped a) s
/-- IDLE_TEST (R451). -/
def execIdleTest (a : Nat) (pass : Bool) (s : State) := run (.idleTest a pass) (idleTest a pass) s
/-- TALLY_INCREMENT (R268). -/
def execTallyIncrement (a t : Nat) (s : State) := run (.tallyIncrement a t) (tallyIncrement a t) s

end Sys2Proof.Machine
end

