-- ==== Sys2Proof/Machine/Collective.lean ====
section
/-! DEFINITION. Collectives (R443 to R450). -/

namespace Sys2Proof.Machine

/-! ## Fields (R443) -/

def cSrc (c : Cmd) : Nat := cf c 6 31 0 + 2 ^ 32 * cf c 7 15 0
def cDst (c : Cmd) : Nat := cf c 8 31 0 + 2 ^ 32 * cf c 9 15 0
def cBytes (c : Cmd) : Nat := cf c 10 31 0
def cId (c : Cmd) : Nat := cf c 11 15 0
def cRoot (c : Cmd) : Nat := cf c 11 19 16
def cAll (c : Cmd) : Nat := cf c 11 20 20
def cFp (c : Cmd) : Bool := decide (cf c 11 21 21 = 1)
def cClass (c : Cmd) : Nat := cf c 11 24 22
def cTimeout (c : Cmd) : Nat := cf c 12 23 0

def isReduce (c : Cmd) : Bool := decide (opOf c = 0x48)
def isBcast (c : Cmd) : Bool := decide (opOf c = 0x49)

/-- Chunks of 64 KiB (R448). -/
def cChunks (c : Cmd) : Nat := ceilDiv (cBytes c) 65536

/-- The other members (R444). -/
def others (d : Device) (c : Cmd) : List Nat := (members d c.part).filter fun m => decide (m ≠ ownSlot d)

/-- What a member sends of its collective (R444). -/
def descOf (d : Device) (c : Cmd) : Desc :=
  { opcode := opOf c, collId := cId c, bytes := cBytes c, fmt := b2n (cFp c), root := cRoot c, all := cAll c,
    members := fget d (oPartCtrl c.part) fPartCtrlDomainMembers, cancel := false }

/-! ## Checks -/

/-- This member reads SRC, writes DST. -/
def readsSrc (d : Device) (c : Cmd) : Bool := isReduce c || (isBcast c && decide (cRoot c = ownSlot d))
def isLastMember (d : Device) (c : Cmd) : Bool := decide ((members d c.part).getLast? = some (ownSlot d))
def writesDst (d : Device) (c : Cmd) : Bool :=
  (isReduce c && (isLastMember d c || decide (cAll c = 1))) || (isBcast c && decide (cRoot c ≠ ownSlot d))

/-- The sides that a member touches. -/
def collSides (d : Device) (c : Cmd) : List Nat := (if readsSrc d c then [cSrc c] else []) ++ (if writesDst d c then [cDst c] else [])

/-- Side rates of R335 for a collective's class. -/
def collSide (d : Device) (c : Cmd) (l : Nat) : Side :=
  if isHbm l then ⟨minRate d (cClass c), ftSlots d (cClass c), 600⟩
  else if dieAt l = engDie c then ⟨64, 1, 60⟩ else ⟨32, 1, 120⟩

/-- ceil(n × 1.6 GHz / R_b): the least of 90 GB/s, of this member's sides, and for a BROADCAST of the root's source side, which
another member gives as GB/s (R447; log 75). -/
def collCycles (d : Device) (c : Cmd) (root : Option (Nat × Nat)) (n : Nat) : Nat :=
  let far := match root with
    | some (a, b) => if isBcast c && decide (0 < a) && decide (0 < b) then [sideCycles n ⟨a, b, 0⟩] else []
    | none => []
  (far ++ (collSides d c).map fun l => sideCycles n (collSide d c l)).foldl max (sideCycles n ⟨90, 1, 400⟩)

/-- Budgets in ACLK (R446, R447, R449). -/
def collBudget (d : Device) (c : Cmd) (root : Option (Nat × Nat)) : Nat :=
  if isBcast c then collCycles d c root (cBytes c) + 640
  else if isReduce c then
    let h := collCycles d c none (min (cBytes c) 65536) + 640
    collCycles d c none (cBytes c) + ((members d c.part).length - 1) * h + (if cAll c = 1 then h else 0)
  else 0

/-- The MALFORMED checks (R443). -/
def collBad (d : Device) (c : Cmd) : Bool :=
  headBad c || !domainOf c || decide (cf c 7 31 16 ≠ 0) || decide (cf c 9 31 16 ≠ 0) || decide (cf c 11 31 25 ≠ 0) ||
  decide (cf c 12 31 24 ≠ 0) || wordsSet c 13 15 ||
  (if isReduce c then decide (cRoot c ≠ 0)
   else if isBcast c then decide (cf c 11 21 20 ≠ 0) || !(members d c.part).contains (cRoot c)
   else wordsSet c 6 10 || decide (cf c 11 31 16 ≠ 0)) ||
  decide (cBytes c % 32 ≠ 0) || (collSides d c).any (fun l => sideBad l (cBytes c)) || (fixedTime c && decide (2147483648 < collBudget d c none))

/-- The PERMISSION checks (R46, R47, R263, R265, R398). -/
def collPerm (d : Device) (c : Cmd) : Bool :=
  headPerm d c || (decide (opOf c ≠ 0x4A) && (!mapped (cSrc c) || !mapped (cDst c))) ||
  (decide (cBytes c ≠ 0) && (collSides d c).any fun l => sidePerm d c.part l (cBytes c))

/-- How the checks refuse a collective. -/
def collCheck (d : Device) (c : Cmd) : Option Done :=
  if collBad d c then some (refusedWith stMalformed)
  else if collPerm d c then some (refusedWith stPermission)
  else if retiredTarget d c then some (refusedWith stRemote)
  else none

/-! ## Descriptors (R444, R445) -/

/-- A member has room for a DESC of this one: it holds fewer than 16 (R445). -/
def descRoom (d : Device) (m : Nat) : Bool := decide ((d.coll.sent.filter fun x => decide (x.1 = m)).length < 16)

/-- The DESC of a member for a command's collective. -/
def heldDesc (d : Device) (c : Cmd) (m : Nat) : Option Desc :=
  (d.coll.descs.find? fun x => decide (x.1 = m) && decide (x.2.collId = cId c)).map (·.2)

/-- The member holds every DESC and has sent its own (R444, R445). -/
def collReady (d : Device) (c : Cmd) : Bool := (others d c).all fun m => (heldDesc d c m).isSome && c.descTo.contains m

/-- A collective starts, for R331, in the cycle in which the member holds every DESC and has sent its own (R444, R445, R556). -/
def collStart (id : Nat) (d : Device) : Device :=
  match cmdOf d id with
  | some c =>
    if collReady d c && !c.admitted then
      setCmd { c with admitted := true, startAt := d.clk.time, div := fget d oAclkCtrl fAclkCtrlDiv } d
    else d
  | none => d

/-- A running collective sends its DESC to every other member that has room. A peer that has sent its own has started the
collective, and holds none of this member's (R445). -/
def sendDescs (c : Cmd) (d : Device) : Device :=
  collStart c.id ((others d c).foldl (fun d m =>
    match cmdOf d c.id with
    | none => d
    | some c =>
      if c.descTo.contains m || !descRoom d m then d
      else
        let d := if (heldDesc d c m).isSome then d else { d with coll := { d.coll with sent := d.coll.sent ++ [(m, cId c)] } }
        sendDesc m c.part (descOf d c) (setCmd { c with descTo := c.descTo ++ [m] } d)) d)

/-- Collectives that run. -/
def runningColls (d : Device) : List Cmd := d.cmds.filter fun c => decide (c.phase = .running) && isColl (opOf c)

/-- A DESC of another member (R444, R450): the peer has started that collective, so it has consumed this member's. A cancelling
one stops a collective that runs. -/
def descReceive (peer : Nat) (x : Desc) (d : Device) : Device :=
  if peer = ownSlot d then d
  else
    let d := { d with coll := { d.coll with sent := d.coll.sent.erase (peer, x.collId), descs := d.coll.descs ++ [(peer, x)] } }
    let d := (runningColls d).foldl (fun d c =>
      if x.cancel && decide (cId c = x.collId) && c.stop.isNone then setCmd { c with stop := some { status := stRemote } } d else d) d
    (runningColls d).foldl (fun d c => if (collCheck d c).isNone then sendDescs c d else d) d

/-- A DESC differs in a carried field (R444). -/
def descDiffers (d : Device) (c : Cmd) : Bool :=
  (others d c).any fun m => match heldDesc d c m with
    | some x => decide ({ x with cancel := false } ≠ descOf d c)
    | none => false

/-- A cancelling DESC to every other member (R450). -/
def cancelAll (c : Cmd) (d : Device) : Device :=
  (others d c).foldl (fun d m => sendDesc m c.part { descOf d c with cancel := true } d) d

/-- A collective ends: its DESCs, and what was handed over for it, are no longer held. -/
def collEnd (c : Cmd) (x : Done) (d : Device) : Device :=
  let d := inboxDrop c.part 0 (cId c) d
  endCmd c x { d with coll := { d.coll with descs := d.coll.descs.filter fun y => decide (y.2.collId ≠ cId c) } }

/-! ## The work (R446 to R448, R450) -/

/-- First byte and bytes of a chunk. -/
def chunkAt (c : Cmd) (k : Nat) : Nat × Nat := (65536 * k, min 65536 (cBytes c - 65536 * k))

/-- Two chunks added element by element (R162, R163, R448). -/
def addChunk (c : Cmd) (a b : List Byte) : List Byte :=
  (List.range (a.length / 4)).flatMap fun k =>
    leBytes 4 (addFull (cFp c) c.legacy (leNat ((a.drop (4 * k)).take 4)) (leNat ((b.drop (4 * k)).take 4))).1

/-- Chunk k of SRC, or how its read fails. -/
def srcChunk (d : Device) (c : Cmd) (k : Nat) : List Byte × Nat × Device :=
  let (o, n) := chunkAt c k
  match readFail d (cSrc c + o) n with
  | some (st, d) => ([], st, d)
  | none => (bytesAt d (cSrc c + o) n, 0, hbmRead (cSrc c + o) n (some c.part) (netCount c.part (dieAt (cSrc c + o)) 4 n d))

/-- A chunk written at DST. -/
def dstChunk (c : Cmd) (k : Nat) (bs : List Byte) (d : Device) : Device := putRemote c.part (cDst c + 65536 * k) bs d

/-- A chunk sent to members (R447, R448). -/
def sendChunk (c : Cmd) (ms : List Nat) (bs : List Byte) (d : Device) : Device :=
  ms.foldl (fun d m => sendPacket (slotDev d m) c.part false (.bytes 0 (cId c) bs) d) d

/-- This member's place in the chain of a CHAIN_REDUCE (R30, R448). -/
def collPlace (d : Device) (c : Cmd) : Nat := (members d c.part).findIdx fun m => decide (m = ownSlot d)

/-- What a member has handed over for the collective so far. -/
def arrivedFrom (d : Device) (c : Cmd) (m : Nat) : List Byte := inboxOf d (slotDev d m) c.part 0 (cId c)

/-- The member whose chunks this one adds to or, without adding, writes: none where it begins the chain or is the root. -/
def takesFrom (d : Device) (c : Cmd) : Option Nat :=
  if isBcast c then (if cRoot c = ownSlot d then none else some (cRoot c))
  else if collPlace d c = 0 then none else (members d c.part)[collPlace d c - 1]?

/-- This member also writes the result that the last member sends (R448). -/
def awaitsResult (d : Device) (c : Cmd) : Bool := isReduce c && decide (cAll c = 1) && !isLastMember d c

/-- Chunk k of what a member hands over; none while it has not all arrived. -/
def chunkFrom (d : Device) (c : Cmd) (m k : Nat) : Option (List Byte) :=
  let (o, n) := chunkAt c k
  let bs := arrivedFrom d c m
  if o + n ≤ bs.length then some ((bs.drop o).take n) else none

/-- Chunk k worked on at this member, given the bytes that it takes: the root sends it, a member of a BROADCAST writes it; in a
CHAIN_REDUCE it is read, added and passed on, or by the last member written and, under ALL, sent to the others (R447, R448). The
status of a failing read. -/
def workChunk (c : Cmd) (inc : List Byte) (k : Nat) (d : Device) : Device × Nat :=
  if isBcast c ∧ cRoot c ≠ ownSlot d then (dstChunk c k inc d, 0)
  else
    let (own, st, d) := srcChunk d c k
    if st ≠ 0 then (d, st)
    else if isBcast c then (sendChunk c (others d c) own d, 0)
    else
      let sum := if collPlace d c = 0 then own else addChunk c inc own
      if isLastMember d c then
        let d := dstChunk c k sum d
        ((if cAll c = 1 then sendChunk c (others d c) sum d else d), 0)
      else (sendChunk c [(members d c.part).getD (collPlace d c + 1) 0] sum d, 0)

/-- Chunks worked on below a limit, as far as the bytes have arrived: from the first that is left, until one fails. -/
def workGo (id limit : Nat) (x : Device × Option Done) (_ : Nat) : Device × Option Done :=
  match x, cmdOf x.1 id with
  | (d, none), some c =>
    let k := c.passed
    let inc := match takesFrom d c with | some m => chunkFrom d c m k | none => some []
    match inc with
    | some bs =>
      if k < limit then
        let (d, st) := workChunk c bs k d
        if st = 0 then (setCmd { c with passed := k + 1, chunks := if awaitsResult d c then c.chunks else k + 1 } d, none)
        else (d, some { status := st, tilePos := c.chunks })
      else x
    | none => x
  | _, _ => x

/-- Chunks of the result written, as far as they have arrived. -/
def resultGo (id limit : Nat) (d : Device) (_ : Nat) : Device :=
  match cmdOf d id with
  | some c =>
    if awaitsResult d c ∧ c.chunks < limit then
      match chunkFrom d c ((members d c.part).getLastD 0) c.chunks with
      | some bs => setCmd { c with chunks := c.chunks + 1 } (dstChunk c c.chunks bs d)
      | none => d
    else d
  | none => d

/-- A collective that is ready goes on, as far as the other members' bytes have arrived, and ends when nothing is left. An abort
stops it at a boundary; where another member has cancelled, the chunks that have arrived are still written (R450). -/
def collRun (c : Cmd) (x : Circ) (d : Device) : Device :=
  let n := cChunks c
  let limit := match c.stop with | some y => if y.status = stAborted then min y.tilePos n else n | none => n
  let (d, bad) := (List.range n).foldl (workGo c.id limit) (d, none)
  let d := (List.range n).foldl (resultGo c.id limit) d
  let c := (cmdOf d c.id).getD c
  let own (y : Done) : Bool := decide (y.status = stAborted) || decide (y.detail ≠ 0)
  match bad, c.stop with
  | some y, _ => collEnd c { y with tilePos := c.chunks } (cancelAll c d)
  | none, some y =>
    if c.chunks = n then collEnd c (if own y && decide (y.status = stAborted) then { flags := flagLate } else { y with tilePos := n }) d
    else collEnd c { y with tilePos := c.chunks } (if own y then cancelAll c d else d)
  | none, none => if c.chunks = n then collEnd c (deadline c (collBudget d c x.rootRate) x.took {}) d else d

/-- The command as another member's cancelling DESC leaves it. -/
def cancelled (d : Device) (c : Cmd) : Cmd :=
  if c.stop.isNone && d.coll.descs.any (fun x => x.2.cancel && decide (x.2.collId = cId c)) then { c with stop := some { status := stRemote } }
  else c

/-- A store that the collective reads or writes at this member is held (R254, R453). -/
def collHeld (d : Device) (c : Cmd) : Bool := (collSides d c).any fun l => decide (cBytes c ≠ 0) && heldRange d l (cBytes c)

/-- A collective's work. -/
def collective (op id : Nat) (x : Circ) (d : Device) : Device :=
  match runningAs d id (· = op) with
  | none => d
  | some c =>
    if collHeld d c then d
    else
      let d := applyCirc c.part x d
      match collCheck d c with
      | some y => endCmd c y d
      | none =>
        match unreachable d c x with
        | some s => collEnd c { status := stRemote, detail := 0x8000 + s, tilePos := c.chunks } (cancelAll c d)
        | none =>
          let c := cancelled d c
          if collReady d c then
            if descDiffers d c then collEnd c (refusedWith stMalformed) d else collRun c x (setCmd c d)
          else match c.stop with
            | some y => collEnd c { y with tilePos := 0 } (if y.status = stAborted ∨ y.detail ≠ 0 then cancelAll c d else d)
            | none => d

/-- A collective's TIMEOUT elapses before the member holds every DESC or has sent its own (R444, R445). -/
def collectiveTimeout (id : Nat) (d : Device) : Device :=
  match runningAs d id isColl with
  | none => d
  | some c =>
    if cTimeout c = 0 then d
    else match collCheck d c with
      | some y => endCmd c y d
      | none => if collReady d c then d else collEnd c { status := stRemote } d

/-! ## Meanings -/

/-- CHAIN_REDUCE (R448). -/
def execChainReduce (id : Nat) (c : Circ) (s : State) := run (.chainReduce id c) (collective 0x48 id c) s
/-- BROADCAST (R447). -/
def execBroadcast (id : Nat) (c : Circ) (s : State) := run (.broadcast id c) (collective 0x49 id c) s
/-- BARRIER (R446). -/
def execBarrier (id : Nat) (c : Circ) (s : State) := run (.barrier id c) (collective 0x4A id c) s
/-- DESC_RECEIVE (R444). -/
def execDescReceive (peer : Nat) (desc : Desc) (s : State) := run (.descReceive peer desc) (descReceive peer desc) s
/-- COLLECTIVE_TIMEOUT (R444). -/
def execCollectiveTimeout (id : Nat) (s : State) := run (.collectiveTimeout id) (collectiveTimeout id) s

end Sys2Proof.Machine
end

