-- ==== Sys2Proof/Machine/Vecfun.lean ====
section
/-! DEFINITION. The special functions of the vector engine (R360). The manual bounds each result and says that it depends on the
input alone; it gives neither table nor polynomial. A result is therefore a free value within its bound (log 10). -/

namespace Sys2Proof.Machine

/-- Fraction bits of the enclosures below. -/
def fxBits : Nat := 128

/-- 2^128 × ln 2, rounded down. -/
def fxLn2 : Nat := 235865763225513294137944142764154484399

/-- Terms r^i / i! for i from k on, summed, of a fixed-point r. -/
def expTerms : Nat → Nat → Nat → Nat → Nat
  | 0, _, _, _ => 0
  | n + 1, k, r, t => t + expTerms n (k + 1) r (t * r / 2 ^ fxBits / k)

/-- exp(n / d), as a rational within 2^-100 of it, relatively, for arguments from -105 to 89. -/
def expApprox (n : Int) (d : Nat) : Nat × Nat :=
  let x : Int := n * 2 ^ fxBits / (d : Int)
  let k := x / (fxLn2 : Int)
  let m := expTerms 40 1 (x - k * fxLn2).toNat (2 ^ fxBits)
  (m * pow2 k, 2 ^ fxBits * pow2 (-k))

/-- Terms z^(2i+1) / (2i+1), summed, of a fixed-point z. -/
def atanhTerms : Nat → Nat → Nat → Nat → Nat
  | 0, _, _, _ => 0
  | n + 1, k, z2, t => t / (2 * k + 1) + atanhTerms n (k + 1) z2 (t * z2 / 2 ^ fxBits)

/-- log(n / d) for n, d > 0, as a numerator over 2^128. -/
def logApprox (n d : Nat) : Int :=
  let e := floorLog2 n d
  let a := n * pow2 (-e)
  let b := d * pow2 e
  let z := (a - b) * 2 ^ fxBits / (a + b)
  e * fxLn2 + 2 * atanhTerms 48 0 (z * z / 2 ^ fxBits) z

/-- A function's exact value at a rational, as a rational with a relative error far below an ulp. -/
def exactly (sub : Nat) (n : Int) (d : Nat) : Int × Nat :=
  match sub with
  | 0 => let (a, b) := expApprox n d; (a, b)
  | 1 => (logApprox n.toNat d, 2 ^ fxBits)
  | 2 => ((Nat.sqrt (d * 2 ^ 400 / n.toNat) : Nat), 2 ^ 200)
  | 3 => let (a, b) := expApprox (2 * n) d; ((a : Int) - b, a + b)
  | 4 => let (a, b) := expApprox (-n) d; (b, a + b)
  | _ => if n < 0 then (-(d : Int), n.natAbs) else (d, n.natAbs)

/-- One ulp of an FP32 value n / d, as a rational. -/
def ulp32 (n d : Nat) : Nat × Nat :=
  let e := (if n = 0 then -126 else max (-126) (floorLog2 n d)) - 23
  (pow2 e, pow2 (-e))

/-- The bound of a function's result n / d (R360), as a rational. -/
def errBound (sub n d : Nat) : Nat × Nat :=
  let u := ulp32 n d
  match sub with
  | 0 => if d ≤ n * 2 ^ 126 then (2 * u.1, u.2) else (1, 2 ^ 149)
  | 1 => (2 * u.1, u.2)
  | 2 => (2 * u.1, u.2)
  | 5 => u
  | _ => if 2 * u.1 * 2 ^ 24 < u.2 then (1, 2 ^ 24) else (2 * u.1, u.2)

/-- A result differs from the exact value by no more than its bound (and the error of the enclosure). -/
def withinBound (sub : Nat) (y t : Int × Nat) : Bool :=
  let (b, c) := errBound sub y.1.natAbs y.2
  let diff := (y.1 * t.2 - t.1 * y.2).natAbs
  decide (diff * c ≤ b * (y.2 * t.2) + c * (t.1.natAbs * y.2) / 2 ^ 60)

/-- A function's result at an FP32 argument to which no edge value applies. -/
def vecValue (ev : Bool) (sub : Nat) (x : Fl) : Fl :=
  let (n, d) := flNum x
  let t := exactly sub n d
  let free := flDecode fp32 (Config.vecFunc sub (BitVec.ofNat 32 (flSat fp32 ev x).1)).toNat
  match free with
  | .fin s m e => if withinBound sub (flNum (.fin s m e)) t then free else (sat32 ev (flRat t.1 t.2)).1
  | _ => (sat32 ev (flRat t.1 t.2)).1

/-- The largest finite FP32 value. -/
def maxFin (neg : Bool) : Fl := flDecode fp32 (signBit fp32 neg + maxBits fp32)

/-- Below 0, and equal to 0. -/
def negative (x : Fl) : Bool := flLt x flZero
def isZero (x : Fl) : Bool := flLe x flZero && flLe flZero x

/-- The function SUBOP of R360 at a finite FP32 value: the result, and 1 when the engine counts it. EXP of 0 is 1, since a row of which
every element is filled gives RECIP(N) (R357). -/
def vecFun (ev : Bool) (sub : Nat) (x : Fl) : Fl × Nat :=
  match sub with
  | 0 => if isZero x then (flOne, 0) else if flLe x (flInt (-104)) then (flZero, 0) else if flLt (flRat 8872 100) x then (maxFin false, 1) else (vecValue ev 0 x, 0)
  | 1 => if isZero x then (maxFin true, 1) else if negative x then (flZero, 1) else (vecValue ev 1 x, 0)
  | 2 => if isZero x then (maxFin false, 1) else if negative x then (flZero, 1) else (vecValue ev 2 x, 0)
  | 3 => if flLe (flRat 91 10) (flAbs x) then (if negative x then flNeg flOne else flOne, 0) else (vecValue ev 3 x, 0)
  | 4 => if flLe (flRat 174 10) x then (flOne, 0) else if flLe x (flInt (-104)) then (flZero, 0) else (vecValue ev 4 x, 0)
  | _ =>
    if isZero x then (maxFin (match x with | .fin s _ _ => s | _ => false), 1)
    else (vecValue ev 5 x, b2n (flSat fp32 ev (flDiv flOne x)).2)

end Sys2Proof.Machine
end

