-- ==== Sys2Proof/Machine/Vector.lean ====
section
/-! DEFINITION. The vector engine: fields, checks, rows and budgets of its commands (R344 to R366). -/

namespace Sys2Proof.Machine

/-! ## Fields (R347, R348) -/

/-- A format's width in bytes, and whether it is an integer format (R348). -/
def vWidth (f : Nat) : Nat := match f with | 0 => 4 | 1 => 2 | 2 => 2 | 3 => 1 | 4 => 1 | 5 => 2 | _ => 4
def vIsInt (f : Nat) : Bool := decide (3 ≤ f)
def vFmt (f : Nat) : Fmt := match f with | 0 => fp32 | 1 => fp16 | _ => bf16
/-- Bits and sign of an integer format. -/
def vBits (f : Nat) : Nat := 8 * vWidth f
def vSigned (f : Nat) : Bool := decide (f ≠ 4)

/-- Descriptor k of a command: SRC0, SRC1, DST. -/
def vDesc (c : Cmd) (k : Nat) : Nat := wordAt c.words (6 + k)
def vSpace (c : Cmd) (k : Nat) : Nat := bits 1 0 (vDesc c k)
def vArr (c : Cmd) (k : Nat) : Nat := bits 5 2 (vDesc c k)
def vOff (c : Cmd) (k : Nat) : Nat := bits 24 6 (vDesc c k)
def vF (c : Cmd) (k : Nat) : Nat := bits 27 25 (vDesc c k)
def vStride (c : Cmd) (k : Nat) : Nat := cf c (10 + k) 23 0
def vCols (c : Cmd) : Nat := cf c 9 15 0
def vRows (c : Cmd) : Nat := cf c 9 31 16
def vSub (c : Cmd) : Nat := cf c 10 31 24
def vP0 (c : Cmd) : Nat := wordAt c.words 13
def vP1 (c : Cmd) : Nat := wordAt c.words 14
def vTbl (c : Cmd) : Nat := cf c 15 15 0
def vTblArr (c : Cmd) : Nat := cf c 15 19 16

/-- C of PIXNORM, POOL and RESIZE. -/
def vChan (c : Cmd) : Nat := if opOf c = 0x26 then bits 11 0 (vP0 c) else bits 11 0 (vP1 c)
/-- Pixels of a line. -/
def vW (c : Cmd) : Nat := vCols c / vChan c
/-- KH, KW, SH, SW of POOL; k of TOPK; MAX_KEEP of NMS. -/
def vKH (c : Cmd) : Nat := bits 3 0 (vP0 c) + 1
def vKW (c : Cmd) : Nat := bits 7 4 (vP0 c) + 1
def vSH (c : Cmd) : Nat := bits 11 8 (vP0 c) + 1
def vSW (c : Cmd) : Nat := bits 15 12 (vP0 c) + 1
def vK (c : Cmd) : Nat := bits 6 0 (vP0 c)
def vKeep (c : Cmd) : Nat := bits 12 0 (vP1 c)
def vMerge (c : Cmd) : Bool := decide (opOf c = 0x2B) && decide (vSub c = 1)
/-- The command makes one result of all its rows. -/
def vWhole (c : Cmd) : Bool := vMerge c || decide (opOf c = 0x2C)

/-- Whether an opcode uses descriptor k (R356). -/
def vUses (c : Cmd) (k : Nat) : Bool :=
  match k with | 0 => decide (opOf c ≠ 0x2A) | 1 => decide (opOf c = 0x20) | _ => true

/-- Rows written, and elements of each. -/
def vOutRows (c : Cmd) : Nat :=
  if opOf c = 0x27 then (vRows c - vKH c) / vSH c + 1
  else if opOf c = 0x28 then bits 15 0 (vP0 c)
  else if vWhole c then 1 else vRows c
def vOutCols (c : Cmd) : Nat :=
  match opOf c with
  | 0x23 => 1
  | 0x27 => ((vW c - vKW c) / vSW c + 1) * vChan c
  | 0x28 => bits 31 16 (vP0 c) * vChan c
  | 0x2B => 2 * vK c
  | 0x2C => 1 + vKeep c
  | _ => vCols c

/-- Words of the parameter table (R353, R356). -/
def vTblWords (c : Cmd) : Nat :=
  match opOf c with
  | 0x25 => vCols c
  | 0x26 => (match vSub c with | 0 => vChan c | 1 => vCols c | _ => 12)
  | 0x29 => 8 * vCols c
  | _ => 0

/-! ## Checks (R346, R348, R350) -/

/-- A descriptor fails R348. -/
def vDescBad (c : Cmd) (k : Nat) : Bool :=
  if vUses c k then decide (vSpace c k = 0) || decide (vF c k = 7) || decide (bits 31 28 (vDesc c k) ≠ 0) else decide (vDesc c k ≠ 0)

/-- SUBOP, PARAM0 or PARAM1 holds a value that R356 does not list, or an operation's own conditions fail (R359 to R364). -/
def vOpBad (c : Cmd) : Bool :=
  let sub (n : Nat) : Bool := decide (n ≤ vSub c)
  let z0 := decide (vP0 c ≠ 0)
  let z1 := decide (vP1 c ≠ 0)
  let image := decide (bits 31 12 (vP1 c) ≠ 0) || decide (vChan c = 0) || decide (vCols c % vChan c ≠ 0)
  match opOf c with
  | 0x20 => sub 5 || z0 || z1
  | 0x21 => sub 1
  | 0x22 => sub 6 || z0 || z1
  | 0x23 => sub 4 || z0 || z1
  | 0x24 => sub 1 || z1
  | 0x25 => sub 2 || z1
  | 0x26 => sub 3 || decide (bits 31 12 (vP0 c) ≠ 0) || decide (vChan c = 0) || z1 || (decide (vSub c = 2) && decide (vChan c ≠ 3))
  | 0x27 => sub 2 || decide (bits 31 16 (vP0 c) ≠ 0) || image || decide (vRows c < vKH c) || decide (vW c < vKW c)
  | 0x28 => sub 1 || image || decide (bits 15 0 (vP0 c) = 0) || decide (bits 31 16 (vP0 c) = 0)
  | 0x29 => sub 1 || z0 || z1 || !(decide (vF c 0 = 0) || decide (vF c 0 = 6))
  | 0x2A => sub 1 || z1
  | 0x2B => sub 2 || decide (bits 31 7 (vP0 c) ≠ 0) || decide (vK c = 0) || decide (64 < vK c) || decide (vF c 2 ≠ 6) ||
      (decide (vSub c = 1) && (decide (vCols c ≠ 2 * vK c) || decide (vF c 0 ≠ 6) || decide (2 < vP1 c)))
  | 0x2C => sub 1 || decide (vCols c ≠ 8) || decide (vF c 0 ≠ 0) || decide (4096 < vRows c) || decide (vF c 2 ≠ 6) ||
      decide (bits 15 13 (vP1 c) ≠ 0) || decide (bits 31 17 (vP1 c) ≠ 0) || decide (vKeep c = 0) || decide (4096 < vKeep c)
  | _ => true

/-- The MALFORMED checks of R346 and R350. -/
def vecBad (c : Cmd) : Bool :=
  headBad c || decide (0x2C < opOf c) || (List.range 3).any (vDescBad c) || decide (cf c 11 31 24 ≠ 0) || decide (cf c 12 31 24 ≠ 0) ||
  decide (cf c 15 31 20 ≠ 0) || decide (vCols c = 0) || decide (16384 < vCols c) || decide (vRows c = 0) ||
  (List.range 3).any (fun k => vUses c k && (decide (vStride c k % vWidth (vF c k) ≠ 0) || decide (32768 < vCols c * vWidth (vF c k)))) ||
  vOpBad c || (vWhole c && decide (2 < levelOf c))

/-- A band-local array belongs to the target (R19). -/
def vInTarget (c : Cmd) (k : Nat) : Bool :=
  let a := (motifArrays (targetOf c)).1 % 16
  match levelOf c with | 0 => decide (k = a) | 1 => decide (k / 4 = a / 4) | _ => true

/-- Access unit and size of a SPACE. -/
def vUnit (s : Nat) : Nat := match s with | 1 => 64 | 2 => 512 | _ => 4
def vSize (s : Nat) : Nat := match s with | 1 => storeSize .band | 2 => storeSize .row | _ => storeSize .word

/-- Rows and elements of operand k. -/
def vOpdRows (c : Cmd) (k : Nat) : Nat := if k = 2 then vOutRows c else vRows c
def vOpdCols (c : Cmd) (k : Nat) : Nat := if k = 2 then vOutCols c else vCols c

/-- A row of an operand lies outside its store or the target's window (R19, R350). -/
def vOutside (c : Cmd) (k : Nat) : Bool :=
  vUses c k &&
  ((if vSpace c k = 1 then decide (levelOf c < 2) else !vInTarget c (vArr c k)) ||
   decide (vSize (vSpace c k) < vOff c k * vUnit (vSpace c k) + (vOpdRows c k - 1) * vStride c k + vOpdCols c k * vWidth (vF c k)))

/-- The PERMISSION checks of R350; a REQUANT of more than 2,048 columns has too large a table (R362). -/
def vecPerm (d : Device) (c : Cmd) : Bool :=
  headPerm d c || (List.range 3).any (vOutside c) ||
  (decide (vTblWords c ≠ 0) && (!vInTarget c (vTblArr c) || decide (65536 < vTbl c + vTblWords c) || decide (16384 < vTblWords c)))

/-! ## Shares and budgets (R345, R365) -/

/-- The bands that serve a command, each with its first row and its rows (R18, R30, R31, R345). -/
def vShares (c : Cmd) : List (Nat × Nat × Nat) :=
  let b := bandOf (motifArrays (targetOf c)).1
  let bs : List Nat := match levelOf c with
    | 3 => [b, b + 1, b + 2]
    | 4 => [0, 1, 2, 3, 4, 5, 9, 10, 11, 6, 7, 8]
    | _ => [b]
  bs.zipIdx.map fun x => (x.1, divide (0, vOutRows c) bs.length x.2)

/-- Where row r of operand k lies in a band's stores (R349). -/
def vAddr (c : Cmd) (b k r : Nat) : Nat :=
  let o := vOff c k * vUnit (vSpace c k) + r * vStride c k
  match vSpace c k with
  | 1 => bandAddr b o
  | 2 => rowAddr (16 * b + vArr c k) o
  | _ => wordAddr (16 * b + vArr c k) o

/-- The fractional source coordinate of output o of n, among m sources (R361). -/
def vCoord (ev : Bool) (m n o : Nat) : Int × Nat :=
  let s := rnd32 ev (flMul (.fin false (2 * o + 1) 2) (rnd32 ev (.fin false m n)))
  let x := flAdd s (.fin true 1 2)
  if flLe x flZero then (0, 1) else if flLe (flInt (m - 1 : Nat)) x then ((m - 1 : Nat), 1) else flNum x

/-- Lower source index, upper one, and the fraction between them. -/
def vPoint (ev : Bool) (m n o : Nat) : Nat × Nat × Fl :=
  let (a, b) := vCoord ev m n o
  let y := a.toNat / b
  (y, min (y + 1) (m - 1), flAdd (flRat a b) (flInt (-(y : Int))))

/-- The rows of SRC0 that output row r needs. -/
def vSrcRows (c : Cmd) (r : Nat) : List Nat :=
  if opOf c = 0x27 then (List.range (vKH c)).map (r * vSH c + ·)
  else if opOf c = 0x28 then
    let p := vPoint c.legacy (vRows c) (bits 15 0 (vP0 c)) r
    if p.1 = p.2.1 then [p.1] else [p.1, p.2.1]
  else if vWhole c then List.range (vRows c)
  else [r]

/-- The source ranges that output row r reads, as (operand, row). -/
def vReads (c : Cmd) (r : Nat) : List (Nat × Nat) :=
  (if vUses c 0 then (vSrcRows c r).map fun k => (0, k) else []) ++ (if vUses c 1 then [(1, r)] else [])

/-- Units that n bytes from an address touch, a partly covered one counted `part` times. -/
def vUnits (u l n part : Nat) : Nat :=
  if n = 0 then 0
  else
    let t := (l + n - 1) / u - l / u + 1
    t + (part - 1) * (t - ((l + n) / u - (l + u - 1) / u))

/-- Units of output row r in a SPACE, and of one array where that is not the band store: read and written. -/
def vRowUnits (c : Cmd) (b s arr r : Nat) : Nat :=
  let mine (k : Nat) : Bool := decide (vSpace c k = s) && (decide (s ≠ 2) || decide (vArr c k = arr))
  ((vReads c r).map fun x => if mine x.1 then vUnits (vUnit s) (vAddr c b x.1 x.2) (vCols c * vWidth (vF c x.1)) 1 else 0).sum +
  (if mine 2 then vUnits (vUnit s) (vAddr c b 2 r) (vOutCols c * vWidth (vF c 2)) 2 else 0)

/-- The column c of R356 and R360, and H. -/
def vLane (c : Cmd) : Nat × Nat :=
  match opOf c with
  | 0x22 => ((match vSub c with | 3 => 3 | 4 => 3 | 5 => 1 | _ => 2), 0)
  | 0x23 => (1, 12)
  | 0x24 => (4, 24)
  | 0x25 => (4, 24)
  | 0x26 => (if vSub c = 2 then 3 else 1, 0)
  | 0x27 => (vKH c * vKW c, 0)
  | 0x28 => (4, 0)
  | 0x29 => (2, 0)
  | 0x2B => (2, 12)
  | _ => (1, 0)

/-- F of one band's share (R365). -/
def vBandF (c : Cmd) (b first n : Nat) : Nat :=
  let els := if opOf c = 0x27 ∨ opOf c = 0x28 then vOutCols c else vCols c
  let comp := n * (ceilDiv (els * (vLane c).1) 512 + (vLane c).2)
  let rows := (List.range n).map (first + ·)
  let lines := (rows.map fun r => vRowUnits c b 1 0 r).sum
  let words := (rows.map fun r => vRowUnits c b 3 0 r).sum
  let rowsOf := (List.range 16).map fun a => (rows.map fun r => vRowUnits c b 2 a r).sum
  32 + ceilDiv (vTblWords c) 8 + max comp (max (ceilDiv lines 64) (max (rowsOf.foldl max 0) (ceilDiv words 8)))

/-- F in FCLK cycles (R365). -/
def vecBudget (c : Cmd) : Nat :=
  if vMerge c then 32 + vK c * vRows c
  else if opOf c = 0x2C then 64 + 8 * vRows c + vRows c * ceilDiv (vRows c) 512
  else ((vShares c).map fun s => vBandF c s.1 s.2.1 s.2.2).foldl max 0

/-- A FIXED_TIME budget beyond 2^31 ACLK (R336). -/
def vecOver (c : Cmd) : Bool := fixedTime c && decide (2147483648 * c.div < 8 * vecBudget c)

/-- How the checks refuse a vector command, in the order of R301. -/
def vecCheck (d : Device) (c : Cmd) : Option Done :=
  if vecBad c || vecOver c then some (refusedWith stMalformed)
  else if vecPerm d c then some (refusedWith stPermission)
  else if retiredTarget d c then some (refusedWith stRemote)
  else none

/-! ## Arithmetic (R354, R355) -/

/-- A value with the events that the engine counted for it. -/
abbrev VC := Fl × Nat

/-- An FP32 operation's result. -/
def v32 (ev : Bool) (x : Fl) : VC := sat32 ev x

/-- An element's integer. -/
def vInt (f w : Nat) : Int := if vSigned f then signed (vBits f) w else (w : Int)

/-- An element's exact value: an infinity the largest finite value, a NaN 0. -/
def vExact (f w : Nat) : VC := if vIsInt f then (flInt (vInt f w), 0) else finite (vFmt f) (flDecode (vFmt f) w)

/-- An element converted to FP32. -/
def vElem (ev : Bool) (f w : Nat) : VC := if vIsInt f then (rnd32 ev (flInt (vInt f w)), 0) else vExact f w

/-- An integer saturated to an integer format: bits and count. -/
def vSatInt (f : Nat) (z : Int) : Nat × Nat :=
  let q := clip (loOf (vBits f) (vSigned f)) (hiOf (vBits f) (vSigned f)) z
  (unsigned (vBits f) q, b2n (decide (q ≠ z)))

/-- A finite value rounded to a format: bits and count. -/
def vStore (ev : Bool) (f : Nat) (x : Fl) : Nat × Nat :=
  if vIsInt f then vSatInt f (roundQ ev (flNum x).1 (flNum x).2)
  else
    let (w, o) := flSat (vFmt f) ev x
    (w, b2n o)

/-- A counted value stored. -/
def vPut (ev : Bool) (f : Nat) (x : VC) : Nat × Nat :=
  let (w, n) := vStore ev f x.1
  (w, n + x.2)

/-- An FP32 parameter word (R354). -/
def vParam (w : Nat) : VC := finite fp32 (flDecode fp32 w)
/-- A half of a table word. -/
def vHalf (tbl : List Nat) (k h : Nat) : VC := finite fp16 (flDecode fp16 (bits (16 * h + 15) (16 * h) (tbl.getD k 0)))

/-- The larger or the smaller of two values (log 34). -/
def vPick (larger : Bool) (x y : Fl) : Fl :=
  if isZero x && isZero y then (if Config.firstZero larger then x else y)
  else if larger then flMax x y else flMin x y

/-- A list of counted values, and their sum of counts. -/
def vSplit {α : Type} (l : List (α × Nat)) : List α × Nat := (l.map (·.1), (l.map (·.2)).sum)

/-- Two lanes combined; an empty one contributes nothing. -/
def laneComb (f : Fl → Fl → VC) : Option Fl → Option Fl → Option Fl × Nat
  | some x, some y => let (z, n) := f x y; (some z, n)
  | some x, none => (some x, 0)
  | none, y => (y, 0)

/-- One more element into each lane, as far as elements go. -/
def laneStep (f : Fl → Fl → VC) : List (Option Fl) → List Fl → List (Option Fl × Nat)
  | a :: r, x :: xs => laneComb f a (some x) :: laneStep f r xs
  | r, [] => r.map fun a => (a, 0)
  | [], _ => []

/-- Element i into lane i mod 512, ascending. -/
def laneFill (f : Fl → Fl → VC) : Nat → List (Option Fl) × Nat → List Fl → List (Option Fl) × Nat
  | 0, x, _ => x
  | fuel + 1, x, l =>
    if l = [] then x
    else
      let (ls, n) := vSplit (laneStep f x.1 (l.take 512))
      laneFill f fuel (ls, x.2 + n) (l.drop 512)

/-- One level of the pairwise tree. -/
def treeLevel (f : Fl → Fl → VC) : List (Option Fl) → List (Option Fl × Nat)
  | a :: b :: r => laneComb f a b :: treeLevel f r
  | l => l.map fun a => (a, 0)

/-- Nine levels of the tree. -/
def treeFold (f : Fl → Fl → VC) : Nat → List (Option Fl) × Nat → List (Option Fl) × Nat
  | 0, x => x
  | k + 1, x =>
    let (ls, n) := vSplit (treeLevel f x.1)
    treeFold f k (ls, x.2 + n)

/-- The row reduction of R355; `zero` says that an empty lane counts as +0. -/
def vReduce (f : Fl → Fl → VC) (zero : Bool) (l : List Fl) : VC :=
  let (ls, n) := laneFill f 32 (List.replicate 512 none, 0) l
  let ls := if zero then ls.map fun a => some (a.getD flZero) else ls
  let (t, n) := treeFold f 9 (ls, n)
  ((t.head?.join).getD flZero, n)

def vSum (ev : Bool) (l : List Fl) : VC := vReduce (fun x y => v32 ev (flAdd x y)) true l
def vMax (l : List Fl) : VC := vReduce (fun x y => (vPick true x y, 0)) false l
def vMin (l : List Fl) : VC := vReduce (fun x y => (vPick false x y, 0)) false l

/-- A sum of squares, each rounded before it is added. -/
def vSumSq (ev : Bool) (l : List Fl) : VC :=
  let (sq, n) := vSplit (l.map fun x => v32 ev (flMul x x))
  let (s, m) := vSum ev sq
  (s, n + m)

/-! ## Rows (R356 to R364) -/

/-- The elements of row r of operand k. -/
def vEls (d : Device) (c : Cmd) (b k r : Nat) : List Nat :=
  let w := vWidth (vF c k)
  (List.range (vCols c)).map fun i => leNat (bytesAt d (vAddr c b k r + i * w) w)

/-- The elements of a row as FP32 values, with the events counted. -/
def vVals (d : Device) (c : Cmd) (b k r : Nat) : List Fl × Nat := vSplit ((vEls d c b k r).map (vElem c.legacy (vF c k)))

/-- Results of one element each stored in DST's format: the row, and its count. -/
def vOut (c : Cmd) (l : List VC) : List Nat × Nat := vSplit (l.map (vPut c.legacy (vF c 2)))

/-- EW2. -/
def rowEw2 (d : Device) (c : Cmd) (b r : Nat) : List Nat × Nat :=
  let f0 := vF c 0
  let f1 := vF c 1
  let ps := (vEls d c b 0 r).zip (vEls d c b 1 r)
  if vIsInt f0 && vIsInt f1 && vIsInt (vF c 2) then
    vSplit (ps.map fun p =>
      let x := vInt f0 p.1
      let y := vInt f1 p.2
      vSatInt (vF c 2) (match vSub c with | 0 => x + y | 1 => x - y | 2 => x * y | 3 => max x y | _ => min x y))
  else
    vOut c (ps.map fun p =>
      let (x, m) := vElem c.legacy f0 p.1
      let (y, n) := vElem c.legacy f1 p.2
      let (z, k) : VC := match vSub c with
        | 0 => v32 c.legacy (flAdd x y)
        | 1 => v32 c.legacy (flAdd x (flNeg y))
        | 2 => v32 c.legacy (flMul x y)
        | 3 => (vPick true x y, 0)
        | _ => (vPick false x y, 0)
      (z, m + n + k))

/-- x × a + b, rounded once to DST. -/
def vAxpb (x a b : VC) : VC := (flAdd (flMul x.1 a.1) b.1, x.2 + a.2 + b.2)

/-- AXPB. -/
def rowAxpb (d : Device) (c : Cmd) (b r : Nat) : List Nat × Nat :=
  vOut c ((vEls d c b 0 r).map fun w => vAxpb (vElem c.legacy (vF c 0) w) (vParam (vP0 c)) (vParam (vP1 c)))

/-- FUNC. -/
def rowFunc (d : Device) (c : Cmd) (b r : Nat) : List Nat × Nat :=
  vOut c ((vEls d c b 0 r).map fun w =>
    let (x, m) := vElem c.legacy (vF c 0) w
    let (y, n) := vecFun c.legacy (vSub c) x
    (y, m + n))

/-- REDUCE. -/
def rowReduce (d : Device) (c : Cmd) (b r : Nat) : List Nat × Nat :=
  let (xs, m) := vVals d c b 0 r
  let (y, n) : VC := match vSub c with | 0 => vSum c.legacy xs | 1 => vMax xs | 2 => vMin xs | _ => vSumSq c.legacy xs
  vOut c [(y, m + n)]

/-- SOFTMAX (R357). -/
def rowSoftmax (d : Device) (c : Cmd) (b r : Nat) : List Nat × Nat :=
  let ev := c.legacy
  let t := vParam (vP0 c)
  let (xs, n0) := vVals d c b 0 r
  let (zs, n1) := vSplit (xs.map fun x => let (z, n) := v32 ev (flMul x t.1); (z, n + t.2))
  let (m, n2) := vMax zs
  let (es, n3) := vSplit (zs.map fun z =>
    let (y, n) := v32 ev (flAdd z (flNeg m))
    let (e, k) := vecFun ev 0 y
    (e, n + k))
  let (s, n4) := vSum ev es
  let (q, n5) := vecFun ev 5 s
  let (ys, n6) := vOut c (es.map fun e => v32 ev (flMul e q))
  (ys, n0 + n1 + n2 + n3 + n4 + n5 + n6)

/-- NORM (R358). -/
def rowNorm (d : Device) (c : Cmd) (b : Nat) (tbl : List Nat) (r : Nat) : List Nat × Nat :=
  let ev := c.legacy
  let eps := vParam (vP0 c)
  let dd := rnd32 ev (.fin false 1 (vCols c))
  let (xs, n0) := vVals d c b 0 r
  let (xs, n1) : List Fl × Nat :=
    if vSub c = 0 then
      let (s, k0) := vSum ev xs
      let (mu, k1) := v32 ev (flMul s dd)
      let (ys, k2) := vSplit (xs.map fun x => v32 ev (flAdd x (flNeg mu)))
      (ys, k0 + k1 + k2)
    else (xs, 0)
  let (s, n2) := vSumSq ev xs
  let (v, n3) := v32 ev (flMul s dd)
  let (u, n4) := v32 ev (flAdd v eps.1)
  let (q, n5) := vecFun ev 2 u
  let (ys, n6) := vOut c (xs.zipIdx.map fun x =>
    let g := vHalf tbl x.2 0
    let o := vHalf tbl x.2 1
    let (p, k0) := v32 ev (flMul x.1 q)
    let (y, k1) := v32 ev (flAdd (flMul p g.1) o.1)
    (y, k0 + k1 + g.2 + o.2))
  (ys, n0 + n1 + n2 + n3 + n4 + eps.2 + n5 + n6)

/-- PIXNORM (R359); `free` names the free values of an incomplete pixel (log 35). -/
def rowPixnorm (d : Device) (c : Cmd) (b : Nat) (tbl : List Nat) (free r : Nat) : List Nat × Nat :=
  let ev := c.legacy
  let els := vEls d c b 0 r
  let el (k : Nat) : VC := vElem ev (vF c 0) (els.getD k 0)
  if vSub c = 2 then
    vSplit ((List.range (vCols c)).map fun k =>
      let p := k / 3 * 3
      if p + 3 ≤ vCols c then
        let m (i : Nat) : VC := vParam (tbl.getD (3 * (k % 3) + i) 0)
        let o := vParam (tbl.getD (9 + k % 3) 0)
        let sum := flAdd (flAdd (flAdd (flMul (m 0).1 (el p).1) (flMul (m 1).1 (el (p + 1)).1)) (flMul (m 2).1 (el (p + 2)).1)) o.1
        vPut ev (vF c 2) (sum, (m 0).2 + (m 1).2 + (m 2).2 + o.2 + (el p).2 + (el (p + 1)).2 + (el (p + 2)).2)
      else
        let w := Config.partPixel free k % 2 ^ vBits (vF c 2)
        (if vIsInt (vF c 2) then w else (flSat (vFmt (vF c 2)) ev (flDecode (vFmt (vF c 2)) w)).1, (el k).2))
  else
    vOut c ((List.range (vCols c)).map fun k =>
      let i := if vSub c = 0 then k % vChan c else k
      vAxpb (el k) (vHalf tbl i 0) (vHalf tbl i 1))

/-- POOL (R361). -/
def rowPool (d : Device) (c : Cmd) (b r : Nat) : List Nat × Nat :=
  let ev := c.legacy
  let f := vF c 0
  let C := vChan c
  let lines := (List.range (vKH c)).map fun ky => vEls d c b 0 (r * vSH c + ky)
  let window (k : Nat) : List Nat :=
    lines.flatMap fun l => (List.range (vKW c)).map fun kx => l.getD ((k / C * vSW c + kx) * C + k % C) 0
  if vSub c = 0 && vIsInt f && vIsInt (vF c 2) then
    vSplit ((List.range (vOutCols c)).map fun k =>
      let zs := (window k).map (vInt f)
      vSatInt (vF c 2) (zs.foldl max (zs.headD 0)))
  else
    vOut c ((List.range (vOutCols c)).map fun k =>
      let (xs, n) := vSplit ((window k).map (vElem ev f))
      match xs with
      | [] => (flZero, n)
      | x :: rest =>
        if vSub c = 0 then (rest.foldl (vPick true) x, n)
        else
          let s := rest.foldl (fun (a : VC) y => let (z, k) := v32 ev (flAdd a.1 y); (z, a.2 + k)) (x, 0)
          let (y, m) := v32 ev (flMul s.1 (rnd32 ev (.fin false 1 (vKH c * vKW c))))
          (y, n + s.2 + m))

/-- u + t × (v - u), rounded once (log 36). -/
def vLerp (ev : Bool) (t : Fl) (u v : VC) : VC :=
  let (y, n) := v32 ev (flAdd u.1 (flMul t (flAdd v.1 (flNeg u.1))))
  (y, n + u.2 + v.2)

/-- RESIZE (R361). -/
def rowResize (d : Device) (c : Cmd) (b r : Nat) : List Nat × Nat :=
  let ev := c.legacy
  let C := vChan c
  let (y0, y1, fy) := vPoint ev (vRows c) (bits 15 0 (vP0 c)) r
  let top := vEls d c b 0 y0
  let bot := vEls d c b 0 y1
  vOut c ((List.range (vOutCols c)).map fun k =>
    let (x0, x1, fx) := vPoint ev (vW c) (bits 31 16 (vP0 c)) (k / C)
    let at' (l : List Nat) (x : Nat) : VC := vElem ev (vF c 0) (l.getD (x * C + k % C) 0)
    vLerp ev fy (vLerp ev fx (at' top x0) (at' top x1)) (vLerp ev fx (at' bot x0) (at' bot x1)))

/-- An element of REQUANT with its table entry (R362). -/
def vRequant (c : Cmd) (e : Nat → Nat) (w : Nat) : Nat × Nat :=
  let ev := c.legacy
  let f := vF c 2
  let (v, n) : VC :=
    if vIsInt (vF c 0) then
      (flMul (flMul (flInt (vInt 6 w + signed 32 (e 2))) (flInt (signed 32 (e 0)))) (.fin false 1 (2 ^ bits 5 0 (e 3))), 0)
    else
      let (x, n0) := vExact 0 w
      let (mult, n1) := vParam (e 0)
      let (bias, n2) := vParam (e 2)
      (rnd32 ev (flMul (rnd32 ev (flAdd x bias)) mult), n0 + b2n (decide (0 < n1 + n2)))
  let nan := decide (v = .nan)
  let x := if nan then flZero else v
  let en := bit 16 (e 5)
  if vIsInt f then
    let lo := loOf (vBits f) (vSigned f)
    let hi := hiOf (vBits f) (vSigned f)
    let (q, cp) : Int × Bool := match x with
      | .inf true => (lo, true)
      | .inf false => (hi, true)
      | z =>
        let q := roundQ ev (flNum z).1 (flNum z).2 + signed 16 (bits 31 16 (e 3))
        (clip lo hi q, decide (clip lo hi q ≠ q))
    let q := if en then clampInt lo hi (signed 16 (bits 15 0 (e 4))) (signed 16 (bits 31 16 (e 4))) q else q
    (unsigned (vBits f) q, n + b2n nan + b2n cp)
  else
    let (b, cp) := flSat (vFmt f) ev x
    let b := if en then clampFl (vFmt f) (flDecode fp16 (bits 15 0 (e 4))) (flDecode fp16 (bits 31 16 (e 4))) b else b
    (b, n + b2n nan + b2n cp)

/-- REQUANT. -/
def rowRequant (d : Device) (c : Cmd) (b : Nat) (tbl : List Nat) (r : Nat) : List Nat × Nat :=
  vSplit ((vEls d c b 0 r).zipIdx.map fun x => vRequant c (fun k => tbl.getD (8 * x.2 + k) 0) x.1)

/-- FILL: the low bytes of PARAM0, which for a floating format hold no infinity and no NaN (R354, R356). -/
def rowFill (c : Cmd) : List Nat × Nat :=
  let w := vP0 c % 2 ^ vBits (vF c 2)
  vSplit (List.replicate (vCols c)
    (if vIsInt (vF c 2) then (w, 0) else let (v, n) := finite (vFmt (vF c 2)) (flDecode (vFmt (vF c 2)) w)
                                         ((flSat (vFmt (vF c 2)) false v).1, n)))

/-- The word that a list holds for a value of a format (R177). -/
def vListWord (f w : Nat) (x : Fl) : Nat := if vIsInt f then unsigned 32 (vInt f w) else (flSat fp32 false x).1

/-- TOPK SELECT (R363). -/
def rowSelect (d : Device) (c : Cmd) (b r : Nat) : List Nat × Nat :=
  let xs := (vEls d c b 0 r).zipIdx.map fun x =>
    let (v, n) := vExact (vF c 0) x.1
    ((((x.2 + vP1 c) % 2 ^ 32, v, vListWord (vF c 0) x.1 v) : TkRec), n)
  (tkWords (vK c) ((xs.map (·.1)).foldl (tkOffer (vK c)) []), (xs.map (·.2)).sum)

/-- TOPK MERGE (R363). -/
def rowMerge (d : Device) (c : Cmd) (b : Nat) : List Nat × Nat :=
  let recs := (List.range (vRows c)).flatMap fun r =>
    let l := vEls d c b 0 r
    (List.range (vK c)).filterMap fun k =>
      let i := l.getD (2 * k) 0
      let w := l.getD (2 * k + 1) 0
      if i = 0xFFFFFFFF then none
      else match vP1 c with
        | 0 => some (((i, flInt (signed 32 w), w) : TkRec), 0)
        | 1 => some ((i, flInt w, w), 0)
        | _ => let (v, n) := vParam w; some ((i, v, (flSat fp32 false v).1), n)
  (tkWords (vK c) ((recs.map (·.1)).foldl (tkOffer (vK c)) []), (recs.map (·.2)).sum)

/-! ## NMS (R364) -/

/-- A box: index, x0, y0, x1, y1, score, class, area. -/
structure Box where
  i : Nat
  x0 : Fl
  y0 : Fl
  x1 : Fl
  y1 : Fl
  score : Fl
  cls : Nat
  area : Fl
  deriving DecidableEq, Repr

/-- max(0, w) × max(0, h), rounded to FP32, from two differences each rounded. -/
def boxArea (ev : Bool) (a b c d : Fl) : VC :=
  let (w, n0) := v32 ev (flAdd a (flNeg b))
  let (h, n1) := v32 ev (flAdd c (flNeg d))
  let pos (x : Fl) : Fl := if flLe x flZero then flZero else x
  let (y, n2) := v32 ev (flMul (pos w) (pos h))
  (y, n0 + n1 + n2)

/-- The box of a row, unless it holds a NaN; with the events counted. -/
def boxOf (ev : Bool) (i : Nat) (l : List Nat) : Option (Box × Nat) :=
  let w (k : Nat) : Fl := flDecode fp32 (l.getD k 0)
  if (List.range 5).any fun k => decide (w k = .nan) then none
  else
    let v (k : Nat) : VC := finite fp32 (w k)
    let (a, n) := boxArea ev (v 2).1 (v 0).1 (v 3).1 (v 1).1
    some ({ i := i, x0 := (v 0).1, y0 := (v 1).1, x1 := (v 2).1, y1 := (v 3).1, score := (v 4).1, cls := l.getD 5 0, area := a },
      n + (v 0).2 + (v 1).2 + (v 2).2 + (v 3).2 + (v 4).2)

/-- Descending score, ties by ascending index: a box put in its place behind those that entered before it. -/
def boxInsert (x : Box) : List Box → List Box
  | [] => [x]
  | y :: r => if flLt y.score x.score then x :: y :: r else y :: boxInsert x r

/-- Whether box i suppresses box j, with the events counted. -/
def suppresses (c : Cmd) (i j : Box) : Bool × Nat :=
  let ev := c.legacy
  if bit 16 (vP1 c) && decide (i.cls ≠ j.cls) then (false, 0)
  else
    let (inter, n0) := boxArea ev (flMin i.x1 j.x1) (flMax i.x0 j.x0) (flMin i.y1 j.y1) (flMax i.y0 j.y0)
    let (s, n1) := v32 ev (flAdd i.area j.area)
    let (un, n2) := v32 ev (flAdd s (flNeg inter))
    let t := vParam (vP0 c)
    let (lim, n3) := v32 ev (flMul t.1 un)
    (flLt lim inter, n0 + n1 + n2 + n3 + t.2)

/-- Kept boxes in the order kept, at most n, and the events counted. -/
def nmsGo (c : Cmd) : Nat → Nat → List Box → List Nat × Nat
  | 0, _, _ => ([], 0)
  | fuel + 1, n, l =>
    match l with
    | [] => ([], 0)
    | x :: r =>
      if n ≤ 1 then ([x.i], 0)
      else
        let tests := r.map fun y => (y, suppresses c x y)
        let (ks, m) := nmsGo c fuel (n - 1) (tests.filterMap fun t => if t.2.1 then none else some t.1)
        (x.i :: ks, m + (tests.map fun t => t.2.2).sum)

/-- NMS. -/
def rowNms (d : Device) (c : Cmd) (b : Nat) : List Nat × Nat :=
  let bs := (List.range (vRows c)).filterMap fun i => boxOf c.legacy i (vEls d c b 0 i)
  let (ks, n) := nmsGo c (bs.length + 1) (vKeep c) ((bs.map (·.1)).foldl (fun l x => boxInsert x l) [])
  (ks.length :: ks ++ List.replicate (vKeep c - ks.length) 0xFFFFFFFF, n + (bs.map (·.2)).sum)

/-- The elements of destination row r, and the events counted. -/
def vRow (d : Device) (c : Cmd) (b : Nat) (tbl : List Nat) (free r : Nat) : List Nat × Nat :=
  match opOf c with
  | 0x20 => rowEw2 d c b r
  | 0x21 => rowAxpb d c b r
  | 0x22 => rowFunc d c b r
  | 0x23 => rowReduce d c b r
  | 0x24 => rowSoftmax d c b r
  | 0x25 => rowNorm d c b tbl r
  | 0x26 => rowPixnorm d c b tbl free r
  | 0x27 => rowPool d c b r
  | 0x28 => rowResize d c b r
  | 0x29 => rowRequant d c b tbl r
  | 0x2A => rowFill c
  | 0x2B => if vSub c = 1 then rowMerge d c b else rowSelect d c b r
  | _ => rowNms d c b

/-! ## Running a command (R352, R353, R366) -/

/-- The first unit of a range whose check fails (R253). -/
def unitFail (d : Device) (l n : Nat) : Option Nat :=
  if d.merr.parity = [] then none
  else ((pieces n l n).find? fun x => (unitKeys d x.1).any (d.merr.parity.contains ·)).map (·.1)

/-- The first unit that a write covers in part and whose check fails (R605). -/
def mergeFail (d : Device) (l n : Nat) : Option Nat :=
  if d.merr.parity = [] then none
  else ((pieces n l n).find? fun x => decide (x.2 ≠ unitAt x.1) && (unitKeys d x.1).any (d.merr.parity.contains ·)).map (·.1)

/-- A row's source units read: the first that fails. -/
def vReadFail (d : Device) (c : Cmd) (b r : Nat) : Option Nat :=
  (vReads c r).findSome? fun x => unitFail d (vAddr c b x.1 x.2) (vCols c * vWidth (vF c x.1))

/-- Band-store lines counted (R521). -/
def vLines (c : Cmd) (b r : Nat) (d : Device) : Device := perfOne b 0x11 (some c.part) (vRowUnits c b 1 0 r) d

/-- One destination row: nothing of it is written when a check fails (R366, R605). -/
def vStep (c : Cmd) (b : Nat) (tbl : List Nat) (free : Nat) (x : Device × Option Done) (r : Nat) : Device × Option Done :=
  match x with
  | (d, some y) => (d, some y)
  | (d, none) =>
    match vReadFail d c b r with
    | some l => (countParity l d, some { status := stParity, tilePos := r })
    | none =>
      let (els, n) := vRow d c b tbl free r
      let bs := els.flatMap (leBytes (vWidth (vF c 2)))
      match mergeFail d (vAddr c b 2 r) bs.length with
      | some l => (countParity l d, some { status := stParity, tilePos := r })
      | none => (fsat (oVecSat b) fVecSatCount n (vLines c b r (put (vAddr c b 2 r) bs d)), none)

/-- The parameter table of a band as the command loads it, or how its load ends the command (R126, R253, R353). -/
def vLoad (d : Device) (c : Cmd) (b : Nat) : Except (Done × Device) (List Nat) :=
  let a := 16 * b + vTblArr c
  let n := vTblWords c
  if n = 0 then .ok []
  else match unitFail d (wordAddr a (4 * vTbl c)) (4 * n) with
    | some l => .error ({ status := stParity }, countParity l d)
    | none =>
      let t := (List.range n).map fun k => wsWord d a (vTbl c + k)
      let w (k : Nat) : Nat := t.getD k 0
      if opOf c = 0x29 && (List.range (vCols c)).any fun j =>
          decide (bits 15 6 (w (8 * j + 3)) ≠ 0) || decide (bits 31 17 (w (8 * j + 5)) ≠ 0) || decide (w (8 * j + 6) ≠ 0) ||
          decide (w (8 * j + 7) ≠ 0) then
        .error ({ status := stMalformed }, d)
      else .ok t

/-- The tables of all shares that hold rows. -/
def vLoadAll (d : Device) (c : Cmd) : List (Nat × Nat × Nat) → Except (Done × Device) (List (List Nat × Nat × Nat × Nat))
  | [] => .ok []
  | s :: r =>
    if s.2.2 = 0 then vLoadAll d c r
    else match vLoad d c s.1 with
      | .error e => .error e
      | .ok t =>
        match vLoadAll d c r with
        | .error e => .error e
        | .ok l => .ok ((t, s) :: l)

/-- The rows of a command below a limit, band after band. -/
def vecRows (c : Cmd) (free limit : Nat) (l : List (List Nat × Nat × Nat × Nat)) (d : Device) : Device × Option Done :=
  l.foldl (fun x s =>
    ((List.range s.2.2.2).map (s.2.2.1 + ·)).foldl (fun x r => if r < limit then vStep c s.2.1 s.1 free x r else x) x) (d, none)

/-- A vector command that has passed its checks: an abort has stopped it before row `tilePos` of c.stop (R338, R366). -/
def vecRun (c : Cmd) (took : Nat) (d : Device) : Device :=
  match vLoadAll d c (vShares c) with
  | .error (x, d) => endCmd c x d
  | .ok l =>
    let (free, d) := drawFree d
    let limit := match c.stop with | some y => y.tilePos | none => vOutRows c
    match vecRows c free limit l d with
    | (d, some y) => endCmd c y d
    | (d, none) =>
      match c.stop with
      | some y => endCmd c (if limit < vOutRows c then y else { flags := flagLate }) d
      | none => endCmd c (deadlinePll c (8 * vecBudget c) took {}) d

/-- A store of the command's bands or arrays is held (R254, R453). -/
def vecHeld (d : Device) (c : Cmd) : Bool :=
  let as := motifList (targetOf c)
  as.any (heldArray d) || (distinct (as.map bandOf)).any (heldBand d)

/-- A vector command's work. -/
def vecWork (op id : Nat) (x : Circ) (d : Device) : Device :=
  match runningAs d id (· = op) with
  | none => d
  | some c =>
    if vecHeld d c then d
    else
      let d := applyCirc c.part x d
      match vecCheck d c with
      | some y => endCmd c y d
      | none => vecRun c x.took d

/-! ## Meanings -/

/-- EW2 (R356). -/
def execEw2 (id : Nat) (c : Circ) (s : State) := run (.ew2 id c) (vecWork 0x20 id c) s
/-- AXPB (R356). -/
def execAxpb (id : Nat) (c : Circ) (s : State) := run (.axpb id c) (vecWork 0x21 id c) s
/-- FUNC (R360). -/
def execFunc (id : Nat) (c : Circ) (s : State) := run (.func id c) (vecWork 0x22 id c) s
/-- REDUCE (R355). -/
def execReduce (id : Nat) (c : Circ) (s : State) := run (.reduce id c) (vecWork 0x23 id c) s
/-- SOFTMAX (R357). -/
def execSoftmax (id : Nat) (c : Circ) (s : State) := run (.softmax id c) (vecWork 0x24 id c) s
/-- NORM (R358). -/
def execNorm (id : Nat) (c : Circ) (s : State) := run (.norm id c) (vecWork 0x25 id c) s
/-- PIXNORM (R359). -/
def execPixnorm (id : Nat) (c : Circ) (s : State) := run (.pixnorm id c) (vecWork 0x26 id c) s
/-- POOL (R361). -/
def execPool (id : Nat) (c : Circ) (s : State) := run (.pool id c) (vecWork 0x27 id c) s
/-- RESIZE (R361). -/
def execResize (id : Nat) (c : Circ) (s : State) := run (.resize id c) (vecWork 0x28 id c) s
/-- REQUANT (R362). -/
def execRequant (id : Nat) (c : Circ) (s : State) := run (.requant id c) (vecWork 0x29 id c) s
/-- FILL (R356). -/
def execFill (id : Nat) (c : Circ) (s : State) := run (.fill id c) (vecWork 0x2A id c) s
/-- TOPK (R363). -/
def execTopk (id : Nat) (c : Circ) (s : State) := run (.topk id c) (vecWork 0x2B id c) s
/-- NMS (R364). -/
def execNms (id : Nat) (c : Circ) (s : State) := run (.nms id c) (vecWork 0x2C id c) s

end Sys2Proof.Machine
end

