-- ==== Sys2Proof/Machine/Dump.lean ====
section
/-! DEFINITION. Tensor dumps (R542 to R547). -/

namespace Sys2Proof.Machine

/-! ## Sections (R543, R544) -/

/-- A section: array or band, SPACE of R348, local address of the first unit, first unit, units, unit size. -/
structure Sect where
  who : Nat
  space : Nat
  addr : Nat
  first : Nat
  count : Nat
  size : Nat
  deriving DecidableEq, Repr

/-- The units of a store from the lowest byte that ranges of (offset, bytes) touch to the highest. -/
def sectOf (who space size base : Nat) (rs : List (Nat × Nat)) : List Sect :=
  match rs.filter fun r => decide (r.2 ≠ 0) with
  | [] => []
  | r :: more =>
    let lo := more.foldl (fun m x => min m x.1) r.1 / size
    let hi := more.foldl (fun m x => max m (x.1 + x.2 - 1)) (r.1 + r.2 - 1) / size
    [{ who := who, space := space, addr := base + lo * size, first := lo, count := hi + 1 - lo, size := size }]

/-- Rows of an array's row store that ranges of (bit, bits) touch. -/
def rowSect (a : Nat) (rs : List (Int × Nat)) : List Sect :=
  sectOf a 2 512 (rowAddr a 0) (rs.map fun r => (r.1.toNat / 8, (r.1.toNat + r.2 + 7) / 8 - r.1.toNat / 8))

/-- Activation rows of a share; block-mapped activations have none (R200, R284; log 39). -/
def matIn (c : Cmd) (s : Share) : List Sect :=
  if mASp c ≠ 0 then []
  else rowSect s.arr ((addrPos c s 0).flatMap fun j => (listEnds c 0).flatMap fun v => (shareBlocks c s).map fun b =>
    (aBit c (posPart c (fun _ => v) 0 j) (32 * b), min 32 (pK c - 32 * b) * mCa c))

/-- Destination rows of a share (R179, R219, R284). -/
def matOut (ss : List Share) (c : Cmd) (s : Share) : List Sect :=
  if mScat c = 1 then rowSect s.arr [((mTable c * 4096 : Nat), mOutExt c * pCuse c * 32)]
  else if writesDest ss c s then
    if mTopk c ≠ 0 ∧ mTkAxis c = 0 then
      (if firstOfCh ss s then rowSect s.arr [((mORow c * 4096 : Nat), s.ch.2 * mTopk c * 64)] else [])
    else rowSect s.arr ((addrPos c s 2).flatMap fun j => (listEnds c 2).flatMap fun v =>
      if mTopk c ≠ 0 then [(oBit c (posPart c (fun _ => v) 2 j) 0, mTopk c * 64)]
      else (List.range s.ch.2).map fun k => (oBit c (posPart c (fun _ => v) 2 j) (s.ch.1 + k), outBits c))
  else []

/-- The band stores' lines that hold a BANKED command's tables (R221). -/
def bankOut (ss : List Share) (c : Cmd) : List Sect :=
  (distinct (ss.map fun s => bandOf s.arr)).flatMap fun b =>
    sectOf b 1 64 (bandAddr b 0) [(mTable c * 64, mOutExt c * (bandCh ss b).2 * 4)]

/-- Units that rows of a vector command's operand span in a band. -/
def vecSect (c : Cmd) (k b : Nat) (rows : List Nat) : List Sect :=
  let who := if vSpace c k = 1 then b else 16 * b + vArr c k
  let base := match vSpace c k with | 1 => bandAddr b 0 | 2 => rowAddr who 0 | _ => wordAddr who 0
  sectOf who (vSpace c k) (vUnit (vSpace c k)) base
    (rows.map fun r => (vOff c k * vUnit (vSpace c k) + r * vStride c k, vOpdCols c k * vWidth (vF c k)))

/-- A vector command of R347. -/
def isVec (c : Cmd) : Bool := decide (0x20 ≤ opOf c) && decide (opOf c ≤ 0x2C)

/-- The sections of a command's dump. -/
def dumpSects (d : Device) (c : Cmd) (input : Bool) : List Sect :=
  if isVec c then
    (vShares c).flatMap fun s =>
      let rows := (List.range s.2.2).map (s.2.1 + ·)
      if input then (if vUses c 0 then vecSect c 0 s.1 (rows.flatMap (vSrcRows c)) else []) else vecSect c 2 s.1 rows
  else
    let ss := shares d c
    if input then ss.flatMap (matIn c) else if mScat c = 2 then bankOut ss c else ss.flatMap (matOut ss c)

/-- Bytes of a record with these sections. -/
def dumpLen (l : List Sect) : Nat := 64 * ceilDiv (64 + (l.map fun s => 16 + s.count * s.size).sum) 64

/-- A section's descriptor and units. -/
def sectBytes (d : Device) (s : Sect) : List Byte :=
  leBytes 4 (s.who + s.space * 2 ^ 8) ++ leBytes 4 s.first ++ leBytes 4 s.count ++ leBytes 4 s.size ++ bytesAt d s.addr (s.count * s.size)

/-- The copy of a dump's sections counts the units that fail (R253; log 76). -/
def dumpCount (c : Cmd) (input : Bool) (d : Device) : Device :=
  (dumpSects d c input).foldl (fun d s => countRange s.addr (s.count * s.size) d) d

/-- A dump record (R544). -/
def dumpRecord (d : Device) (c : Cmd) (w : Nat) (input : Bool) (status time : Nat) : List Byte :=
  let l := dumpSects d c input
  let n := dumpLen l
  let bs := leBytes 4 (0x7D01 + w * 2 ^ 16 + b2n (!input) * 2 ^ 20) ++ leBytes 4 (wordAt c.words 1) ++ leBytes 4 (stepOf c) ++
    leBytes 4 (seqOf c + status * 2 ^ 16 + c.part * 2 ^ 24) ++ leBytes 4 n ++ leBytes 4 (targetOf c + l.length * 2 ^ 16) ++
    leBytes 8 time ++ List.replicate 32 0 ++ l.flatMap (sectBytes d)
  bs ++ List.replicate (n - bs.length) 0

/-! ## Matching (R542, R546, R547) -/

/-- A watch matches a command. -/
def watchHit (d : Device) (c : Cmd) (w : Nat) : Bool :=
  let x := (rget d (oWatchCtl w)).toNat
  let t := (rget d (oWatchStep w)).toNat
  bit 0 x && decide (bits 18 13 x = c.part) &&
  (bit 4 x || decide (fget d (oWatchId w) fWatchIdLayerId = cf c 1 19 0)) &&
  (bit 5 x || decide (fget d (oWatchId w) fWatchIdOperatorId = cf c 1 31 20)) &&
  (match bits 7 6 x with
   | 0 => true
   | 1 => decide (stepOf c = t)
   | _ => decide (stepOf c % 2 ^ bits 12 8 x = 0))

/-- The command is one that a dump can be made of: its checks pass and it is not EMPTY. -/
def dumpable (d : Device) (c : Cmd) : Bool :=
  if opOf c = 0x10 then (matmulCheck d c).isNone && decide (mReal c ≠ 0) else isVec c && (vecCheck d c).isNone

def dumpSize (d : Device) : Nat := 2 ^ fget d oDumpCtrl fDumpCtrlDumpLog2

/-- The buffer has room for a record (R545). -/
def dumpRoom (d : Device) (n : Nat) : Bool :=
  decide (unsigned 32 (((rget d oDumpWr).toNat : Int) - (rget d oDumpRd).toNat) + n ≤ dumpSize d)

/-- The packets that a record of n bytes needs on the port, in bytes. -/
def dumpPackets (n : Nat) : Nat := 24 * ceilDiv n 2032 + n

/-- The DUMP FIFO has room for n bytes. -/
def fifoRoom (d : Device) (n : Nat) : Bool := !trcSrc d 3 || decide (fifoBytes d.trc.fifo3 + n ≤ 65536)

/-- T_d without its 960 ACLK, for e bytes; none at a rate of 0 (R546). -/
def dumpCycles (d : Device) (dest e : Nat) : Option Nat :=
  let k := fget d oDumpCtrl fDumpCtrlDumpRclass
  if dest = 1 then some (sideCycles e ⟨10, 1, 0⟩)
  else if minRate d k = 0 then none
  else some (sideCycles e ⟨minRate d k, ftSlots d k, 0⟩)

/-- Bytes that the last tile groups write, or the last rows of a vector command's bands (log 39). -/
def lastBytes (d : Device) (c : Cmd) : Nat :=
  if isVec c then ((vShares c).filter fun s => decide (s.2.2 ≠ 0)).length * (vOutCols c * vWidth (vF c 2))
  else
    let ss := shares d c
    ((ss.filter (writesDest ss c)).map fun s =>
      let g := groupsOf c s - 1
      ceilDiv ((groupPos c s g).length * (if mTopk c ≠ 0 then mTopk c else (groupCh c s g).2) * outBits c) 8).sum

/-- Two lists of sections share a unit. -/
def sectsMeet (l m : List Sect) : Bool :=
  l.any fun s => m.any fun t => decide (s.who = t.who) && decide (s.space = t.space) && decide (s.first < t.first + t.count) &&
    decide (t.first < s.first + s.count)

/-- The test of R546 for a FIXED_TIME command's dump. -/
def fixedDump (d : Device) (c : Cmd) (w : Nat) : Bool :=
  let input := !fbit d (oWatchCtl w) fWatchCtlDir
  let dest := fget d (oWatchCtl w) fWatchCtlDest
  let l := dumpSects d c input
  let n := dumpLen l
  let b := if isVec c then 8 * vecBudget c else matmulBudget d c * c.div
  (match dumpCycles d dest n, dumpCycles d dest (lastBytes d c) with
   | some t, some e => decide ((t + 960) * c.div ≤ b) && (input || decide (e + 960 ≤ 1600))
   | _, _ => false) &&
  (if dest = 1 then fifoRoom d (dumpPackets n) else dumpRoom d n) &&
  (!input || !sectsMeet l (dumpSects d c false))

/-- A dump refused (R547). -/
def dumpSkipped (c : Cmd) (w : Nat) (d : Device) : Device :=
  breach 2 5 (dumpLen (dumpSects d c (!fbit d (oWatchCtl w) fWatchCtlDir)))
    (raise c.part 0x0004 w (cf c 1 19 0) (cf c 1 31 20) (stepOf c) d)

/-- Watch w is armed for a command at its start, or skipped. -/
def armWatch (id : Nat) (d : Device) (w : Nat) : Device :=
  match cmdOf d id with
  | none => d
  | some c =>
    if watchHit d c w then
      if fixedTime c && !fixedDump d c w then dumpSkipped c w d
      else if fbit d (oWatchCtl w) fWatchCtlDir then setCmd { c with dumpOut := c.dumpOut ++ [w] } d
      else setCmd { c with dumpIn := c.dumpIn ++ [w] } d
    else d

/-- Watches matched at a command's start, ascending (R542). -/
def matchWatches (id : Nat) (d : Device) : Device :=
  match cmdOf d id with
  | some c => if (List.range 16).any (watchHit d c) && dumpable d c then (List.range 16).foldl (armWatch id) d else d
  | none => d

/-! ## Making a dump (R543 to R546) -/

/-- Bytes of a record to the buffer (R544). -/
def dumpWrite (bs : List Byte) (d : Device) : Device :=
  let base := (rget d oDumpBaseLo).toNat + 2 ^ 32 * fget d oDumpBaseHi fDumpBaseHiAddr
  let size := dumpSize d
  let o := (rget d oDumpWr).toNat % size
  let d := putHbm (base + o) (bs.take (size - o)) d
  let d := if bs.length ≤ size - o then d else putHbm base (bs.drop (size - o)) d
  fwrap oDumpWr fDumpWrBytes bs.length (perfOne 16 0x21 none (units64 0 bs.length) d)

/-- A DUMP packet with the record's bytes from an offset on. -/
def dumpPkt (d : Device) (w off : Nat) (bs : List Byte) : TPkt :=
  { type := 7, stamp := d.clk.time, payload := BitVec.ofNat 64 (w + off * 2 ^ 32) :: leDWords ((bs.drop off).take 2032),
    since := d.clk.time }

/-- The watch's dump is over: ONESHOT disarms it. -/
def dumpDone (c : Cmd) (input : Bool) (w : Nat) (d : Device) : Device :=
  let c := { c with dumpAt := 0 }
  let d := setCmd (if input then { c with dumpIn := c.dumpIn.drop 1 } else { c with dumpOut := c.dumpOut.drop 1 }) d
  if fbit d (oWatchCtl w) fWatchCtlOneshot then fput (oWatchCtl w) fWatchCtlEn 0 d else d

/-- The next packet of a record, or for a FIXED_TIME command that finds the FIFO full the loss of all that is left (R545, R546). -/
def dumpPacket (c : Cmd) (input : Bool) (w : Nat) (bs : List Byte) (d : Device) : Device :=
  let p := dumpPkt d w c.dumpAt bs
  let next := c.dumpAt + 2032
  if fifoRoom d (pktBytes p) then
    let d := trcPut 3 p d
    if bs.length ≤ next then dumpDone c input w d else setCmd { c with dumpAt := next } d
  else if fixedTime c then
    let d := (List.range (ceilDiv (bs.length - c.dumpAt) 2032)).foldl (fun d k => trcDrop 3 (dumpPkt d w (c.dumpAt + 2032 * k) bs) d) d
    dumpDone c input w d
  else d

/-- The dump that a command makes next. -/
def nextDump (c : Cmd) : Option (Bool × Nat) :=
  match c.phase, c.dumpIn, c.dumpOut with
  | .queued, _, _ => none
  | _, w :: _, _ => some (true, w)
  | .ended, [], w :: _ => some (false, w)
  | _, _, _ => none

/-- A watch's dump, or its next packet on the trace port. -/
def dump (id w : Nat) (d : Device) : Device :=
  match cmdOf d id with
  | none => d
  | some c =>
    match nextDump c with
    | none => d
    | some (input, k) =>
      if k ≠ w then d
      else
        let c := if c.dumpAt = 0 then { c with dumpTime := d.clk.time } else c
        let st := if c.phase = .ended then (reported (partOf d c.part) c.done).status
          else (Config.inputStatus c.dumpTime id w).toNat
        let bs := dumpRecord d c w input st c.dumpTime
        if fbit d (oWatchCtl w) fWatchCtlDest then dumpPacket c input w bs (if c.dumpAt = 0 then dumpCount c input d else d)
        else if dumpRoom d bs.length then dumpDone c input w (dumpWrite bs (dumpCount c input d))
        else d

/-! ## Meanings -/

/-- DUMP (R543). -/
def execDump (id watch : Nat) (s : State) := run (.dump id watch) (dump id watch) s

end Sys2Proof.Machine
end

