-- ==== Sys2Proof/Machine/Flits.lean ====
section
/-! DEFINITION. Flits as a link receives them (R417 to R419, R428, R430, R444). -/

namespace Sys2Proof.Machine

/-! ## The header (R417) -/

def flitField (f : Flit) (hi lo : Nat) : Nat := bits hi lo f.header.toNat
def flitType (f : Flit) : Nat := flitField f 3 0
def flitLseq (f : Flit) : Nat := flitField f 15 4
def flitAck (f : Flit) : Nat := flitField f 27 16
def flitNakBit (f : Flit) : Bool := decide (flitField f 28 28 = 1)
def flitLast (f : Flit) : Bool := decide (flitField f 29 29 = 1)
def flitHop (f : Flit) : Nat := flitField f 33 31

/-- The packet that ends with a flit. -/
def flitPacket (f : Flit) (load : Payload) : Packet :=
  { src := flitField f 45 34, dst := flitField f 57 46, part := flitField f 63 58, resp := decide (flitField f 30 30 = 1),
    pseq := BitVec.ofNat 32 (flitField f 95 64), hop := flitHop f, load := load }

/-- The CRC of bytes 0 to 251 is right (R417). -/
def flitCrcOk (f : Flit) : Bool := decide (crc32 (leBytes 12 f.header.toNat ++ f.payload) = f.crc.toNat)

/-- A flit fails (R418). -/
def flitFailed (f : Flit) : Bool := !f.fecOk || !flitCrcOk f || decide (6 ≤ flitType f) || decide (5 ≤ flitHop f)

/-! ## Receipt -/

/-- A packet that arrives in order: for this device, or passed on with one more hop (R419). -/
def arrived (p : Packet) (x : Circ) (d : Device) : Device :=
  if p.dst = ownDev d then
    match p.load with
    | .desc y => if p.src / 16 = ownDev d / 16 then descReceive (p.src % 16) y d else d
    | _ => remotePacket p x d
  else routeSend { p with hop := p.hop + 1 } d

/-- What a flit in order carries: the credits of an IDLE flit, or the last flit of a packet or descriptor. The contents of TIME, IDENT
and FREEZE flits reach the device by commands of their own. -/
def flitTake (l : Nat) (f : Flit) (x : Circ) (d : Device) : Device :=
  match flitType f, flitLast f, f.load with
  | 0, _, _ => flushWaiting l (setLink l { linkOf d l with noCredit := f.noCredit } d)
  | 1, true, some (.desc _) => d
  | 1, true, some y => arrived (flitPacket f y) x d
  | 4, true, some (.desc y) => arrived (flitPacket f (.desc y)) x d
  | _, _, _ => d

/-- A flit as the receiver finds it (R418). -/
def flitReceive (l : Nat) (f : Flit) (x : Circ) (d : Device) : Device :=
  if linkState d l ≠ lkUp then d
  else
    let d := perfOne 16 0x26 none 1 (fsat (oLinkFec l) fLinkFecCorrected f.corrected d)
    let k := linkOf d l
    if flitFailed f then
      emit (.flitNak l ((k.rxNext + 4095) % 4096)) (fsat (oLinkErr l) fLinkErrCrcErrors 1 d)
    else if flitLseq f ≠ k.rxNext then d
    else
      let d := setLink l (ackUpTo (flitAck f) { k with rxNext := (k.rxNext + 1) % 4096 }) d
      flitTake l f x (if flitNakBit f then nak l (flitAck f) d else flushWaiting l d)

/-! ## Meanings -/

/-- FLIT_RECEIVE (R418). -/
def execFlitReceive (l : Nat) (f : Flit) (s : State) (c : Circ := {}) := run (.flitReceive l f c) (flitReceive l f c) s

end Sys2Proof.Machine
end

