-- ==== Sys2Proof/Machine/Hbm.lean ====
section
/-! DEFINITION. HBM: patrol scrubbing, page retirement, reservation classes, stack-local regions (R403 to R415). -/

namespace Sys2Proof.Machine

/-- The local address that reaches a stack offset (the inverse of R402 and R403). -/
def hbmUnmap (d : Device) (k x : Nat) : Nat :=
  match (regions d).find? fun r => decide (r.1 * gib / 6 ≤ x) && decide (x < r.1 * gib / 6 + r.2 * gib) with
  | some (b, n) => b * gib + k * (n * gib) + (x - b * gib / 6)
  | none => (x / 4096 * 6 + k) * 4096 + x % 4096

/-- The scrubber reads the next block of a stack (R405 to R408). The operands say whether it finds an error there. -/
def scrubRead (k : Nat) (c : Circ) (d : Device) : Device :=
  if fbit d oHbmCtrl fHbmCtrlScrubEn then
    let x := tabGet 0 k d.hbm.scrub
    let l := hbmUnmap d k x
    let d := { d with hbm := { d.hbm with scrub := tabSet 0 k ((x + 32) % 2 ^ 36) d.hbm.scrub } }
    let d := hbmRead l 32 none d
    if c.hard ≠ [] then poisonAt 0 l d else if c.soft ≠ [] then correctedAt l d else d
  else d

/-- The first free entry of a stack's retirement list (R409). -/
def freeEntry (d : Device) (k : Nat) : Option Nat :=
  (List.range 128).find? fun e => decide (bits 31 31 (tabGet 0 (oRetireEntry k e) d.regs).toNat = 0)

/-- The bytes of a page moved to a spare page: poisoned blocks stay poisoned (R409). -/
def movePage (old new : Nat) (d : Device) : Device :=
  let inPage (k : Nat) : Bool := decide (old ≤ k) && decide (k < old + 4096)
  let moved := d.mem.filter fun e => inPage e.1
  let d1 := memClear old 4096 d
  let d1 := moved.foldl (fun d e => memSet (new + (e.1 - old)) e.2 d) d1
  { d1 with merr := { d1.merr with
    poison := (d.merr.poison.filter inPage).foldl (fun l k => nsInsert (new + (k - old)) l)
      (d.merr.poison.filter fun k => !inPage k) } }

/-- `taken` is the bandwidth in MB/s that the hold takes from reservation classes (R474; log 5).
A page that is due retires from where it lies into a free spare page, or RETIRE_FULL is set (R408 to R410); its count of corrected
errors begins again (log 25). -/
def pageRetire (k page taken : Nat) (d : Device) : Device :=
  match d.hbm.retiring.find? fun x => decide (x.1 = k) && decide (x.2.1 = page) with
  | none => d
  | some r =>
    let d := { d with hbm := { d.hbm with retiring := d.hbm.retiring.erase r } }
    match freeEntry d k with
    | none => fput (oHbmUnc k) fHbmUncRetireFull 1 d
    | some e =>
      let d := movePage (stackKey d k (page * 4096)) (k * 2 ^ 37 + 2 ^ 36 + e * 4096) d
      let d := { d with hbm := { d.hbm with corrected := d.hbm.corrected.filter fun x => !(decide (x.1 = k) && decide (x.2.1 = page)) } }
      let d := rput (oRetireEntry k e) (BitVec.ofNat 32 (page + b2n r.2.2 * 2 ^ 30 + 2 ^ 31)) d
      let d := fsat (oHbmUnc k) fHbmUncRetired 1 d
      let d := if fget d (oHbmUnc k) fHbmUncRetired = 128 then fput (oHbmUnc k) fHbmUncRetireFull 1 d else d
      let d := raiseDev 0x000A k page 0 d
      if taken = 0 then d else breach 2 3 taken d

/-- The sum of MIN_RATE with one class at a new rate (R413). -/
def rateSum (d : Device) (k rate : Nat) : Nat :=
  ((List.range 8).map fun c => if c = k then rate else fget d (oHbmClass c) fHbmClassMinRate).sum

/-- A register set to a word and the change journalled (R604). -/
def rputConfig (base off : Nat) (w : Word) (d : Device) : Device :=
  let old := rget d off
  if w = old then d else journalConfig base (off - base) old w (rput off w d)

/-- A write to HBM_CLASSc (R413). -/
def hbmClassWrite (k : Nat) (v : Word) (d : Device) : Device :=
  if 7200 < rateSum d k (bits 12 0 v.toNat) then fput oHbmCtrl fHbmCtrlClassErr 1 d
  else rputConfig 0x10000 (oHbmClass k) (BitVec.ofNat 32 (bits 15 0 v.toNat)) d

/-- Two regions share an address, in units of 6 GiB. -/
def regionsMeet (b n b' n' : Nat) : Bool := decide (b < b' + n' + 1) && decide (b' < b + n + 1)

/-- An enable of region n with these fields is refused (HBM_REGIONn). -/
def regionRefused (d : Device) (n b g : Nat) : Bool :=
  decide (64 < b + g + 1) || (List.range 8).any fun m => decide (m ≠ n) && fbit d (oHbmRegion m) fHbmRegionEnable &&
    regionsMeet b g (fget d (oHbmRegion m) fHbmRegionBase6) (fget d (oHbmRegion m) fHbmRegionNgib)

/-- A write to HBM_REGIONn (R403, R404). -/
def hbmRegionWrite (n : Nat) (v : Word) (d : Device) : Device :=
  let w := bits 12 0 v.toNat
  if fbit d (oHbmRegion n) fHbmRegionEnable && bit 0 w then d
  else if bit 0 w && regionRefused d n (bits 6 1 w) (bits 12 7 w) then
    fput oHbmCtrl fHbmCtrlRegionErr 1 (rputConfig 0x10000 (oHbmRegion n) (BitVec.ofNat 32 (setBits 0 0 0 w)) d)
  else rputConfig 0x10000 (oHbmRegion n) (BitVec.ofNat 32 w) d

/-! ## Meanings -/

/-- SCRUB_READ (R407). -/
def execScrubRead (stack : Nat) (c : Circ) (s : State) := run (.scrubRead stack c) (scrubRead stack c) s
/-- PAGE_RETIRE (R409). -/
def execPageRetire (stack page taken : Nat) (s : State) :=
  run (.pageRetire stack page taken) (pageRetire stack page taken) s
/-- HBM_CLASS_WRITE (R413). -/
def execHbmClassWrite (k : Nat) (v : Word) (s : State) := run (.hbmClassWrite k v) (hbmClassWrite k v) s
/-- HBM_REGION_WRITE (R403). -/
def execHbmRegionWrite (n : Nat) (v : Word) (s : State) := run (.hbmRegionWrite n v) (hbmRegionWrite n v) s

end Sys2Proof.Machine
end

