-- ==== Sys2Proof/Machine/Pair.lean ====
section
/-! DEFINITION. Control processors and active/standby pairs (R456 to R471). -/

namespace Sys2Proof.Machine

/-! ## Roles (R459 to R461, R470, R471) -/

def peerSlot (d : Device) : Nat := fget d oPairCtrl fPairCtrlPeerSlot
def pairEn (d : Device) : Bool := fbit d oPairCtrl fPairCtrlPairEn

/-- The role set; the outputs follow (R487, R492). -/
def setRole (r : Nat) (d : Device) : Device := outputs (fput oPairStatus fPairStatusRole r d)

/-- A stage of a takeover set. -/
def setStage (x : Stage) (d : Device) : Device := { d with pair := { d.pair with stage := x } }

/-- A pair packet has arrived: the pair links are not silent (R467). -/
def pairHeard (d : Device) : Device := if pairEn d then fput oPairStatus fPairStatusLinksOk 1 d else d

/-- The device lets go of the pair's lines. -/
def letGo (d : Device) : Device :=
  { d with
    pins := { d.pins with claim := false, hbOut := false, fenceOut := false }
    pair := { d.pair with stage := .none, holdoff := false, queryOpen := false } }

/-- The device becomes standby, and tells its peer that it is ready (R461, R471; log 43). -/
def becomeStandby (d : Device) : Device := emit .pairReady (setRole roleStandby (letGo d))

/-- The device becomes active: it drives ACT_CLAIM and sends CLAIM (R461). -/
def becomeActive (d : Device) : Device :=
  emit (.pairClaim (ownSlot d)) (setRole roleActive { d with pins := { d.pins with claim := true } })

/-- ACT_CLAIM is sampled after the hold-off (step 3 of R461). -/
def secondSample (claimed : Bool) (d : Device) : Device :=
  let d := { d with pair := { d.pair with holdoff := false } }
  if claimed || d.pins.fenceIn then becomeStandby d else becomeActive d

/-- ACT_CLAIM is sampled at a write of 1 to PAIR_EN (steps 1 and 2 of R461). -/
def joinPair (claimed : Bool) (d : Device) : Device :=
  if claimed then becomeStandby d
  else if d.straps.role then secondSample false d
  else { d with pair := { d.pair with holdoff := true } }

/-- PAIR_EN returns to 0: the device is in no pair (log 43). -/
def leavePair (d : Device) : Device := setRole roleNone (letGo d)

/-- The hold-off ends (R461). -/
def holdoffExpiry (claimed : Bool) (d : Device) : Device := if d.pair.holdoff then secondSample claimed d else d

/-- A CLAIM packet arrives: of two devices that hold ACT_CLAIM the higher slot yields (R461). -/
def claim (slot : Nat) (d : Device) : Device :=
  let d := pairHeard d
  if d.pins.claim ∧ slot < ownSlot d then becomeStandby d else d

/-- The active device's heartbeat (R457, R460). -/
def heartbeatToggle (d : Device) : Device :=
  if role d = roleActive ∧ d.pair.hubOk ∧ powered d then { d with pins := { d.pins with hbOut := !d.pins.hbOut } } else d

/-- ALIVE (R457, R460). -/
def alive (d : Device) : Device :=
  if (role d = roleActive ∨ role d = roleStandby) ∧ d.pair.hubOk ∧ powered d then emit .pairAlive d else d

/-! ## Checkpoints (R462 to R466) -/

/-- The partitions in the checkpoint, ascending. -/
def pairParts (d : Device) : List Nat := (List.range 64).filter (pairPart d)

/-- The earlier of two step numbers. -/
def earlier (a b : Nat) : Nat := if serialLater a b then b else a

/-- A partition's frame (R462; log 28). -/
def frameOf (d : Device) (p : Nat) : Nat :=
  match d.cmds.filter fun c => decide (c.part = p) with
  | [] => ((partOf d p).lastStep + 1) % 2 ^ 32
  | c :: r => r.foldl (fun m x => earlier m (stepOf x)) (stepOf c)

/-- A ring is in the checkpoint when its submission or completion side is enabled. -/
def ckRing (d : Device) (p r : Nat) : Bool := sqEn d p r || cqEn d p r

/-- A ring's 16 bytes. -/
def ckRingBytes (d : Device) (p r : Nat) : List Byte :=
  let lg := sqLegacy d p r
  let (slot, gen) := match d.cmds.find? fun c => decide (c.part = p) && decide (c.sq = r) with
    | some c => (c.slot, c.gen)
    | none => (headOf d p r, if lg then headOf d p r else expGen d p r)
  leBytes 4 (p + r * 64) ++ leBytes 4 (if lg then gen % 65536 else slot + gen * 65536) ++
  leBytes 4 ((cqOf (partOf d p) r).written % 65536) ++ leBytes 4 0

/-- A partition's 288 bytes. -/
def ckPartBytes (d : Device) (p : Nat) : List Byte :=
  (List.range 64).flatMap (fun e => leBytes 4 (rget d (oEvent p e)).toNat) ++
  leBytes 4 (rget d (oEventErr p 0)).toNat ++ leBytes 4 (rget d (oEventErr p 1)).toNat ++
  leBytes 4 ((partOf d p).evWritten % 8192) ++ leBytes 4 p ++ leBytes 4 (frameOf d p) ++ leBytes 12 0

/-- The scale channels in the checkpoint: enabled, their OWNER a named partition. -/
def ckChans (d : Device) : List Nat :=
  (List.range 1024).filter fun n =>
    let w := (tabGet 0 (oScCtrl n) d.regs).toNat
    bit 0 w && pairPart d (bits 16 11 w)

/-- A scale channel's 64 bytes. -/
def ckChanBytes (d : Device) (n : Nat) : List Byte :=
  leBytes 4 n ++ (List.range 7).flatMap (fun k => leBytes 4 (rget d (oScCtrl n + 4 * k)).toNat) ++
  (List.range 8).flatMap fun k => leBytes 4 (rget d (oScHist n k)).toNat

/-- The earliest frame of all named partitions. -/
def frameAll (d : Device) : Nat :=
  match (pairParts d).map (frameOf d) with
  | [] => 0
  | f :: r => r.foldl earlier f

/-- A checkpoint without its commit line (R463). -/
def checkpoint (d : Device) (gen : Nat) : List Byte :=
  let ps := pairParts d
  let rings := ps.flatMap fun p => ((List.range 16).filter (ckRing d p)).map fun r => (p, r)
  let scs := ckChans d
  let body := (List.range 16).flatMap (fun n => leBytes 4 (fget d (oTrigLine n) fTrigLineLine)) ++
    rings.flatMap (fun x => ckRingBytes d x.1 x.2) ++ ps.flatMap (ckPartBytes d) ++ scs.flatMap (ckChanBytes d)
  leBytes 4 gen ++ leBytes 4 (64 + body.length) ++ leBytes 8 d.clk.time ++ leBytes 8 (posWord d) ++
  leBytes 4 (rget d oJnlNextSeq).toNat ++ leBytes 4 (frameAll d) ++ leBytes 4 (rings.length + ps.length * 65536) ++
  leBytes 4 scs.length ++ leBytes 24 0 ++ body

/-- A checkpoint's commit line (R463). -/
def commitLine (gen : Nat) (bs : List Byte) : List Byte := leBytes 4 (gen ^^^ 0xA5A5A5A5) ++ leBytes 4 (crc32c bs) ++ leBytes 56 0

/-- The base of a checkpoint slot in HBM (R464). -/
def ckptSlot (d : Device) (k : Nat) : Nat :=
  (rget d oPairCkptBaseLo).toNat + 2 ^ 32 * fget d oPairCkptBaseHi fPairCkptBaseHiAddr + k * 131072

/-- A checkpoint is captured and written to the standby, its commit line last (R462, R464; log 28). -/
def captureCheckpoint (d : Device) : Device :=
  let g := ((rget d oPairGen).toNat + 1) % 2 ^ 32
  let bs := checkpoint d g
  let a := ckptSlot d (g % 2)
  let f := frameAll d
  fput oPairGen fPairGenGen g (fput oPairFrame fPairFrameFrame f
    (emit (.pairCkpt (a + bs.length) (commitLine g bs)) (emit (.pairCkpt a bs) d)))

/-- Every 250 µs (R462). -/
def checkpointCapture (d : Device) : Device := if role d = roleActive ∧ powered d then captureCheckpoint d else d

/-- A word of a checkpoint. -/
def ckWord (bs : List Byte) (k : Nat) : Nat := leNat ((bs.drop (4 * k)).take 4)

/-- The checkpoint in a slot, when it passes the tests of R465 and can be read (R406). -/
def goodCheckpoint (d : Device) (k : Nat) : Option (List Byte) :=
  let a := ckptSlot d k
  let w (i : Nat) : Nat := leNat (bytesAt d (a + 4 * i) 4)
  let g := w 0
  let n := w 1
  if n < 128 ∨ 131008 < n ∨ (firstBad d a (n + 64)).isSome then none
  else
    let bs := bytesAt d a n
    let line := bytesAt d (a + n) 8
    if ckWord line 0 = g ^^^ 0xA5A5A5A5 ∧ ckWord line 1 = crc32c bs ∧ serialLater g (rget d oPairGen).toNat then some bs else none

/-- A commit line becomes visible (R465, R466). `ownAt` is the own count at the checkpoint's TIME. -/
def checkpointApply (k : Nat) (ownAt : Int) (x : Circ) (d : Device) : Device :=
  if role d = roleStandby then
    let d := applyCirc 0 x (pairHeard d)
    match goodCheckpoint d k with
    | none => d
    | some bs =>
      let diff := signed 48 (leNat ((bs.drop 16).take 6)) - ownAt
      let d := fput oPairGen fPairGenGen (ckWord bs 0) (fput oPairFrame fPairFrameFrame (ckWord bs 7) d)
      setCtr (d.pos.ctr + diff * 65536) { d with pair := { d.pair with applied := bs, diff := diff } }
  else d

/-! ## Detection (R467) -/

/-- HEARTBEAT_LOST (R467, R470). -/
def heartbeatLost (d : Device) : Device := raiseDev 0x000C 0 0 0 (fput oPairStatus fPairStatusHbLost 1 d)

/-- Step 1 of R468. -/
def beginTakeover (d : Device) : Device :=
  if role d = roleStandby ∧ d.pair.stage = .none then setStage .fencing { d with pins := { d.pins with fenceOut := true } } else d

def hbOk (d : Device) : Bool := fbit d oPairStatus fPairStatusHbOk
def linksOk (d : Device) : Bool := fbit d oPairStatus fPairStatusLinksOk

/-- No edge on PAIR_HB_IN for 100 µs (R467). -/
def heartbeatMissing (d : Device) : Device :=
  if pairEn d then
    let d := fput oPairStatus fPairStatusHbOk 0 d
    if role d = roleStandby then
      (if linksOk d then emit .pairQuery { d with pair := { d.pair with queryOpen := true } } else beginTakeover d)
    else d
  else d

/-- No pair packet for 100 µs (R467). -/
def linksSilent (d : Device) : Device :=
  if pairEn d then
    let d := fput oPairStatus fPairStatusLinksOk 0 d
    if role d = roleStandby then
      (if hbOk d then raiseDev 0x000B ((domainLinks d (peerSlot d)).headD 0) 0 0 (fput oPairStatus fPairStatusLinkLost 1 d)
       else beginTakeover d)
    else d
  else d

/-- A QUERY arrives at the active, which answers it; or the answer to its own arrives at the standby (R467; log 43). -/
def query (d : Device) : Device :=
  let d := pairHeard d
  if role d = roleActive then heartbeatLost (emit .pairReply d)
  else if role d = roleStandby ∧ d.pair.queryOpen then heartbeatLost { d with pair := { d.pair with queryOpen := false } }
  else d

/-- 20 µs without an answer (R467). -/
def queryTimeout (d : Device) : Device := { d with pair := { d.pair with queryOpen := false } }

/-- An edge on PAIR_HB_IN (R467). -/
def hbInEdge (level : Bool) (d : Device) : Device :=
  let d := { d with pins := { d.pins with hbIn := level } }
  if pairEn d then fput oPairStatus fPairStatusHbOk 1 d else d

/-! ## Takeover (R468 to R471) -/

/-- Both conditions of a takeover hold (R467, R468). -/
def takeover (d : Device) : Device := if !hbOk d && !linksOk d then beginTakeover d else d

/-- ACT_CLAIM is driven and the checkpoint is loaded (steps 2 and 3 of R468). -/
def driveClaim (d : Device) : Device := setStage .loading { d with pins := { d.pins with claim := true } }

/-- 50 µs after fencing (R468, R470). -/
def takeoverClaim (claimed : Bool) (d : Device) : Device :=
  if d.pair.stage = .fencing then
    if claimed then heartbeatLost (fput oPairStatus fPairStatusBlocked 1 (setStage .blocked d)) else driveClaim d
  else d

/-- A blocked standby samples again (R470). -/
def actClaimResample (claimed : Bool) (d : Device) : Device := if d.pair.stage = .blocked ∧ !claimed then driveClaim d else d

/-- One ring of the checkpoint loaded: 4 words from word k on (R463, R468, R469). -/
def loadRing (bs : List Byte) (found : List (Nat × Nat × Nat)) (d : Device) (k : Nat) : Device :=
  let p := bits 5 0 (ckWord bs k)
  let r := bits 9 6 (ckWord bs k)
  let w := ckWord bs (k + 1)
  let n := bits 15 0 (ckWord bs (k + 2))
  let more := match found.find? fun x => decide (x.1 = p) && decide (x.2.1 = r) with | some x => x.2.2 | none => 0
  let d := if sqLegacy d p r then fput (oSqState p r) fSqStateHead (bits 15 0 w) d
    else rput (oSqState p r) (heldBits (oSqState p r) w) d
  setPart p (setCq r { cqOf (partOf d p) r with written := n + more, consumed := n } (setRing r {} (partOf d p))) d

/-- One partition of the checkpoint loaded: 72 words from word k on. Its event ring goes on from the recorded position. -/
def loadPart (bs : List Byte) (d : Device) (k : Nat) : Device :=
  let p := bits 5 0 (ckWord bs (k + 67))
  let d := (List.range 64).foldl (fun d e => rput (oEvent p e) (BitVec.ofNat 32 (ckWord bs (k + e))) d) d
  let d := rput (oEventErr p 0) (BitVec.ofNat 32 (ckWord bs (k + 64))) (rput (oEventErr p 1) (BitVec.ofNat 32 (ckWord bs (k + 65))) d)
  let n := bits 12 0 (ckWord bs (k + 66)) + 8192
  setPart p { partOf d p with evWritten := n, evConsumed := n } d

/-- One scale channel of the checkpoint loaded: 16 words from word k on. A channel with a scale has an open step, with the window and
threshold of its registers (R142 to R144; log 43). -/
def loadChan (bs : List Byte) (d : Device) (k : Nat) : Device :=
  let n := bits 9 0 (ckWord bs k)
  let d := (List.range 7).foldl (fun d i => rput (oScCtrl n + 4 * i) (heldBits (oScCtrl n + 4 * i) (ckWord bs (k + 1 + i))) d) d
  let d := (List.range 8).foldl (fun d i => rput (oScHist n i) (BitVec.ofNat 32 (ckWord bs (k + 8 + i))) d) d
  let w := fget d (oScCtrl n) fScCtrlWindow + 1
  setSc n { isOpen := decide (fget d (oScState n) fScStateScale ≠ 0), m := histMax d n w, window := w,
            clipT := fget d (oScCtrl n) fScCtrlClipT } d

/-- Lines due on output n since a position: the points between it and NEXT (R468, R482). -/
def linesDue (d : Device) (n : Nat) (p0 : Int) : Nat :=
  if fbit d (oTrigCfg n) fTrigCfgEn then
    let pitch := max 1 (fget d (oTrigPitch n) fTrigPitchPitch)
    let span := if fbit d (oTrigCfg n) fTrigCfgDir then p0 - trigNext d n else trigNext d n - p0
    if span ≤ 0 then 0 else (span.toNat - 1) / pitch
  else 0

/-- Trigger line indices continue from the checkpoint's (R468). -/
def loadLine (bs : List Byte) (p0 : Int) (d : Device) (n : Nat) : Device :=
  fput (oTrigLine n) fTrigLineLine (ckWord bs (16 + n) + linesDue d n p0) d

/-- The applied checkpoint loaded (step 3 of R468). -/
def loadCheckpoint (bs : List Byte) (found : List (Nat × Nat × Nat)) (d : Device) : Device :=
  let nr := bits 10 0 (ckWord bs 8)
  let np := bits 22 16 (ckWord bs 8)
  let ns := bits 10 0 (ckWord bs 9)
  let p0 := signed 48 (leNat ((bs.drop 16).take 6))
  let d := ((List.range nr).map fun k => 32 + 4 * k).foldl (loadRing bs found) d
  let d := ((List.range np).map fun k => 32 + 4 * nr + 72 * k).foldl (loadPart bs) d
  let d := ((List.range ns).map fun k => 32 + 4 * nr + 72 * np + 16 * k).foldl (loadChan bs) d
  let d := (List.range 16).foldl (loadLine bs p0) d
  let own := (rget d oJnlNextSeq).toNat
  let far := (ckWord bs 6 + 65536) % 2 ^ 32
  if serialLater far own then fput oJnlNextSeq fJnlNextSeqSeq far d else d

/-- The outputs are driven again (steps 3 and 4 of R468). `found` gives what reading the completion rings forward found (R469). -/
def takeoverDone (found : List (Nat × Nat × Nat)) (d : Device) : Device :=
  if d.pair.stage = .loading then
    let bs := d.pair.applied
    let first := if bs = [] then posWord d else leNat ((bs.drop 16).take 6)
    let d := if bs = [] then d else loadCheckpoint bs found d
    let d := setRole roleActive (setStage .waitReady d)
    let d := raiseDev 0x8004 (peerSlot d) (rget d oPairGen).toNat (rget d oPairFrame).toNat d
    journal 0x0011 (leBytes 8 first ++ leBytes 8 (posWord d)) d
  else d

/-- A write of 1 to REJOIN: it reads 1 until it is acted on, which FENCE_IN delays; a device that is not fenced has nothing to leave
(R12, R470; log 83). -/
def rejoin (d : Device) : Device :=
  if role d = roleFenced then
    if d.pins.fenceIn then fput oPairCtrl fPairCtrlRejoin 1 d else becomeStandby (fput oPairCtrl fPairCtrlRejoin 0 d)
  else d

/-- FENCE_IN (R470): its release lets a REJOIN that has been written act. -/
def fenceIn (level : Bool) (d : Device) : Device :=
  let d := { d with pins := { d.pins with fenceIn := level } }
  if level then setRole roleFenced (letGo d) else if fbit d oPairCtrl fPairCtrlRejoin then rejoin d else d

/-- A write of 1 to SWITCHOVER: on the active it begins at once; elsewhere the bit stays set, and nothing begins (R12, R471; log 83). -/
def switchover (d : Device) : Device :=
  if role d = roleActive then becomeStandby (emit .pairRelease (captureCheckpoint (fput oPairCtrl fPairCtrlSwitchover 0 d)))
  else fput oPairCtrl fPairCtrlSwitchover 1 d

/-- RELEASE arrives: the standby takes over without detection and fencing (R471). -/
def release' (d : Device) : Device :=
  let d := pairHeard d
  if role d = roleStandby ∧ d.pair.stage = .none then driveClaim d else d

/-- STANDBY_READY arrives (R471). -/
def standbyReady (d : Device) : Device :=
  let d := pairHeard d
  if role d = roleActive then setStage .none { d with pins := { d.pins with fenceOut := false } } else d

/-- What the links to the peer have not had acknowledged takes the way that R459 leaves it. -/
def pairTraffic (d : Device) : Device :=
  if pairEn d then (domainLinks d (peerSlot d)).foldl (fun d l => divert l d) d else d

/-- A write of PAIR_CTRL (R461, R470, R471, R603, R604). -/
def pairCtrlWrite (v : Word) (claimed : Bool) (d : Device) : Device :=
  let w := v.toNat
  let was := pairEn d
  let d := if fbit d oLock fLockSafetyLock then fsat oLockedWrites fLockedWritesCount 1 d
    else
      let d := rputConfig 0xA000 oPairCtrl (BitVec.ofNat 32 (setBits 4 0 (bits 4 0 w) (rget d oPairCtrl).toNat)) d
      let d := pairTraffic (if bit 0 w && !was then joinPair claimed d else if !bit 0 w && was then leavePair d else d)
      flushLinks d
  let d := if bit 5 w then switchover d else d
  if bit 6 w then rejoin d else d

/-! ## Control processors (R456, R457) -/

/-- A control processor fails its watchdog; the die's spare takes over, or is lacking (R456, R457). -/
def processorFault (die proc : Nat) (d : Device) : Device :=
  let act := fget d (oCpStatus die) fCpStatusActive
  if bit proc act then
    let act := act - 2 ^ proc
    let d := fsat (oCpStatus die) fCpStatusFaults 1 d
    if fbit d (oCpStatus die) fCpStatusSpareUsed then fput (oCpStatus die) fCpStatusActive act d
    else
      journal 0x0014 (leBytes 4 die ++ leBytes 2 proc ++ leBytes 2 3)
        (fput (oCpStatus die) fCpStatusActive (act + 8) (fput (oCpStatus die) fCpStatusSpareUsed 1 d))
  else d

/-- No hub control processor has passed its watchdog for 50 µs (R457, R460). -/
def hubWatchdogLoss (d : Device) : Device := { d with pair := { d.pair with hubOk := false } }

/-! ## Meanings -/

/-- PAIR_ENABLE (R461). -/
def execPairEnable (v : Word) (claimed : Bool) (s : State) := run (.pairEnable v claimed) (pairCtrlWrite v claimed) s
/-- PAIR_HOLDOFF_EXPIRY (R461). -/
def execPairHoldoffExpiry (claimed : Bool) (s : State) := run (.pairHoldoffExpiry claimed) (holdoffExpiry claimed) s
/-- CLAIM (R461). -/
def execClaim (slot : Nat) (s : State) := run (.claim slot) (claim slot) s
/-- HEARTBEAT_TOGGLE (R460). -/
def execHeartbeatToggle (s : State) := run .heartbeatToggle heartbeatToggle s
/-- ALIVE (R460). -/
def execAlive (s : State) := run .alive alive s
/-- CHECKPOINT_CAPTURE (R462). -/
def execCheckpointCapture (s : State) := run .checkpointCapture checkpointCapture s
/-- CHECKPOINT_APPLY (R465). -/
def execCheckpointApply (slot : Nat) (ownAt : Int) (s : State) (c : Circ := {}) :=
  run (.checkpointApply slot ownAt c) (checkpointApply slot ownAt c) s
/-- HEARTBEAT_MISSING (R467). -/
def execHeartbeatMissing (s : State) := run .heartbeatMissing heartbeatMissing s
/-- PAIR_LINKS_SILENT (R467). -/
def execPairLinksSilent (s : State) := run .pairLinksSilent linksSilent s
/-- QUERY (R467). -/
def execQuery (s : State) := run .query query s
/-- QUERY_TIMEOUT (R467). -/
def execQueryTimeout (s : State) := run .queryTimeout queryTimeout s
/-- TAKEOVER (R468). -/
def execTakeover (s : State) := run .takeover takeover s
/-- TAKEOVER_CLAIM (R468). -/
def execTakeoverClaim (claimed : Bool) (s : State) := run (.takeoverClaim claimed) (takeoverClaim claimed) s
/-- TAKEOVER_DONE (R468). -/
def execTakeoverDone (found : List (Nat × Nat × Nat)) (s : State) := run (.takeoverDone found) (takeoverDone found) s
/-- ACT_CLAIM_RESAMPLE (R470). -/
def execActClaimResample (claimed : Bool) (s : State) := run (.actClaimResample claimed) (actClaimResample claimed) s
/-- FENCE_IN (R470). -/
def execFenceIn (level : Bool) (s : State) := run (.fenceIn level) (fenceIn level) s
/-- REJOIN (R470). -/
def execRejoin (s : State) := run .rejoin rejoin s
/-- SWITCHOVER (R471). -/
def execSwitchover (s : State) := run .switchover switchover s
/-- RELEASE (R471). -/
def execRelease (s : State) := run .release release' s
/-- STANDBY_READY (R471). -/
def execStandbyReady (s : State) := run .standbyReady standbyReady s
/-- PROCESSOR_FAULT (R456). -/
def execProcessorFault (die proc : Nat) (s : State) := run (.processorFault die proc) (processorFault die proc) s
/-- HUB_WATCHDOG_LOSS (R457). -/
def execHubWatchdogLoss (s : State) := run .hubWatchdogLoss hubWatchdogLoss s
/-- PAIR_HB_IN_EDGE (R467). -/
def execPairHbInEdge (level : Bool) (s : State) := run (.pairHbInEdge level) (hbInEdge level) s

end Sys2Proof.Machine
end

