-- ==== Sys2Proof/Machine/RegRead.lean ====
section
/-! DEFINITION. What a read of a register returns (R12, R51, R523, R525, R598 to R600). -/

namespace Sys2Proof.Machine

/-- The BAR0 offset of the physical function that an offset of a function's BAR0 reaches (R599). -/
def fnOffset (fn off : Nat) : Option Nat :=
  if fn = 0 then some off
  else if off < 0x1000 then some (0x40000 + 0x1000 * fn + off)
  else if off < 0x1200 then some (0x20000 + 0x200 * fn + (off - 0x1000))
  else none

/-- The low or the high word of a number of 64 bits. -/
def half (k n : Nat) : Word := BitVec.ofNat 32 (n / 2 ^ (32 * k))

/-- ILK_STATUS (R488, R490). -/
def ilkWord (i : Ilk) : Nat :=
  (match i.st with | .safe => 0 | .active => 1 | .disagree => 2 | .hold => 3 | .latched => 4) +
  b2n i.a * 8 + b2n i.b * 16 + b2n (decide (i.st = .latched)) * 32

/-- Bytes of a flash from an offset on (JNL_RWIN; log 44). -/
def flashRead (d : Device) : List Byte :=
  let a := fget d oJnlRaddr fJnlRaddrAddr
  let f := if fget d oJnlRaddr fJnlRaddrDev = 0 then d.jnl.flashA else d.jnl.flashB
  (List.range 4096).map fun k => if a + k < 0x8000000 then flashAt f (a + k) else Config.flashEnd (a + k)

/-- A word of JNL_RWIN. -/
def rwinWord (d : Device) (k : Nat) : Word := BitVec.ofNat 32 (leNat ((d.jnl.rwin.drop (4 * k)).take 4))

/-- ACLK cycles of an array's fixed counter, FCLK cycles of a unit's: the picture while FROZEN (R520, R525). -/
def arrCycles (d : Device) : Nat := if frozen d then d.frz.aclk else d.clk.aclk
def unitCycles (d : Device) (u : Nat) : Nat :=
  if u = 16 then (if frozen d then d.frz.hclk else d.clk.hclk) else if frozen d then d.frz.fclk else d.clk.fclk

/-- The live value of a register (R12, R597). -/
def liveWord (d : Device) (off : Nat) (f : RegFam) (is : List Nat) : Word :=
  match f.id with
  | .timeLo => half 0 d.clk.time
  | .timeHi => half 1 d.clk.time
  | .posLo => half 0 (posWord d)
  | .posHi => half 1 (posWord d)
  | .partCtrl => BitVec.ofNat 32 (setBits 1 1 (b2n (partBusy d (is.headD 0))) (rget d off).toNat)
  | .ilkStatus => BitVec.ofNat 32 (ilkWord d.ilk)
  | .jnlStatus => BitVec.ofNat 32 (setBits 12 4 d.jnl.queue.length (rget d off).toNat)
  | .pwrState => BitVec.ofNat 32 (setBits 2 0 (powerCode d.clk.power) (rget d off).toNat)
  | .jnlRwin => rwinWord d (is.headD 0)
  | .arrCycle => half (is.getD 1 0) (arrCycles d)
  | .unitCycle => half (is.getD 1 0) (unitCycles d (is.headD 0))
  | .trcMarkerHi => 0
  | _ => rget d off

/-- A register of an MSI-X table that its function does not have (R372, R598; log 9). -/
def msixAbsent (d : Device) (f : RegFam) (is : List Nat) : Bool :=
  match f.id with
  | .msixTable => decide (msixSize d 0 ≤ is.headD 0 / 4)
  | .vfMsixTable => decide (msixSize d 1 ≤ is.getD 1 0 / 4)
  | _ => false

/-- What a register shows: its live value, or for a captured counter the picture of a freeze (R525, R600). -/
def regView (d : Device) (off : Nat) : Word :=
  match regFind off with
  | none => 0
  | some (f, is) =>
    if msixAbsent d f is then 0
    else match f.id with
    | .arrCycle | .unitCycle => liveWord d off f is
    | _ => if frozen d && isCaptured off then tabGet (rst d off) off d.frz.picture else liveWord d off f is

/-- The high word that a read of this register captures (R51, R523): counters of more than 32 bits, TIME, POS, and a fault log
entry's time. -/
def highOf (off : Nat) : Option Nat :=
  match regFind off with
  | none => none
  | some (f, is) =>
    match f.id with
    | .timeLo | .posLo | .faultLog | .arrCnt | .unitCnt | .skippedOutputs => some (off + 4)
    | .arrCycle | .unitCycle | .busyMatrix | .busyVector | .busyXfer => if is.getLastD 0 = 0 then some (off + 4) else none
    | _ => none

/-- A read of a whole register: its value, and the device after the read (R523). -/
def readReg (off : Nat) (d : Device) : Word × Device :=
  let kept := tabGet 0 off d.frz.high
  if kept ≠ 0 then (BitVec.ofNat 32 (kept - 1), { d with frz := { d.frz with high := tabSet 0 off 0 d.frz.high } })
  else
    let v := regView d off
    match highOf off with
    | some h => (v, { d with frz := { d.frz with high := tabSet 0 h ((regView d h).toNat + 1) d.frz.high } })
    | none => (v, d)

/-- The register at an offset of a function's BAR0 read whole; 0 where the function reaches none (R599). -/
def readFn (fn off : Nat) (d : Device) : Word × Device :=
  match fnOffset fn off with
  | some o => readReg o d
  | none => (0, d)

/-- The registers at these offsets read one after another: their bytes in order (R600). -/
def readWords (fn : Nat) : List Nat → Device → List Byte × Device
  | [], d => ([], d)
  | w :: r, d =>
    let x := readFn fn w d
    let y := readWords fn r x.2
    (leBytes 4 x.1.toNat ++ y.1, y.2)

/-- The registers that a read touches, ascending. -/
def touched (off len : Nat) : List Nat := (List.range ((off + len - 1) / 4 - off / 4 + 1)).map fun k => (off / 4 + k) * 4

/-! ## Counter faces (R20, R21) -/

/-- COMPLETED_TILES as read: the picture while FROZEN (R525). -/
def tilesView (d : Device) : Tab Nat := if frozen d then d.frz.tiles else d.tiles

/-- A counter of an array's face. -/
def arrFace (d : Device) (k : FaceCtr) (a : Nat) : Nat :=
  match k with
  | .cycle => arrCycles d
  | .prog n => (regView d (oArrCnt a n)).toNat + 2 ^ 32 * (regView d (oArrCntHi a n)).toNat
  | .tiles => tabGet 0 a (tilesView d)

/-- A counter of the face of a band (0 to 11) or a die (12 on); these have 6 programmable counters. -/
def unitFace (d : Device) (k : FaceCtr) (u : Nat) : Nat :=
  match k with
  | .cycle => unitCycles d u
  | .prog n => if n < 6 then (regView d (oUnitCnt u n)).toNat + 2 ^ 32 * (regView d (oUnitCntHi u n)).toNat else 0
  | .tiles => tabGet 0 (192 + u) (tilesView d)

/-- A counter of a motif's face: an array's, a band's or a die's own, the sum over the arrays of a quad and over the dies of the
device (R20, R21). -/
def motifFace (d : Device) (k : FaceCtr) (m : Nat) : Nat :=
  let a := (motifArrays m).1
  match bits 15 13 m with
  | 0 => arrFace d k a
  | 1 => ((List.range 4).map fun j => arrFace d k (a + j)).sum
  | 2 => unitFace d k (bandOf a)
  | 3 => unitFace d k (12 + dieOf a)
  | _ => ((List.range 4).map fun j => unitFace d k (12 + j)).sum

/-- A read (R21, R371, R523, R599, R600): the registers of a function's BAR0; a wake page, which reads 0; a counter of a motif, for the
domain motif with the counters of the other devices (log 82). -/
def lowWordRead (r : ReadReq) (d : Device) : Device :=
  match r with
  | .reg fn off len =>
    let x := readWords fn (touched off len) d
    emit (.regData ((x.1.drop (off % 4)).take len)) x.2
  | .wake _ _ len => emit (.regData (List.replicate len 0)) d
  | .face m domain k others => emit (.count (motifFace d k m + (if domain then others.sum else 0))) d

/-! ## Meanings -/

/-- LOW_WORD_READ (R523). -/
def execLowWordRead (r : ReadReq) (s : State) := run (.lowWordRead r) (lowWordRead r) s

end Sys2Proof.Machine
end

