-- ==== Sys2Proof/Machine/Train.lean ====
section
/-! DEFINITION. Bringing links up, aligning TIME, and moving traffic back (R421 to R427, R437). -/

namespace Sys2Proof.Machine

/-- A link's own state before training. -/
def freshLink (l : Nat) (d : Device) : Device := setLink l { waiting := (linkOf d l).waiting } d

/-- A write of 1 to a link's ENABLE (R422, R423, R604). -/
def linkEnable (l : Nat) (d : Device) : Device :=
  if !fbit d oDeviceId fDeviceIdDomainSet then fput oHyCtrl fHyCtrlEnableErr 1 d
  else if fbit d (oLinkCtrl l) fLinkCtrlEnable then d
  else setState l lkTraining (freshLink l (fput (oLinkCtrl l) fLinkCtrlReset 0 (fputConfig 0x12000 (oLinkCtrl l) fLinkCtrlEnable 1 d)))

/-- A write of 0 to a link's ENABLE: its traffic goes elsewhere without a failure event (R437). -/
def linkDisable (l : Nat) (d : Device) : Device :=
  if fbit d (oLinkCtrl l) fLinkCtrlEnable then
    let up := decide (linkState d l = lkUp)
    let d := setState l lkDown (fputConfig 0x12000 (oLinkCtrl l) fLinkCtrlEnable 0 d)
    if up then reroute false l d else d
  else d

/-- A link reset by RESET (R437): while ENABLE is 0 there is nothing to retrain, and RESET reads 1 until retraining starts (R12). -/
def linkReset (l : Nat) (d : Device) : Device :=
  if fbit d (oLinkCtrl l) fLinkCtrlEnable then
    let up := decide (linkState d l = lkUp)
    let d := setState l lkTraining d
    freshLink l (if up then reroute false l d else d)
  else fput (oLinkCtrl l) fLinkCtrlReset 1 d

/-- Link training completes (R422). -/
def linkTrained (l : Nat) (d : Device) : Device :=
  if linkState d l = lkTraining then setState l lkAligning (fput (oLinkStatus l) fLinkStatusLaneOut 7 d) else d

/-- The far end's identity (R421, R422). -/
def ident (l dev link : Nat) (d : Device) : Device :=
  if linkState d l = lkAligning then
    let d := fput (oLinkStatus l) fLinkStatusPeerDev dev (fput (oLinkStatus l) fLinkStatusPeerLink link d)
    if farEnd d l = some (dev, link) then setLink l { linkOf d l with identOk := true } d else setState l lkMiscabled d
  else d

/-! ## TIME (R424 to R426) -/

/-- Delay and offset of one exchange, in quarters of a nanosecond (R425). -/
def exDelay (x : Int × Int × Int × Int) : Int := Int.tdiv ((x.2.2.2 - x.1) - (x.2.2.1 - x.2.1)) 2
def exOffset (x : Int × Int × Int × Int) : Int := Int.tdiv ((x.2.1 - x.1) - (x.2.2.2 - x.2.2.1)) 2

/-- The offset of the exchange whose delay is the least. -/
def bestOffset (xs : List (Int × Int × Int × Int)) : Int :=
  match xs with
  | [] => 0
  | x :: r => exOffset (r.foldl (fun b y => if exDelay y < exDelay b then y else b) x)

/-- TIME is offset from the master's by quarters of a nanosecond: the first alignment steps TIME, a later one slews (R426). -/
def alignTo (m hops : Nat) (offset : Int) (d : Device) : Device :=
  let d := fput oHyTime fHyTimeAligned 1 (fput oHyTime fHyTimeMaster m (fput oHyTime fHyTimeHops hops d))
  if d.align.stepped then { d with align := { d.align with slew := offset } }
  else
    let t : Int := (d.clk.time : Int) * 2 ^ 32 + d.clk.frac + offset * 2 ^ 30
    let n := t.toNat
    { d with clk := { d.clk with time := n / 2 ^ 32 % 2 ^ 64, frac := n % 2 ^ 32 }, align := { d.align with stepped := true } }

/-- The alignment that 16 exchanges on link l give; `beyond` is the offset from a far device that relays to the master. The master
itself has nothing to align to (R424; log 41). -/
def alignBy (l : Nat) (xs : List (Int × Int × Int × Int)) (beyond : Option Int) (d : Device) : Device :=
  if 30 ≤ l then d
  else
    let (n, d) := drawFree d
    match masterOf n d (some l), beyond with
    | some (m, 0), _ => fput oHyTime fHyTimeAligned 0 (fput oHyTime fHyTimeMaster m (fput oHyTime fHyTimeHops 0 d))
    | some (m, 1), _ => if l ∈ domainLinks d m then alignTo m 1 (bestOffset xs) d else d
    | some (m, _), some b => alignTo m 2 (bestOffset xs + b) d
    | _, _ => d

/-! ## UP -/

/-- Traffic that has no route, or that a link now UP serves better, is routed anew: over a spare link, or from a relay back to the
pair (R435, R437). -/
def routesAnew (d : Device) : Device :=
  (d.rem.routes.map (·.1)).foldl (fun d k =>
    let now := tabGet 49 k d.rem.routes
    let (n, _) := drawFree d
    let next := newRoute n d k
    if (now = 48 ∧ next ≠ 48) ∨ (now < 46 ∧ (next = 46 ∨ next = 47 ∨ (now ≠ sibling k ∧ next = sibling k))) then rerouteOne true k d else d) d

/-- A link reaches UP: traffic that was moved away comes back, with a journal record (R422, R437). -/
def goUp (l : Nat) (d : Device) : Device :=
  let d := setState l lkUp d
  let was := tabGet 49 l d.rem.routes
  let d := setRoute l 49 d
  let d := if was < 48 then journal 0x0013 (leBytes 4 was ++ leBytes 4 l) d else d
  flushLinks (routesAnew d)

/-- The 16 TIME exchanges of a link: with them a link under alignment comes UP (R422, R425, R426). -/
def timeExchange (l : Nat) (xs : List (Int × Int × Int × Int)) (beyond : Option Int) (d : Device) : Device :=
  if linkState d l = lkAligning then
    if (linkOf d l).identOk then goUp l (alignBy l xs beyond d) else d
  else if linkState d l = lkUp then alignBy l xs beyond d
  else d

/-- A failed link returns to UP (R437). -/
def linkRestored (l : Nat) (d : Device) : Device :=
  if linkState d l = lkFailed ∧ fbit d (oLinkCtrl l) fLinkCtrlEnable then goUp l d else d

/-! ## Meanings -/

/-- LINK_ENABLE (R422). -/
def execLinkEnable (l : Nat) (s : State) := run (.linkEnable l) (linkEnable l) s
/-- LINK_TRAINED (R422). -/
def execLinkTrained (l : Nat) (s : State) := run (.linkTrained l) (linkTrained l) s
/-- IDENT (R421). -/
def execIdent (l dev link : Nat) (s : State) := run (.ident l dev link) (ident l dev link) s
/-- TIME_EXCHANGE (R425). -/
def execTimeExchange (l : Nat) (stamps : List (Int × Int × Int × Int)) (beyond : Option Int) (s : State) :=
  run (.timeExchange l stamps beyond) (timeExchange l stamps beyond) s
/-- LINK_RESET (R437). -/
def execLinkReset (l : Nat) (s : State) := run (.linkReset l) (linkReset l) s
/-- LINK_RESTORED (R437). -/
def execLinkRestored (l : Nat) (s : State) := run (.linkRestored l) (linkRestored l) s

end Sys2Proof.Machine
end

