-- ==== Sys2Proof/Machine/Start.lean ====
section
/-! DEFINITION. How a dispatched command starts (R18, R145, R276, R307 to R311, R328, R331, R415, R542), and how an abort takes
effect (R87, R337, R338, R366, R387, R450). -/

namespace Sys2Proof.Machine

/-! ## The conditions of a start -/

/-- Two motifs share an array. -/
def motifsMeet (m n : Nat) : Bool :=
  let x := motifArrays m
  let y := motifArrays n
  decide (x.1 < y.1 + y.2) && decide (y.1 < x.1 + x.2)

/-- A command that uses arrays: MATMUL, ACC_SAVE, ACC_LOAD. -/
def usesArrays (c : Cmd) : Bool := decide (0x10 ≤ opOf c) && decide (opOf c ≤ 0x12)

/-- A command that uses vector engines. -/
def usesVector (c : Cmd) : Bool := decide (0x20 ≤ opOf c) && decide (opOf c ≤ 0x3F)

/-- The bands whose vector engines a command uses (R18). -/
def bandsOf (c : Cmd) : List Nat := distinct ((motifList (targetOf c)).map bandOf)

/-- The order of a command's queue and engine lets it start (R18, R271, R307, R309, R310): a WAIT_TALLY holds every later command of
its queue. -/
def engineReady (d : Device) (c : Cmd) : Bool :=
  let es := before d c
  match queueOf c with
  | some .matrix =>
    !es.any (sameQueue c) &&
    !(usesArrays c && es.any fun x => decide (x.part = c.part) && usesArrays x && motifOk (targetOf x) && motifsMeet (targetOf x) (targetOf c))
  | some .vector =>
    !es.any (sameQueue c) &&
    !(usesVector c && d.cmds.any fun x => decide (x.phase = .running) && usesVector x && (bandsOf x).any (bandsOf c).contains)
  | some .transfer =>
    let qs := es.filter (sameQueue c)
    qs.all (fun x => decide (x.phase ≠ .queued) && !(decide (opOf x = 0x01) && decide (x.phase ≠ .ended))) && decide (qs.length < 8)
  | none => false

/-- The HBM class of a command that names one: COPY, CHAIN_REDUCE, BROADCAST (R323, R443). -/
def classOf (c : Cmd) : Option Nat :=
  if opOf c = 0x40 then some (tClass c) else if opOf c = 0x48 ∨ opOf c = 0x49 then some (cClass c) else none

/-- FT_SLOTS leaves a FIXED_TIME COPY a place among the running FIXED_TIME commands of its class (R415). -/
def slotFree (d : Device) (c : Cmd) : Bool :=
  !(fixedTime c && decide (opOf c = 0x40)) ||
  decide ((d.cmds.filter fun x => decide (x.phase = .running) && fixedTime x && decide (classOf x = some (tClass c))).length <
    ftSlots d (tClass c))

/-- The order-event wait is met (R328). -/
def eventMet (d : Device) (c : Cmd) : Bool :=
  !waitEnOf c || c.member.isSome || serialGe (rget d (oEvent c.part (waitEvOf c))).toNat (wordAt c.words 4)

/-- ERR of the order event waited on is set (R328). -/
def eventFailed (d : Device) (c : Cmd) : Bool :=
  waitEnOf c && c.member.isNone && bit (waitEvOf c % 32) (rget d (oEventErr c.part (waitEvOf c / 32))).toNat

/-- The fence is met (R311). -/
def fenceMet (d : Device) (c : Cmd) : Bool := !fenceOf c || c.member.isSome || !(before d c).any fun x => decide (x.part = c.part)

/-- The store that a MATMUL's pricking lies in is held (R254, R453). -/
def prickHeld (d : Device) (c : Cmd) : Bool := decide (opOf c = 0x10) && c.member.isNone && heldRange d (mPrick c) 128

/-- The conditions of a start but the turn among a band's queues. An array of no enabled partition answers no command (R41). -/
def startable (d : Device) (c : Cmd) : Bool :=
  partEn d c.part && engineReady d c && slotFree d c && eventMet d c && fenceMet d c && !prickHeld d c

/-- A vector queue's place in the round: 0 for one not served yet, then by the time since it was served, longest first (R18). -/
def queueTurn (d : Device) (c : Cmd) : Nat :=
  let k := (c.part, targetOf c)
  if d.served.contains k then d.served.findIdx (fun x => decide (x = k)) + 1 else 0

/-- No other queue of a band that the command uses has a command to start and has waited longer (R18). -/
def vectorTurn (d : Device) (c : Cmd) : Bool :=
  !usesVector c || !d.cmds.any fun x => decide (x.phase = .queued) && usesVector x && !sameQueue x c && (bandsOf x).any (bandsOf c).contains &&
    decide (queueTurn d x < queueTurn d c) && !eventFailed d x && startable d x

/-- Every condition of a start. -/
def canStart (d : Device) (c : Cmd) : Bool := startable d c && vectorTurn d c

/-- A vector queue has been served (R18). -/
def serveQueue (c : Cmd) (d : Device) : Device :=
  if usesVector c then
    { d with served := d.served.filter (fun x => decide (x ≠ (c.part, targetOf c))) ++ [(c.part, targetOf c)] }
  else d

/-! ## The start -/

/-- The pricking's 128 bytes lie wholly in HBM or in one of the partition's stores (R276). -/
def prickPlace (d : Device) (p l : Nat) : Bool :=
  if isHbm l then isHbm (l + 127)
  else match scratchAt l with
    | some (s, k, off) => decide (off + 128 ≤ storeSize s) && ownStore d p s k
    | none => false

/-- The pricking is read, once (R276). A command that its own fields refuse reads none, nor does a member's part of one. -/
def readPrick (c : Cmd) (d : Device) : Device :=
  let l := mPrick c
  if matmulBad c || c.member.isSome then d
  else if prickPlace d c.part l then
    let d := hbmRead l 128 (some c.part) d
    match readFail d l 128 with
    | some (st, d) => setCmd { c with prickErr := st } d
    | none => setCmd { c with prick := leWords (bytesAt d l 128) } d
  else setCmd { c with prickErr := stPermission } d

/-- The command as it stands once it has started: what is fixed at the start (R47, R141, R209, R331, R438, R574). -/
def startedCmd (d : Device) (x : Circ) (c : Cmd) : Cmd :=
  let c := { c with
    phase := .running
    startAt := d.clk.time
    div := fget d oAclkCtrl fAclkCtrlDiv
    thresh := if opOf c = 0x40 then fget d (oNarrowCfg c.part) fNarrowCfgScNum else fget d (oSpThresh (mPa c - 1)) fSpThreshThresh }
  { c with
    policy := match chanOf c with | some ch => fget d (oScCtrl ch) fScCtrlPolicy | none => 0
    scNo := match chanOf c with | some ch => scRefused d c.part ch | none => false
    fmt := fget d (oNarrowCfg c.part) fNarrowCfgFmt
    unlike := domainOf c && (members d c.part).any x.unlike.contains }

/-- COMPLETED_TILES of the arrays, bands and dies that a command of their own starts on begin again, whatever its share on them
(R37; log 81). -/
def tilesAgain (c : Cmd) (d : Device) : Device :=
  let as := if usesArrays c then motifList (targetOf c) else []
  { d with tiles := d.tiles.filter fun e =>
      !(as.contains e.1 || (decide (192 ≤ e.1) && decide (e.1 < 204) && as.any fun a => decide (e.1 = 192 + bandOf a)) ||
        (decide (204 ≤ e.1) && as.any fun a => decide (e.1 = 204 + dieOf a))) }

/-- What a command's start does by its opcode: a MATMUL reads its pricking, a collective sends its descriptors (R444), a vector
opcode without an operation ends with MALFORMED (R346). -/
def startWork (c : Cmd) (d : Device) : Device :=
  if opOf c = 0x10 then matchWatches c.id (readPrick c d)
  else if isVec c then matchWatches c.id d
  else if usesVector c then endCmd c (refusedWith stMalformed) d
  else if isColl (opOf c) && (collCheck d c).isNone then sendDescs c d
  else d

/-- A dispatched command starts, or completes as ABORTED because the order event that it waits on has failed (R309 to R311, R328). -/
def commandStart (id : Nat) (x : Circ) (d : Device) : Device :=
  match cmdOf d id with
  | none => d
  | some c =>
    if c.phase ≠ .queued then d
    else if eventFailed d c then setCmd { c with phase := .ended, done := refusedWith stAborted } d
    else if canStart d c then
      let d := applyCirc c.part x d
      let c := startedCmd d x c
      startWork c (tilesAgain c (serveQueue c (setCmd c d)))
    else d

/-! ## An abort takes effect -/

/-- The runs of a remote COPY are reads: its source is another device. -/
def readsRemote (d : Device) (c : Cmd) : Bool := (tSrcDev d c).isSome

/-- A COPY whose runs are awaited is aborted: runs that have been sent, or passed on to another device, are left to become visible, the
others are not made (R312, R326, R338). -/
def abortRuns (c : Cmd) (d : Device) : Device :=
  if !readsRemote d c then d
  else
    let k := if (tDstDev d c).isSome then c.passed else c.runs.foldl min (c.runs.headD 0)
    if c.runs.all (fun r => decide (r < k)) then d
    else copyLeft c.id (c.runs.filter fun r => decide (r < k)) { status := stAborted, tilePos := k } d

/-- What an abort does to one command; `k` is the run, row or chunk at which it stops (R271, R326, R338, R366, R450). The other members
of a domain command that this device sequences stop too (R48). -/
def abortCmd (k : Nat) (c : Cmd) (d : Device) : Device :=
  match c.phase with
  | .ended => d
  | .queued => setCmd { c with phase := .ended, done := refusedWith stAborted } d
  | .running =>
    if opOf c ≤ 0x01 then
      endCmd c (((if opOf c = 0x00 then nopCheck d c else waitCheck d c)).getD (refusedWith stAborted)) d
    else if c.stop.isSome then d
    else if opOf c = 0x40 ∧ c.runs ≠ [] then abortRuns c d
    else stopOthers c (setCmd { c with stop := some { status := stAborted, tilePos := if usesArrays c then 0 else k } } d)

/-- The rest of a list that is being read: its commands complete as ABORTED without running (R387); those that have no queue with
MALFORMED (R611). -/
def abortList (p q : Nat) : Nat → Device → Device
  | 0, d => d
  | fuel + 1, d =>
    match (ringOf (partOf d p) q).reading with
    | none => d
    | some l =>
      match nextCommand (sqLegacy d p q) (rget d (oSqCtrl p q)).toNat l with
      | none => if l.broken then entryFails p q stMemory l.seq d else d
      | some (ws, bad, rest) =>
        let c := listCmd d p q l ws bad
        match queueOf c with
        | none => abortList p q fuel (completionWrite c.id (listAfter p q (seqOf c) l rest (addCmd (fetchMalformed c) d)))
        | some _ => abortList p q fuel
            (listAfter p q (seqOf c) l rest (addCmd { c with phase := .ended, done := refusedWith stAborted } d))

/-- A ring's list in progress, whole. -/
def abortRing (p : Nat) (d : Device) (q : Nat) : Device :=
  match (ringOf (partOf d p) q).reading with
  | some l => abortList p q (l.words.length + 1) d
  | none => d

/-- One entry that the fetcher reads on the way to the tail (R387): `x` is its ring, its words, and its list's words. -/
def abortEntryOf (p : Nat) (d : Device) (x : Nat × List Word × List Word) : Device :=
  let q := x.1
  abortRing p (entryTake p q x.2.1 x.2.2 (x.2.2.length / 16) {} d) q

/-- An abort takes effect (R338, R387). `progress` says, by command, where a command in progress stops; `lists` are the entries up
to the tails. -/
def abortTakesEffect (p : Nat) (progress : List (Nat × Nat)) (lists : List (Nat × List Word × List Word)) (x : Circ) (d : Device) :
    Device :=
  match (partOf d p).abort with
  | .requested sq slot =>
    let d := applyCirc p x d
    let d := (d.cmds.filter fun c => decide (c.part = p)).foldl (fun d c => abortCmd (tabGet 0 c.id progress) c d) d
    let d := lists.foldl (abortEntryOf p) ((List.range 16).foldl (abortRing p) d)
    setPart p { partOf d p with abort := .effective sq slot } d
  | _ => d

/-! ## Meanings -/

/-- COMMAND_START (R309). -/
def execCommandStart (id : Nat) (s : State) (c : Circ := {}) := run (.commandStart id c) (commandStart id c) s
/-- ABORT_TAKES_EFFECT (R338). -/
def execAbortTakesEffect (part : Nat) (progress : List (Nat × Nat)) (lists : List (Nat × List Word × List Word))
    (s : State) (c : Circ := {}) :=
  run (.abortTakesEffect part progress lists c) (abortTakesEffect part progress lists c) s

end Sys2Proof.Machine
end

