-- ==== Sys2Proof/Machine/Warm.lean ====
section
/-! DEFINITION. Warm reset (R487, R565, R566, R568). -/

namespace Sys2Proof.Machine

/-- What a running command would write from here on, as far as it writes by itself. -/
def finishCmd (c : Cmd) (d : Device) : Device :=
  if opOf c = 0x10 then matmul c.id {} d
  else if opOf c = 0x11 then accSave c.id {} d
  else if isVec c then vecWork (opOf c) c.id {} d
  else if opOf c = 0x40 then copy c.id {} d
  else d

/-- The first place of the unit, or HBM block, in which a byte of memory lies (R252, R566). -/
def unitStart (k : Nat) : Nat :=
  match scratchAt k with
  | some (s, _, off) => k - off % storeUnit s
  | none => k - k % 32

/-- Places at which two memories differ. -/
def memDiff (x y : List Host.Cell) : List Nat :=
  ((x ++ y).map (·.1)).filter fun k => decide (tabGet (0 : Byte) k x ≠ tabGet 0 k y)

/-- The commands that run stop where they are: each unit that they were to write holds what it held, or what they write there. The
manual does not say which (R566; log 12). -/
def stopAll (d : Device) : Device :=
  let m := ((d.cmds.filter fun c => decide (c.phase = .running)).foldl (fun d c => finishCmd c d) d).mem
  let ks := memDiff d.mem m
  let n := d.free
  let d := ks.foldl (fun d k => if Config.warmKeepsNew (n + unitStart k) then memSet k (tabGet 0 k m) d else d) d
  { d with free := n + 2 ^ 44 }

/-- Pulses that are due while the TRIG outputs are held low are dropped (R487). -/
def dropPulses (d : Device) : Device :=
  (List.range 16).foldl (fun d n =>
    let t := trigOf d n
    let p := match t.pulse with | .pending .. => 1 | _ => 0
    fsat (oTrigDrop n) fTrigDropDropped (p + b2n t.held.isSome) d) d

/-- PERST_N falls, or 1 is written to WARM (R565, R566, R568). -/
def warmReset (pin : Bool) (d : Device) : Device :=
  let d := if pin then { d with pins := { d.pins with perstN := false }, pcie := { d.pcie with held := true } } else d
  let cause := if pin then 1 else 2
  match d.clk.power with
  | .run | .idle | .standby => warmCore cause (dropPulses (stopAll d))
  | .awaitImage => { d with clk := { d.clk with warmWanted := true } }
  | .noImage => if pin then d else warmCore cause (dropPulses d)
  | _ => d

/-! ## Meanings -/

/-- WARM_RESET (R566). -/
def execWarmReset (pin : Bool) (s : State) := run (.warmReset pin) (warmReset pin) s

end Sys2Proof.Machine
end

