-- ==== Sys2Proof/Machine/RegWrite.lean ====
section
/-! DEFINITION. Writes of registers: access codes, values that a field does not take, locks, the journal, and the effects that
the owning chapters give a write (R12, R599 to R604). -/

namespace Sys2Proof.Machine

/-! ## Values and locks -/

/-- EVENT values that R521 lists. -/
def eventListed (v : Nat) : Bool :=
  decide (v ≤ 0x0C) || (decide (0x10 ≤ v) && decide (v ≤ 0x12)) || (decide (0x18 ≤ v) && decide (v ≤ 0x1A)) ||
  (decide (0x20 ≤ v) && decide (v ≤ 0x28))

/-- v where it lies from lo to hi, else dflt. -/
def inOr (lo hi dflt v : Nat) : Nat := if lo ≤ v ∧ v ≤ hi then v else dflt

/-- What an RW field holds after v is written to it, from the field's own row of the manual. -/
def fieldTakes (d : Device) (rid : RegId) (x : Fld) (old v : Nat) : Nat :=
  match rid with
  | .aclkCtrl => if v = 4 ∨ v = 5 ∨ v = 6 ∨ v = 8 then v else old
  | .pwrCap => max 300 (min 900 v)
  | .thermCfg => min v (fget d oThermCfg fThermCfgTripC - 10)
  | .pwrState => max 1 v
  | .posCtrl => if x = fPosCtrlFilt then max 1 v else if x = fPosCtrlLeadMode ∧ v = 3 then old else v
  | .wakeCfg => if x = fWakeCfgWakeEdges then max 1 v else v
  | .trigRecBaseHi => if x = fTrigRecBaseHiLog2 then inOr 8 20 8 v else v
  | .ilkCfg => max 1000 (min 500000 v)
  | .trigPitch => max 1 v
  | .trigTime => if x = fTrigTimeWidth then max 1 v else v
  | .hbmCtrl => if x = fHbmCtrlScrubPeriod ∨ x = fHbmCtrlRetireThresh then max 1 v else v
  | .hyTimeout => max 1 v
  | .narrowCfg => if x = fNarrowCfgFmt ∧ v = 3 then old else v
  | .poll => max 25 v
  | .vfVectors => max 1 (min 32 v)
  | .smpCtrl => if x = fSmpCtrlSmpLog2 then min 24 v else if x = fSmpCtrlSmpRlog2 then inOr 8 20 12 v else v
  | .dumpCtrl => if x = fDumpCtrlDumpLog2 then inOr 16 30 24 v else v
  | .watchCtl => if x = fWatchCtlStepMode ∧ v = 3 then old else v
  | .arrCtl => if x = fArrCtlEvent then (if eventListed v then v else old) else v
  | .unitCtl => if x = fUnitCtlEvent then (if eventListed v then v else old) else v
  | _ => v

/-- Fields that SAFETY_LOCK locks (R603); PAIR_CTRL has its own operation. -/
def safetyField (rid : RegId) (x : Fld) : Bool :=
  match rid with
  | .ilkCfg | .speedGate | .wakeCfg | .pwrCap => true
  | .thermCfg => decide (x = fThermCfgThrottleC)
  | .illumCtrl => decide (x = fIllumCtrlGate)
  | _ => false

def safetyLock (d : Device) : Bool := fbit d oLock fLockSafetyLock

/-- A field is locked under a condition of its owning chapter, or by SAFETY_LOCK: a write leaves it. -/
def fieldLocked (d : Device) (rid : RegId) (is : List Nat) (x : Fld) (old : Nat) : Bool :=
  let p := is.headD 0
  let r := is.getD 1 0
  (safetyLock d && safetyField rid x) ||
  (match rid with
   | .timeTrim => fbit d oHyTime fHyTimeAligned
   | .arrayMask | .engCtrl => partEn d p
   | .bandOwner | .bandOwnerHi | .bandOwnerTop => partEn d old
   | .trigNextLo | .trigNextHi | .trigLine => fbit d (oTrigCfg p) fTrigCfgEn
   | .vfVectors => d.pcie.vfEnable
   | .eqBaseLo | .eqBaseHi => fbit d (oEqCtrl p) fEqCtrlEnable
   | .sqBaseLo | .sqBaseHi => fbit d (oSqCtrl p r) fSqCtrlEnable
   | .cqBaseLo | .cqBaseHi => fbit d (oCqCtrl p r) fCqCtrlEnable
   | .sqCtrl => fbit d (oSqCtrl p r) fSqCtrlEnable &&
       (decide (x = fSqCtrlLog2size) || decide (x = fSqCtrlCq) || decide (x = fSqCtrlLegacy7))
   | .cqCtrl => fbit d (oCqCtrl p r) fCqCtrlEnable && decide (x = fCqCtrlLog2size)
   | _ => false)

/-- LEAD after a write of POS_CTRL: it follows LEAD_MODE ENC0 and ENC1. -/
def leadNext (mode old : Nat) : Nat := match mode with | 0 => 0 | 1 => 1 | _ => old

/-- A field after a write of its register (R12). -/
def fieldAfter (d : Device) (rid : RegId) (is : List Nat) (x : FldDef) (old w : Nat) : Nat :=
  let v := bits x.fld.hi x.fld.lo w
  match x.acc with
  | .ro => if rid = .posCtrl ∧ x.fld = fPosCtrlLead then leadNext (bits 9 8 w) old else old
  | .rw | .rws => if fieldLocked d rid is x.fld old then old else fieldTakes d rid x.fld old v
  | .w1c => old - (old &&& v)
  | .w1s => old ||| v
  | .wo | .rwo => v

/-- A register after a write of w (R12). -/
def wordAfter (d : Device) (f : RegFam) (is : List Nat) (old w : Nat) : Nat :=
  f.flds.foldl (fun acc x => setBits x.fld.hi x.fld.lo (fieldAfter d f.id is x (bits x.fld.hi x.fld.lo old) w) acc) 0

/-! ## Plain writes and the journal -/

/-- The base of the block, where writes that change the register's RW fields are journalled (R604). -/
def journalBase (f : RegFam) : Option Nat :=
  match f.id with
  | .arrayMask | .bandOwner | .bandOwnerHi | .bandOwnerTop => some 0x8000
  | .pwrCap | .thermCfg | .aclkCtrl => some 0x1000
  | .spareCfg => some 0x12000
  | .lock => some 0
  | _ => if 0x2000 ≤ f.base ∧ f.base < 0x3000 then some 0x2000 else none

/-- The RW fields of a register's value. -/
def rwPart (f : RegFam) (w : Nat) : Nat :=
  f.flds.foldl (fun acc x => match x.acc with
    | .rw | .rws | .rwo => setBits x.fld.hi x.fld.lo (bits x.fld.hi x.fld.lo w) acc
    | _ => acc) 0

/-- A write by the access codes, with its CONFIG record, and LOCKED_WRITES for a write to a field under SAFETY_LOCK (R12, R603,
R604). -/
def plainWrite (off : Nat) (f : RegFam) (is : List Nat) (v : Word) (d : Device) : Device :=
  let old := rget d off
  let new := BitVec.ofNat 32 (wordAfter d f is old.toNat v.toNat)
  let d := if safetyLock d && f.flds.any (fun x => safetyField f.id x.fld) then fsat oLockedWrites fLockedWritesCount 1 d else d
  let d := rput off new d
  match journalBase f with
  | some b => if rwPart f old.toNat = rwPart f new.toNat then d else journalConfig b (off - b) old new d
  | none => d

/-! ## Registers whose writes do more -/

/-- LOCK is writable once after power-on reset (R12). -/
def lockWrite (f : RegFam) (v : Word) (d : Device) : Device :=
  if d.lockWritten then d else plainWrite oLock f [] v { d with lockWritten := true }

/-- ACLK_CTRL: the division never stays faster than DIV_FLOOR (R558). -/
def aclkWrite (f : RegFam) (v : Word) (d : Device) : Device :=
  let d := plainWrite oAclkCtrl f [] v d
  if divNow d < divFloor d then wantDiv (divFloor d) d else d

/-- PWR_STATE: REQ 0 RUN, 2 STANDBY, 3 SLEEP (R561 to R563). -/
def pwrWrite (f : RegFam) (v : Word) (d : Device) : Device :=
  let d := fput oPwrState fPwrStateReq 0 (plainWrite oPwrState f [] v d)
  match bits 5 3 v.toNat with
  | 0 => reqRun d
  | 2 => reqStandby d
  | 3 => reqSleep d
  | _ => d

/-- PART_CTRL (R43 to R45, R604). -/
def partCtrlWrite (p : Nat) (v : Word) (d : Device) : Device :=
  let w := v.toNat
  let off := oPartCtrl p
  let old := rget d off
  let d := if bit 2 w then fput off fPartCtrlOverlapErr 0 d else d
  let d := if partEn d p then d else fput off fPartCtrlDomainMembers (bits 31 16 w) d
  let members := fget d off fPartCtrlDomainMembers
  let d := if bit 0 w then partitionEnableFrom p old d else partitionDisable p d
  if bits 31 16 old.toNat ≠ members ∧ !partEn d p then journalConfig 0x8000 (off - 0x8000) old (rget d off) d else d

/-- PART_RESET: each bit resets a partition (R565). -/
def partResetWrite (k : Nat) (v : Word) (d : Device) : Device :=
  (List.range 32).foldl (fun d b => if bit b v.toNat then partReset (32 * k + b) d else d) d

/-- LINK_CTRL (R422, R437). -/
def linkCtrlWrite (l : Nat) (v : Word) (d : Device) : Device :=
  let d := if bit 0 v.toNat then linkEnable l d else linkDisable l d
  if bit 1 v.toNat then linkReset l d else d

/-- SQ_CTRL: enabling restarts the ring (R377), disabling waits for the announced entries. -/
def sqCtrlWrite (p q : Nat) (f : RegFam) (v : Word) (d : Device) : Device :=
  let off := oSqCtrl p q
  let was := sqEn d p q
  let d := fput off fSqCtrlEnable (b2n was) (plainWrite off f [p, q] v d)
  let r := ringOf (partOf d p) q
  if bit 0 v.toNat then
    if was then setPart p (setRing q { r with disabling := false } (partOf d p)) d
    else if fget d off fSqCtrlLog2size = 0 then d
    else
      let d := fput (oSqState p q) fSqStateHead 0 (fput (oSqState p q) fSqStateExpGen 1 d)
      fput off fSqCtrlEnable 1 (setPart p (setRing q {} (partOf d p)) d)
  else if was then
    if r.announced = 0 ∧ r.reading = none then fput off fSqCtrlEnable 0 d
    else setPart p (setRing q { r with disabling := true } (partOf d p)) d
  else d

/-- CQ_CTRL: enabling starts the ring's first pass; held records are then written (R383, R384). -/
def cqCtrlWrite (p q : Nat) (f : RegFam) (v : Word) (d : Device) : Device :=
  let off := oCqCtrl p q
  let was := cqEn d p q
  let d := fput off fCqCtrlEnable 0 (plainWrite off f [p, q] v d)
  if bit 0 v.toNat ∧ fget d off fCqCtrlLog2size ≠ 0 then
    let d := fput off fCqCtrlEnable 1 d
    if was then d else cqFlush p (setPart p (setCq q {} (partOf d p)) d)
  else d

/-- EQ_CTRL: enabling starts the ring's first pass; held events are then written (R389, R391). -/
def eqCtrlWrite (p : Nat) (f : RegFam) (v : Word) (d : Device) : Device :=
  let was := fbit d (oEqCtrl p) fEqCtrlEnable
  let d := plainWrite (oEqCtrl p) f [p] v d
  if bit 0 v.toNat && !was then evFlush 256 p (setPart p { partOf d p with evWritten := 0, evConsumed := 0 } d) else d

/-- OBS_CTRL (R524, R527). -/
def obsWrite (f : RegFam) (v : Word) (d : Device) : Device :=
  let d := fput oObsCtrl fObsCtrlFreeze 0 (fput oObsCtrl fObsCtrlRelease 0 (plainWrite oObsCtrl f [] v d))
  let d := if bit 0 v.toNat then freeze d else d
  if bit 1 v.toNat then releaseFreeze d else d

/-- A word of an MSI-X table: a vector that is unmasked while it is pending sends its message (R598; log 9). -/
def msixWrite (fn off k : Nat) (f : RegFam) (is : List Nat) (v : Word) (d : Device) : Device :=
  let d := plainWrite off f is v d
  let pba := msixPba fn (k / 4)
  if k % 4 = 3 ∧ !bit 0 v.toNat ∧ bit (k / 4 % 32) (rget d pba).toNat then
    emit (.msix fn (k / 4)) (rput pba (rget d pba &&& ~~~ BitVec.ofNat 32 (2 ^ (k / 4 % 32))) d)
  else d

/-- ACT_CLAIM is the board's when PAIR_CTRL is written (log 42). -/
def pairWrite (v : Word) (d : Device) : Device :=
  let (n, d) := drawFree d
  pairCtrlWrite v (Config.claimLine n) d

/-- A write of a whole register (R12, R600). While FROZEN is 1, captured counters take no write (R525). -/
def writeReg (off : Nat) (v : Word) (d : Device) : Device :=
  match regFind off with
  | none => d
  | some (f, is) =>
    if (frozen d && isCaptured off) || msixAbsent d f is then d
    else
      let i := is.headD 0
      let j := is.getD 1 0
      match f.id with
      | .lock => lockWrite f v d
      | .aclkCtrl => aclkWrite f v d
      | .pwrState => pwrWrite f v d
      | .resetCtrl => if bit 0 v.toNat then warmReset false d else d
      | .partReset => partResetWrite i v d
      | .bootCtrl => bootGo v {} d
      | .illumCtrl => outputs (plainWrite off f is v d)
      | .ilkStatus => if bit 5 v.toNat then latchClear d else d
      | .jnlPost => journalPost v d
      | .jnlRaddr =>
        let d := plainWrite off f is v d
        { d with jnl := { d.jnl with rwin := flashRead d } }
      | .deviceId => domainWrite v d
      | .partCtrl => partCtrlWrite i v d
      | .pairCtrl => pairWrite v d
      | .hbmClass => hbmClassWrite i v d
      | .hbmRegion => hbmRegionWrite i v d
      | .linkCtrl => linkCtrlWrite i v d
      | .scCtrl => scEnable i v d
      | .sqCtrl => sqCtrlWrite i j f v d
      | .cqCtrl => cqCtrlWrite i j f v d
      | .eqCtrl => eqCtrlWrite i f v d
      | .obsCtrl => obsWrite f v d
      | .smpSeed => smpSeedWrite v d
      | .trcMarkerLo => marker v d
      | .dumpRd => dumpRdWrite v d
      | .msixTable => msixWrite 0 off i f is v d
      | .vfMsixTable => msixWrite (i + 1) off j f is v d
      | _ => plainWrite off f is v d

/-! ## Requests -/

/-- The word that a write's bytes hold at an offset, when its byte enables cover all 4 (R600). -/
def coveredWord (off : Nat) (bs : List (Option Byte)) (w : Nat) : Option Word :=
  if off ≤ w then
    match bs[w - off]?, bs[w - off + 1]?, bs[w - off + 2]?, bs[w - off + 3]? with
    | some (some a), some (some b), some (some c), some (some e) => some (BitVec.ofNat 32 (leNat [a, b, c, e]))
    | _, _, _, _ => none
  else none

/-- One register of a write request. -/
def writeCovered (fn off : Nat) (bs : List (Option Byte)) (d : Device) (w : Nat) : Device :=
  match coveredWord off bs w, fnOffset fn w with
  | some v, some o => writeReg o v d
  | _, _ => d

/-- A write of up to 8 bytes from an offset of a function's BAR0 on (R599, R600). Registers answer while the main dies run. -/
def registerWrite (fn off : Nat) (bs : List (Option Byte)) (d : Device) : Device :=
  if mainUp d then
    let w := (off + 3) / 4 * 4
    writeCovered fn off bs (writeCovered fn off bs d w) (w + 4)
  else d

/-! ## Meanings -/

/-- REGISTER_WRITE (R600). -/
def execRegisterWrite (fn off : Nat) (bytes : List (Option Byte)) (s : State) :=
  run (.registerWrite fn off bytes) (registerWrite fn off bytes) s

end Sys2Proof.Machine
end

