-- ==== Sys2Proof/Machine/Dispatch.lean ====
section
/-! DEFINITION. One arm for each command of the block, each one call of its meaning. -/

namespace Sys2Proof.Machine

/-- What a command does to everything but the queue. -/
def exec (i : Instr) (s : State) : Host.Outcome State Fault Refusal :=
  match i with
  | .nop id c => Sys2Proof.Machine.execNop id c s
  | .waitTally id c => Sys2Proof.Machine.execWaitTally id c s
  | .matmul id c => Sys2Proof.Machine.execMatmul id c s
  | .accSave id c => Sys2Proof.Machine.execAccSave id c s
  | .accLoad id c => Sys2Proof.Machine.execAccLoad id c s
  | .ew2 id c => Sys2Proof.Machine.execEw2 id c s
  | .axpb id c => Sys2Proof.Machine.execAxpb id c s
  | .func id c => Sys2Proof.Machine.execFunc id c s
  | .reduce id c => Sys2Proof.Machine.execReduce id c s
  | .softmax id c => Sys2Proof.Machine.execSoftmax id c s
  | .norm id c => Sys2Proof.Machine.execNorm id c s
  | .pixnorm id c => Sys2Proof.Machine.execPixnorm id c s
  | .pool id c => Sys2Proof.Machine.execPool id c s
  | .resize id c => Sys2Proof.Machine.execResize id c s
  | .requant id c => Sys2Proof.Machine.execRequant id c s
  | .fill id c => Sys2Proof.Machine.execFill id c s
  | .topk id c => Sys2Proof.Machine.execTopk id c s
  | .nms id c => Sys2Proof.Machine.execNms id c s
  | .copy id c => Sys2Proof.Machine.execCopy id c s
  | .chainReduce id c => Sys2Proof.Machine.execChainReduce id c s
  | .broadcast id c => Sys2Proof.Machine.execBroadcast id c s
  | .barrier id c => Sys2Proof.Machine.execBarrier id c s
  | .dispatch part sq => Sys2Proof.Machine.execDispatch part sq s
  | .commandStart id c => Sys2Proof.Machine.execCommandStart id s c
  | .completionWrite id => Sys2Proof.Machine.execCompletionWrite id s
  | .interruptCoalTimeout part cq => Sys2Proof.Machine.execInterruptCoalTimeout part cq s
  | .doorbellPoll part block words => Sys2Proof.Machine.execDoorbellPoll part block words s
  | .wakeWrite fn off => Sys2Proof.Machine.execWakeWrite fn off s
  | .entryConsume part sq entry list good c => Sys2Proof.Machine.execEntryConsume part sq entry list good c s
  | .abortEntry part sq entry => Sys2Proof.Machine.execAbortEntry part sq entry s
  | .abortTakesEffect part progress lists c => Sys2Proof.Machine.execAbortTakesEffect part progress lists s c
  | .abortAck part => Sys2Proof.Machine.execAbortAck part s
  | .eventMergeTimeout part code source => Sys2Proof.Machine.execEventMergeTimeout part code source s
  | .functionLevelReset fn => Sys2Proof.Machine.execFunctionLevelReset fn s
  | .partReset part => Sys2Proof.Machine.execPartReset part s
  | .bar4Access req c => Sys2Proof.Machine.execBar4Access req c s
  | .configRequest req => Sys2Proof.Machine.execConfigRequest req s
  | .partitionEnable part => Sys2Proof.Machine.execPartitionEnable part s
  | .partitionDisable part => Sys2Proof.Machine.execPartitionDisable part s
  | .partitionDisableEffect part => Sys2Proof.Machine.execPartitionDisableEffect part s
  | .storeClearDone part => Sys2Proof.Machine.execStoreClearDone part s
  | .domainWrite v => Sys2Proof.Machine.execDomainWrite v s
  | .registerWrite fn off bytes => Sys2Proof.Machine.execRegisterWrite fn off bytes s
  | .scEnable ch v => Sys2Proof.Machine.execScEnable ch v s
  | .arrayFault a kind progress => Sys2Proof.Machine.execArrayFault a kind progress s
  | .spareMapped a => Sys2Proof.Machine.execSpareMapped a s
  | .idleTest a pass => Sys2Proof.Machine.execIdleTest a pass s
  | .tileStart a => Sys2Proof.Machine.execTileStart a s
  | .weightSwap a => Sys2Proof.Machine.execWeightSwap a s
  | .segmentSwap a => Sys2Proof.Machine.execSegmentSwap a s
  | .drainEnd a stamps => Sys2Proof.Machine.execDrainEnd a stamps s
  | .chainHop id m => Sys2Proof.Machine.execChainHop id m s
  | .scatterRetire band bank => Sys2Proof.Machine.execScatterRetire band bank s
  | .tallyIncrement a t => Sys2Proof.Machine.execTallyIncrement a t s
  | .waitTallyTimeout id => Sys2Proof.Machine.execWaitTallyTimeout id s
  | .remoteRequest r => Sys2Proof.Machine.execRemoteRequest r s
  | .remotePacket p c => Sys2Proof.Machine.execRemotePacket p s c
  | .visible id run => Sys2Proof.Machine.execVisible id run s
  | .remoteTimeout id run => Sys2Proof.Machine.execRemoteTimeout id run s
  | .linkEnable l => Sys2Proof.Machine.execLinkEnable l s
  | .linkTrained l => Sys2Proof.Machine.execLinkTrained l s
  | .ident l dev link => Sys2Proof.Machine.execIdent l dev link s
  | .timeExchange l stamps beyond => Sys2Proof.Machine.execTimeExchange l stamps beyond s
  | .linkReset l => Sys2Proof.Machine.execLinkReset l s
  | .flitReceive l f c => Sys2Proof.Machine.execFlitReceive l f s c
  | .nak l ack => Sys2Proof.Machine.execNak l ack s
  | .replayTimeout l => Sys2Proof.Machine.execReplayTimeout l s
  | .laneSpared l lane => Sys2Proof.Machine.execLaneSpared l lane s
  | .linkFail l => Sys2Proof.Machine.execLinkFail l s
  | .linkRestored l => Sys2Proof.Machine.execLinkRestored l s
  | .descReceive peer desc => Sys2Proof.Machine.execDescReceive peer desc s
  | .pairEnable v claimed => Sys2Proof.Machine.execPairEnable v claimed s
  | .pairHoldoffExpiry claimed => Sys2Proof.Machine.execPairHoldoffExpiry claimed s
  | .claim slot => Sys2Proof.Machine.execClaim slot s
  | .heartbeatToggle => Sys2Proof.Machine.execHeartbeatToggle s
  | .alive => Sys2Proof.Machine.execAlive s
  | .checkpointCapture => Sys2Proof.Machine.execCheckpointCapture s
  | .checkpointApply slot ownAt c => Sys2Proof.Machine.execCheckpointApply slot ownAt s c
  | .heartbeatMissing => Sys2Proof.Machine.execHeartbeatMissing s
  | .pairLinksSilent => Sys2Proof.Machine.execPairLinksSilent s
  | .query => Sys2Proof.Machine.execQuery s
  | .queryTimeout => Sys2Proof.Machine.execQueryTimeout s
  | .takeover => Sys2Proof.Machine.execTakeover s
  | .takeoverClaim claimed => Sys2Proof.Machine.execTakeoverClaim claimed s
  | .takeoverDone found => Sys2Proof.Machine.execTakeoverDone found s
  | .actClaimResample claimed => Sys2Proof.Machine.execActClaimResample claimed s
  | .fenceIn level => Sys2Proof.Machine.execFenceIn level s
  | .rejoin => Sys2Proof.Machine.execRejoin s
  | .switchover => Sys2Proof.Machine.execSwitchover s
  | .release => Sys2Proof.Machine.execRelease s
  | .standbyReady => Sys2Proof.Machine.execStandbyReady s
  | .processorFault die proc => Sys2Proof.Machine.execProcessorFault die proc s
  | .hubWatchdogLoss => Sys2Proof.Machine.execHubWatchdogLoss s
  | .encoderEdge enc a b samples => Sys2Proof.Machine.execEncoderEdge enc a b s samples
  | .encoderIndex enc z samples => Sys2Proof.Machine.execEncoderIndex enc s z samples
  | .positionLoad => Sys2Proof.Machine.execPositionLoad s
  | .speedUpdate => Sys2Proof.Machine.execSpeedUpdate s
  | .slipWindow => Sys2Proof.Machine.execSlipWindow s
  | .triggerPulse n => Sys2Proof.Machine.execTriggerPulse n s
  | .triggerPulseEnd n => Sys2Proof.Machine.execTriggerPulseEnd n s
  | .triggerRecord => Sys2Proof.Machine.execTriggerRecord s
  | .interlockChange a b samples => Sys2Proof.Machine.execInterlockChange a b s samples
  | .interlockDiscrepancy => Sys2Proof.Machine.execInterlockDiscrepancy s
  | .latchClear => Sys2Proof.Machine.execLatchClear s
  | .motionWake a b samples => Sys2Proof.Machine.execMotionWake a b s samples
  | .positionHandover => Sys2Proof.Machine.execPositionHandover s
  | .journalPost v => Sys2Proof.Machine.execJournalPost v s
  | .journalIntake type source payload => Sys2Proof.Machine.execJournalIntake type source payload s
  | .journalRecordWrite okA okB => Sys2Proof.Machine.execJournalRecordWrite okA okB s
  | .sectorErase => Sys2Proof.Machine.execSectorErase s
  | .powerFail => Sys2Proof.Machine.execPowerFail s
  | .journalRescan => Sys2Proof.Machine.execJournalRescan s
  | .journalMediaFault flash op off => Sys2Proof.Machine.execJournalMediaFault flash op off s
  | .freeze pin => Sys2Proof.Machine.execFreeze pin s
  | .freezeFlit f => Sys2Proof.Machine.execFreezeFlit f s
  | .freezeCapture => Sys2Proof.Machine.execFreezeCapture s
  | .releaseFreeze => Sys2Proof.Machine.execReleaseFreeze s
  | .smpSeedWrite v => Sys2Proof.Machine.execSmpSeedWrite v s
  | .marker v => Sys2Proof.Machine.execMarker v s
  | .tracePacketSend => Sys2Proof.Machine.execTracePacketSend s
  | .tracePacketExpire source => Sys2Proof.Machine.execTracePacketExpire source s
  | .syncTimer => Sys2Proof.Machine.execSyncTimer s
  | .alarmMergeTimeout code source => Sys2Proof.Machine.execAlarmMergeTimeout code source s
  | .dump id watch => Sys2Proof.Machine.execDump id watch s
  | .dumpRdWrite v => Sys2Proof.Machine.execDumpRdWrite v s
  | .powerWindow dies pkg delayed waited => Sys2Proof.Machine.execPowerWindow dies pkg delayed waited s
  | .aclkDivChange div => Sys2Proof.Machine.execAclkDivChange div s
  | .tempUpdate temps taken => Sys2Proof.Machine.execTempUpdate temps taken s
  | .idleEntry => Sys2Proof.Machine.execIdleEntry s
  | .reqRun => Sys2Proof.Machine.execReqRun s
  | .reqStandby => Sys2Proof.Machine.execReqStandby s
  | .standbyEntry => Sys2Proof.Machine.execStandbyEntry s
  | .reqSleep => Sys2Proof.Machine.execReqSleep s
  | .sleepTimerWake => Sys2Proof.Machine.execSleepTimerWake s
  | .perstRise => Sys2Proof.Machine.execPerstRise s
  | .warmReset pin => Sys2Proof.Machine.execWarmReset pin s
  | .powerOnReset p => Sys2Proof.Machine.execPowerOnReset p s
  | .mainPowerLoss => Sys2Proof.Machine.execMainPowerLoss s
  | .mainRailsGood p => Sys2Proof.Machine.execMainRailsGood p s
  | .bootGo v c => Sys2Proof.Machine.execBootGo v s c
  | .scrubRead stack c => Sys2Proof.Machine.execScrubRead stack c s
  | .pageRetire stack page taken => Sys2Proof.Machine.execPageRetire stack page taken s
  | .hbmClassWrite k v => Sys2Proof.Machine.execHbmClassWrite k v s
  | .hbmRegionWrite n v => Sys2Proof.Machine.execHbmRegionWrite n v s
  | .vccAuxLoss => Sys2Proof.Machine.execVccAuxLoss s
  | .pairHbInEdge level => Sys2Proof.Machine.execPairHbInEdge level s
  | .collectiveTimeout id => Sys2Proof.Machine.execCollectiveTimeout id s
  | .refused id => Sys2Proof.Machine.execRefused id s
  | .pcieLinkTraining rate width => Sys2Proof.Machine.execPcieLinkTraining rate width s
  | .lowWordRead r => Sys2Proof.Machine.execLowWordRead r s

end Sys2Proof.Machine
end

