-- ==== Sys2Proof/Machine/Tick.lean ====
section
/-! DEFINITION. One tick of the 25 MHz timebase: what step does on an empty queue (R426, R488, R518, R520, R552, R554; log 2). -/

namespace Sys2Proof.Machine

/-- TRIM as a signed number (R552). -/
def trim (d : Device) : Int := signed 32 (rget d oTimeTrim).toNat

/-- What is left of a slew after this tick, and what the tick applies of it, in quarters of a nanosecond: one quarter every seven
ticks, which is less than 1 ns per µs (R426). -/
def slewStep (tick : Nat) (z : Int) : Int × Int :=
  if tick % 7 ≠ 0 ∨ z = 0 then (z, 0) else if 0 < z then (z - 1, 1) else (z + 1, -1)

/-- TIME advances by 40 ns and TRIM, and by what the tick slews (R426, R552). -/
def advanceTime (d : Device) : Device :=
  let (left, now) := slewStep d.clk.tick d.align.slew
  let t : Int := (d.clk.time : Int) * 2 ^ 32 + d.clk.frac + 40 * 2 ^ 32 + trim d + now * 2 ^ 30
  let n := t.toNat
  { d with clk := { d.clk with time := n / 2 ^ 32 % 2 ^ 64, frac := n % 2 ^ 32 }, align := { d.align with slew := left } }

/-- The device follows the master's clock while TIME is aligned (R426, R553). -/
def followMaster (d : Device) : Device :=
  if fbit d oHyTime fHyTimeAligned then rput oTimeTrim (Config.alignedTrim d.clk.tick) d else d

/-- ACLK cycles of a tick: 256 PLL cycles by the division in effect (R554). -/
def aclkPerTick (d : Device) : Nat := 256 * (d.clk.tick + 1) / max 1 (divNow d) - 256 * d.clk.tick / max 1 (divNow d)

/-- A 64-bit busy counter advanced (R518). -/
def busyAdd (lo hi n : Nat) (d : Device) : Device :=
  if n = 0 then d
  else
    let v := min (pair64 d lo hi + n) (2 ^ 64 - 1)
    rput lo (BitVec.ofNat 32 v) (rput hi (BitVec.ofNat 32 (v / 2 ^ 32)) d)

/-- The busy counters of one partition's commands that run (R518). -/
def busyPart (a : Nat) (d : Device) (p : Nat) : Device :=
  let cs := d.cmds.filter fun c => decide (c.part = p) && decide (c.phase = .running)
  let arrays := distinct ((cs.filter usesArrays).flatMap fun c => motifList (targetOf c))
  let bands := distinct ((cs.filter usesVector).flatMap bandsOf)
  let engines := distinct ((cs.filter fun c => decide (engineOf c = some .transfer)).map engDie)
  let d := busyAdd (oBusyMatrix p 0) (oBusyMatrix p 1) (a * arrays.length) d
  let d := busyAdd (oBusyVector p 0) (oBusyVector p 1) (32 * bands.length) d
  let d := busyAdd (oBusyXfer p 0) (oBusyXfer p 1) (32 * engines.length) d
  bands.foldl (fun d b => perfOne b 0x10 (some p) 32 d) d

/-- The cycle counters and the busy counters of a tick (R518, R520). -/
def countCycles (d : Device) : Device :=
  if mainUp d then
    let a := aclkPerTick d
    let d := { d with clk := { d.clk with aclk := (d.clk.aclk + a) % 2 ^ 64, fclk := (d.clk.fclk + 32) % 2 ^ 64,
                                          hclk := (d.clk.hclk + 32) % 2 ^ 64 } }
    (distinct (d.cmds.map (·.part))).foldl (busyPart a) d
  else d

/-- The interlock counts ticks of disagreement (R488). -/
def ilkTick (d : Device) : Device :=
  if d.ilk.st = .disagree then { d with ilk := { d.ilk with count := d.ilk.count + 1 } } else d

/-- One tick; in OFF nothing runs. -/
def tick (d : Device) : Device :=
  if d.clk.power = .off then d
  else
    let d := ilkTick (countCycles (advanceTime (followMaster d)))
    { d with clk := { d.clk with tick := d.clk.tick + 1 } }

end Sys2Proof.Machine
end

