-- ==== Sys2Proof/Safety.lean ====
section
/-! DEFINITION. What claims call safe: commands that name units the device has, memory and the sparse tables in their one canonical
form, outputs that are high only while R487 and R492 allow it; and the words in which claims speak of a running command. -/

namespace Sys2Proof.Machine

/-- Every waiting command names units that the device has. -/
def QueueOk (s : State) : Prop := ∀ c ∈ s.pending, c.wf = true

/-- ILLUM_ENn is high only while every condition of R492 holds. -/
def IllumSafe (d : Device) : Prop := ∀ n < 4, d.pins.illum.getLsbD n = true → illumOn d n = true

/-- While TRIG is held low by R487, no TRIG output is high. -/
def TrigSafe (d : Device) : Prop := trigBlocked d = true → d.pins.trig = 0

/-- The keys of a table rise strictly. -/
abbrev Rising {α : Type} (t : Tab α) : Prop := (t.map Prod.fst).Pairwise (· < ·)

/-- Memory and both flashes list no byte that an unlisted address holds, and every table lists each key once, in rising order: equal
contents are equal data. -/
def Canonical (d : Device) : Prop :=
  Memory.wf d ∧ tabWf (0xFF : Byte) d.jnl.flashA ∧ tabWf (0xFF : Byte) d.jnl.flashB ∧
  Rising d.regs ∧ Rising d.parts ∧ Rising d.arrs ∧ Rising d.scs ∧ Rising d.links ∧ Rising d.trigs ∧
  ∀ e ∈ d.parts, Rising e.2.rings ∧ Rising e.2.cqs

/-- The step waits for no bank and reads no row while it is written (R256, R257, R259, R262). -/
def NoWaits (x : Circ) : Prop :=
  x.rowWaits = [] ∧ x.wordWaits = [] ∧ x.bandWaits = [] ∧ x.collisions = [] ∧ x.stalls = []

/-- The step meets no memory error (R253, R405, R406) and no wait. -/
def NoErrors (x : Circ) : Prop := x.hard = [] ∧ x.soft = [] ∧ x.flips = [] ∧ NoWaits x

/-- Command c with this id runs with this opcode, of class THROUGHPUT, neither stopped nor waiting for a dump. -/
def Runs (d : Device) (id op : Nat) (c : Cmd) : Prop :=
  cmdOf d id = some c ∧ c.phase = .running ∧ opOf c = op ∧ c.dumpIn = [] ∧ c.stop = none ∧ fixedTime c = false

/-- The command once its work has ended so. -/
def endedAs (c : Cmd) (x : Done) : Cmd := { c with phase := .ended, done := x }

/-- No two local addresses share a place of memory, as far as HBM goes: no stack-local region is enabled and no page retired. -/
def PlainHbm (d : Device) : Prop := regions d = [] ∧ ∀ k page, retiredAt d k page = none

/-- A local address whose byte reads the same in both. -/
def SameByte (d e : Device) (l : Nat) : Prop := byteAt e l = byteAt d l

/-- Everything but registers, memory, commands and the counters of free values is the same: the frame of work that computes. -/
def SameOutside (d e : Device) : Prop :=
  e.pins = d.pins ∧ e.clk = d.clk ∧ e.pos = d.pos ∧ e.trigs = d.trigs ∧ e.ilk = d.ilk ∧ e.pair = d.pair ∧ e.links = d.links ∧
  e.rem = d.rem ∧ e.coll = d.coll ∧ e.frz = d.frz ∧ e.nextId = d.nextId

end Sys2Proof.Machine
end

