-- ==== Sys2Proof/Certificates/Slice0/Obligations.lean ====
section
/-! DEFINITION. The statements: what a step does, what each family of commands does and what it leaves unchanged, what reset leaves,
and what every step keeps. Where a next state is written as the old one with some fields replaced, everything not named is
unchanged: registers, memory, and the queue. -/

open Sys2Proof Sys2Proof.Machine

/-! ## The queue -/

/-- A command at the front of the queue acts on the state with the rest of the queue (the block form's step; log 2). -/
def Obligations.FrontCommandRuns : Prop :=
  ∀ (s : State) (c : Instr) (rest : List Instr), s.pending = c :: rest → step s = exec c { s with pending := rest }

/-- On an empty queue a step is one tick of the 25 MHz timebase; in OFF nothing changes. While TIME follows no master and is not slewed it
advances by 40 ns and by TRIM, modulo 2^64 ns, with a fraction of 32 bits; the tick count advances by 1, the interlock counts a tick of
DISAGREE, and memory, commands, arrays, partitions, links, the position, every pin and what has left the device are unchanged (R488, R552;
that a tick is what a step with no command does is DESIGN CHOICE, log 2). -/
def Obligations.EmptyQueueTicks : Prop :=
  (∀ s : State, s.pending = [] → s.dev.clk.power = .off → step s = .next s) ∧
  ∀ s : State, s.pending = [] → s.dev.clk.power ≠ .off → fbit s.dev oHyTime fHyTimeAligned = false → s.dev.align.slew = 0 →
    let z : Int := s.dev.clk.time * 2 ^ 32 + s.dev.clk.frac + 40 * 2 ^ 32 + signed 32 (rget s.dev oTimeTrim).toNat
    0 ≤ z →
    ∃ t, step s = .next t ∧ t.pending = [] ∧ t.dev.clk.tick = s.dev.clk.tick + 1 ∧
      (t.dev.clk.time : Int) * 2 ^ 32 + t.dev.clk.frac = z % 2 ^ 96 ∧ t.dev.clk.frac < 2 ^ 32 ∧
      t.dev.ilk = { s.dev.ilk with count := s.dev.ilk.count + if s.dev.ilk.st = .disagree then 1 else 0 } ∧
      t.dev.mem = s.dev.mem ∧ t.dev.cmds = s.dev.cmds ∧ t.dev.arrs = s.dev.arrs ∧ t.dev.parts = s.dev.parts ∧
      t.dev.links = s.dev.links ∧ t.dev.pos = s.dev.pos ∧ t.dev.pins = s.dev.pins ∧ t.dev.out = s.dev.out

/-- Every command that names units the device has is answered by a next state with the same queue, and every other by the fault
noSuchUnit (log 5): ordinary data never stops the block. -/
def Obligations.WellFormedCommandsAnswer : Prop :=
  ∀ (i : Instr) (s : State), (i.wf = true → ∃ d, exec i s = .next { s with dev := d }) ∧ (i.wf = false → exec i s = .fault .noSuchUnit)

/-! ## Reset -/

/-- The state after reset: an empty queue, memory that reads 0 everywhere, no command, partition, link, pulse or held access in use,
nothing sent, the illumination and trigger outputs low, MAIN_EN high, power state RUN with ACLK at a division of 4, DISC 100,000, every
logical array available and every partition disabled; and it satisfies the invariants that every step keeps. -/
def Obligations.ResetState : Prop :=
  (State.reset.pending = [] ∧ (∀ l, byteAt State.reset.dev l = 0) ∧ State.reset.dev.cmds = [] ∧ State.reset.dev.out = [] ∧
   State.reset.dev.parts = [] ∧ State.reset.dev.links = [] ∧ State.reset.dev.trigs = [] ∧ State.reset.dev.waiting = [] ∧
   State.reset.dev.pins.illum = 0 ∧ State.reset.dev.pins.trig = 0 ∧ State.reset.dev.pins.mainEn = true ∧
   State.reset.dev.clk.power = .run ∧ fget State.reset.dev oAclkCtrl fAclkCtrlDiv = 4 ∧
   fget State.reset.dev oIlkCfg fIlkCfgDisc = 100000 ∧ State.reset.dev.ilk.gate = false ∧
   (∀ a < 192, avail State.reset.dev a = true) ∧ (∀ p < 64, partEn State.reset.dev p = false)) ∧
  Canonical State.reset.dev ∧ QueueOk State.reset

/-- Every step keeps memory, both journal flashes and the sparse tables of the state in their one canonical form, whatever the command
and whatever the state it finds: equal contents are equal data. -/
def Obligations.StepKeepsCanonical : Prop :=
  ∀ (s t : State), Canonical s.dev → step s = .next t → Canonical t.dev

/-- Commands that name units the device has never stop the block: with such a queue every step answers a next state, and what is
left of the queue is such a queue. -/
def Obligations.QueueOkNeverStops : Prop :=
  ∀ s : State, QueueOk s → ∃ t, step s = .next t ∧ QueueOk t ∧ t.pending = s.pending.tail

/-! ## Shared operations -/

/-- A register written reads back, and every other register of the device is unchanged (R600). Bytes stored at a range of a scratch store
read back, and every byte outside the range is unchanged (R252, R399). -/
def Obligations.StoresReadBack : Prop :=
  (∀ (d : Device) (off off' : Nat) (w : Word), Canonical d →
     rget (rput off w d) off = w ∧ (off' ≠ off → rget (rput off w d) off' = rget d off')) ∧
  ∀ (d : Device) (l : Nat) (bs : List Byte), Canonical d → 0x6000000000 ≤ l → (∀ k < bs.length, mapped (l + k) = true) →
    bytesAt (storeBytes l bs d) l bs.length = bs ∧
    ∀ l', mapped l' = true → (l' < l ∨ l + bs.length ≤ l') → byteAt (storeBytes l bs d) l' = byteAt d l'

/-- Outside every enabled stack-local region HBM interleaves its six stacks by pages of 4 KiB, as the procedure of R402 computes; and
without such regions and retired pages no two local addresses share a place. -/
def Obligations.HbmInterleaveIsInjective : Prop :=
  (∀ (d : Device) (l : Nat), (∀ r ∈ regions d, l < r.1 * gib ∨ (r.1 + 6 * r.2) * gib ≤ l) →
    hbmMap d l = ((l / 4096) % 6, (l / 4096 / 6) * 4096 + l % 4096)) ∧
  ∀ (d : Device) (l l' : Nat), regions d = [] → (∀ k page, retiredAt d k page = none) → isHbm l = true → isHbm l' = true →
    memKey d l = memKey d l' → l = l'

/-- What raising an event leaves unchanged: memory and its errors, dispatched commands, arrays, links, remote access, the position
unit, triggers, the interlock, the pair, clocks and every pin (R389; the event's own effects are on registers, ring, trace, journal queue
and what leaves the device). -/
def Obligations.RaisedEventFrame : Prop :=
  ∀ (d : Device) (p code source a0 a1 st : Nat),
    (raise p code source a0 a1 st d).mem = d.mem ∧ (raise p code source a0 a1 st d).merr = d.merr ∧
    (raise p code source a0 a1 st d).cmds = d.cmds ∧ (raise p code source a0 a1 st d).arrs = d.arrs ∧
    (raise p code source a0 a1 st d).links = d.links ∧ (raise p code source a0 a1 st d).rem = d.rem ∧
    (raise p code source a0 a1 st d).pos = d.pos ∧ (raise p code source a0 a1 st d).trigs = d.trigs ∧
    (raise p code source a0 a1 st d).ilk = d.ilk ∧ (raise p code source a0 a1 st d).pins = d.pins ∧
    (raise p code source a0 a1 st d).clk = d.clk ∧ (raise p code source a0 a1 st d).pair = d.pair

/-! ## The work of commands -/

/-- NOP: the command's work ends with SUCCESS and nothing else of the device changes (R322); one that its checks refuse ends with the
refusal instead. A MATMUL with REAL_EXT 0 that its checks admit ends with SUCCESS and EMPTY, and nothing else changes (R37). WAIT_TALLY,
whose array answers accesses: with the tally at or past its target, by serial arithmetic, the command ends with SUCCESS; short of it the
device does not change; and its timeout ends it with REMOTE (R271). -/
def Obligations.SimpleCommandsEnd : Prop :=
  (∀ (s : State) (id : Nat) (x : Circ) (c : Cmd), Runs s.dev id 0x00 c →
     (nopCheck s.dev c = none → exec (.nop id x) s = .next { s with dev := setCmd (endedAs c {}) s.dev }) ∧
     ∀ y, nopCheck s.dev c = some y → exec (.nop id x) s = .next { s with dev := setCmd (endedAs c y) s.dev }) ∧
  (∀ (s : State) (id : Nat) (x : Circ) (c : Cmd), Runs s.dev id 0x10 c → NoErrors x → c.admitted = false →
     matmulCheck s.dev c = none → mReal c = 0 →
     exec (.matmul id x) s = .next { s with dev := setCmd (endedAs c { flags := 1 }) s.dev }) ∧
  ∀ (s : State) (id : Nat) (x : Circ) (c : Cmd), Runs s.dev id 0x01 c → NoErrors x → waitCheck s.dev c = none →
    firstBad s.dev (wordAddr (wArray c) (4 * (65472 + wTally c))) 4 = none → heldArray s.dev (wArray c) = false →
    (serialGe (wWord s.dev c) (wTarget c) = true →
      exec (.waitTally id x) s = .next { s with dev := setCmd (endedAs c {}) s.dev }) ∧
    (serialGe (wWord s.dev c) (wTarget c) = false → exec (.waitTally id x) s = .next s) ∧
    (serialGe (wWord s.dev c) (wTarget c) = false → wTimeout c ≠ 0 →
      exec (.waitTallyTimeout id) s = .next { s with dev := setCmd (endedAs c { status := stRemote }) s.dev })

/-- The vector commands by opcode (R347). -/
def vectorRows (id : Nat) (x : Circ) : List (Nat × Instr) :=
  [(0x20, .ew2 id x), (0x21, .axpb id x), (0x22, .func id x), (0x23, .reduce id x), (0x24, .softmax id x), (0x25, .norm id x),
   (0x26, .pixnorm id x), (0x27, .pool id x), (0x28, .resize id x), (0x29, .requant id x), (0x2A, .fill id x), (0x2B, .topk id x),
   (0x2C, .nms id x)]

/-- A byte of a destination row of a vector command. -/
def InVectorRow (c : Cmd) (l : Nat) : Prop :=
  ∃ b first n r, (b, first, n) ∈ vShares c ∧ first ≤ r ∧ r < first + n ∧
    vAddr c b 2 r ≤ l ∧ l < vAddr c b 2 r + vOutCols c * vWidth (vF c 2)

/-- The parameter table of a band as it stands in the word store that the command names (R353). -/
def vectorTable (d : Device) (c : Cmd) (b : Nat) : List Nat :=
  (List.range (vTblWords c)).map fun k => wsWord d (16 * b + vTblArr c) (vTbl c + k)

/-- The reserved fields of the entries that REQUANT loads are 0, in every band that holds rows (R126, R353). -/
def RequantTablesOk (d : Device) (c : Cmd) : Prop :=
  opOf c = 0x29 → ∀ s ∈ vShares c, s.2.2 ≠ 0 → ∀ j < vCols c,
    let w (k : Nat) : Nat := wsWord d (16 * s.1 + vTblArr c) (vTbl c + 8 * j + k)
    bits 15 6 (w 3) = 0 ∧ bits 31 17 (w 5) = 0 ∧ w 6 = 0 ∧ w 7 = 0

/-- A vector command that may run: its checks pass, its stores answer accesses, no memory error is met, and a REQUANT's tables hold no
reserved bit (R126, R253, R254, R350, R453). -/
def VectorRuns (d : Device) (id : Nat) (x : Circ) (c : Cmd) : Prop :=
  Runs d id (opOf c) c ∧ NoErrors x ∧ Canonical d ∧ d.merr.parity = [] ∧ d.merr.poison = [] ∧ vecCheck d c = none ∧
  vecHeld d c = false ∧ RequantTablesOk d c

/-- Every vector command that may run ends with SUCCESS, for each of the 13 rows; every byte of memory outside its destination rows is
unchanged, and so are the arrays' accumulators, what has left the device, clocks, pins, position, triggers, interlock, pair, links and
remote access. Where the command makes one row, on one band, that row then holds the elements that its operation computes from the
sources and the table, in the destination's format (R352 to R364). -/
def Obligations.VectorCommandsComplete : Prop :=
  ∀ (s : State) (id : Nat) (x : Circ) (c : Cmd) (i : Instr), (opOf c, i) ∈ vectorRows id x → VectorRuns s.dev id x c →
    ∃ t, exec i s = .next t ∧ t.pending = s.pending ∧ cmdOf t.dev id = some (endedAs c {}) ∧
      SameOutside s.dev t.dev ∧ t.dev.arrs = s.dev.arrs ∧ t.dev.out = s.dev.out ∧
      (∀ l, mapped l = true → ¬ InVectorRow c l → SameByte s.dev t.dev l) ∧
      ∀ b, vShares c = [(b, 0, 1)] →
        let row := (vRow (drawFree s.dev).2 c b (vectorTable s.dev c b) s.dev.free 0).1.flatMap (leBytes (vWidth (vF c 2)))
        bytesAt t.dev (vAddr c b 2 0) row.length = row

/-- The checks refuse: a vector command that R346, R348 or R350 refuses, its stores answering accesses, ends so and changes nothing else.
A late FIXED_TIME NOP: work that ends more than B + 2 µs after its start, here with a budget B of 0, ends as DEADLINE_MISS with the
overrun in µs, rounded up, and DEADLINE_MISSES counts it (R331, R332, R340); nothing else changes while ACLK is not slower than at the
start. -/
def Obligations.RefusalsAndDeadlines : Prop :=
  (∀ (s : State) (id : Nat) (x : Circ) (c : Cmd) (i : Instr) (y : Done), (opOf c, i) ∈ vectorRows id x → Runs s.dev id (opOf c) c →
     NoErrors x → vecHeld s.dev c = false → vecCheck s.dev c = some y →
     exec i s = .next { s with dev := setCmd (endedAs c y) s.dev } ∧
     (y.status = stMalformed ∨ y.status = stPermission ∨ y.status = stRemote)) ∧
  ∀ (s : State) (id : Nat) (x : Circ) (c : Cmd), cmdOf s.dev id = some c → c.phase = .running → opOf c = 0x00 → c.stop = none →
    fixedTime c = true → nopCheck s.dev c = none → fget s.dev oAclkCtrl fAclkCtrlDiv ≤ c.div → 12800 < x.took →
    let late : Done := { status := 0x60, detail := min ((x.took - 12800 + 6399) / 6400) 0xFFFF }
    let d := fsat (oDeadlineMisses c.part) fDeadlineMissesMisses 1 (setCmd (endedAs c late) s.dev)
    exec (.nop id x) s = .next { s with dev := d }

/-- FILL of an integer format on one row writes the low bits of PARAM0 into every element of the row (R356). EW2 ADD of integer formats on
one row: each destination element is the sum of the two source elements, saturated to the destination format (R355, R356). -/
def Obligations.VectorIntegerResults : Prop :=
  (∀ (s : State) (id b : Nat) (x : Circ) (c : Cmd), opOf c = 0x2A → VectorRuns s.dev id x c → vIsInt (vF c 2) = true →
     vShares c = [(b, 0, 1)] →
     ∃ t, exec (.fill id x) s = .next t ∧
       ∀ j < vCols c, leNat (bytesAt t.dev (vAddr c b 2 0 + j * vWidth (vF c 2)) (vWidth (vF c 2))) = vP0 c % 2 ^ (8 * vWidth (vF c 2))) ∧
  ∀ (s : State) (id b : Nat) (x : Circ) (c : Cmd), opOf c = 0x20 → VectorRuns s.dev id x c → vSub c = 0 →
    vIsInt (vF c 0) = true → vIsInt (vF c 1) = true → vIsInt (vF c 2) = true → vShares c = [(b, 0, 1)] →
    ∃ t, exec (.ew2 id x) s = .next t ∧
      ∀ j < vCols c,
        let w (k : Nat) : Nat := vWidth (vF c k)
        let el (d : Device) (k : Nat) : Int := vInt (vF c k) (leNat (bytesAt d (vAddr c b k 0 + j * w k) (w k)))
        el t.dev 2 = clip (loOf (8 * w 2) (vSigned (vF c 2))) (hiOf (8 * w 2) (vSigned (vF c 2))) (el s.dev 0 + el s.dev 1)

/-- A byte of run r of a COPY at its destination. -/
def InRun (c : Cmd) (r l : Nat) : Prop := (dstAt c r).toNat ≤ l ∧ l < (dstAt c r).toNat + tRun c

/-- A COPY whose list, if any, has been read, and whose checks pass while its stores answer accesses and no memory error is met (R263,
R265, R325, R254, R453). -/
def CopyRuns (d : Device) (id : Nat) (x : Circ) (c : Cmd) : Prop :=
  Runs d id 0x40 c ∧ c.runs = [] ∧ NoErrors x ∧ Canonical d ∧ d.merr.parity = [] ∧ d.merr.poison = [] ∧
  copyHeld d (withList d c) = false ∧ copyCheck d (withList d c) = none ∧ stepFree d (withList d c) = true

/-- A COPY between two local sides, of any number of runs, plain, gathered or scattered, ends with SUCCESS. Every byte that no run
writes is unchanged; a single run's destination then holds what its source held, and so does every run's where no run writes what
another reads or writes; without TALLY_EN no array changes, and with it a single run's increment is due at the array written (R268, R324).
Clocks, pins, position, triggers, interlock, pair, links, remote access, scale channels and what has left the device are as before. A COPY
to another device, not NARROW, has sent its runs and waits for each to be VISIBLE, with memory as before (R312, R429, R431). -/
def Obligations.LocalCopyMovesBytes : Prop :=
  (∀ (s : State) (id : Nat) (x : Circ) (c : Cmd), CopyRuns s.dev id x c → tSrcDev s.dev c = none → tDstDev s.dev c = none →
    ((∀ r < tCount c, isHbm (dstAt (withList s.dev c) r).toNat = false) ∨ PlainHbm s.dev) →
    let c := withList s.dev c
    let src (r : Nat) : Nat := (srcAt c r).toNat
    let dst (r : Nat) : Nat := (dstAt c r).toNat
    ∃ t, exec (.copy id x) s = .next t ∧ t.pending = s.pending ∧ cmdOf t.dev id = some (endedAs c {}) ∧
      SameOutside s.dev t.dev ∧ t.dev.scs = s.dev.scs ∧ t.dev.out = s.dev.out ∧ (tTally c = none → t.dev.arrs = s.dev.arrs) ∧
      (∀ l, mapped l = true → (∀ r < tCount c, ¬ InRun c r l) → SameByte s.dev t.dev l) ∧
      (tCount c = 1 → bytesAt t.dev (dst 0) (tRun c) = bytesAt s.dev (src 0) (tRun c) ∧
        ∀ a, (arrOf t.dev a).held = (arrOf s.dev a).held ++ if runArray c 0 = some a then (tTally c).toList else []) ∧
      ((∀ r < tCount c, ∀ k < tCount c, ∀ l, InRun c r l → ¬ (src k ≤ l ∧ l < src k + tRun c) ∧ (k ≠ r → ¬ InRun c k l)) →
        ∀ r < tCount c, bytesAt t.dev (dst r) (tRun c) = bytesAt s.dev (src r) (tRun c))) ∧
  ∀ (s : State) (id : Nat) (x : Circ) (c : Cmd), CopyRuns s.dev id x c → tSrcDev s.dev c = none → (tDstDev s.dev c).isSome = true →
    tNarrow c = 0 →
    ∃ t c', exec (.copy id x) s = .next t ∧ t.pending = s.pending ∧ t.dev.mem = s.dev.mem ∧ cmdOf t.dev id = some c' ∧
      c'.phase = .running ∧ c'.runs = List.range (tCount c) ∧ c'.done = {} ∧ c'.words = c.words ∧ t.dev.arrs = s.dev.arrs ∧
      t.dev.scs = s.dev.scs ∧ t.dev.clk = s.dev.clk ∧ t.dev.pins = s.dev.pins

/-- A MATMUL of this device that its checks admit, while none of the arrays is being substituted or cleared, does all its tiles: its work
has ended, unless scale policy RETRY has it computed once more, which happens once and in a later step (R147 to R150, R301). It belongs to
the same partition, list entry and words, and the queue, clocks, pins, position, triggers, interlock, pair, links and remote access are
as before. With the tile sampler off no byte of HBM changes. A domain command whose own part has ended waits for the other members (R48). -/
def Obligations.MatmulRunsToItsEnd : Prop :=
  (∀ (s : State) (id : Nat) (x : Circ) (c : Cmd), Runs s.dev id 0x10 c → NoErrors x → c.part < 64 →
    domainOf c = false → c.member = none → c.shared = [] → (∀ a, heldArray s.dev a = false) →
    (c.admitted = true ∨ (matmulCheck s.dev c = none ∧ stepFree s.dev c = true)) →
    ∃ t c', exec (.matmul id x) s = .next t ∧ t.pending = s.pending ∧ cmdOf t.dev id = some c' ∧
      (c'.phase = .ended ∨ (c'.phase = .running ∧ c.retry = none ∧ c'.retry.isSome = true ∧ c.policy = 2 ∧ mSc c = 2)) ∧
      c'.part = c.part ∧ c'.slot = c.slot ∧ c'.words = c.words ∧ SameOutside s.dev t.dev ∧
      (fbit s.dev oSmpCtrl fSmpCtrlSmpEn = false → (∀ a, (arrOf s.dev a).prog = none) →
        ∀ k < 2 ^ 40, memGet t.dev k = memGet s.dev k)) ∧
  ∀ (s : State) (id : Nat) (x : Circ) (c : Cmd), Runs s.dev id 0x10 c → NoErrors x → x.unreach = [] → c.admitted = true →
    c.member = none → ownOver s.dev c = true → exec (.matmul id x) s = .next s

/-- ACC_SAVE of an array whose stores answer accesses writes the image of the array's active set to 1,024 rows and its state record to
16 words, and every byte elsewhere is unchanged (R187, R189). ACC_LOAD takes the active set's entries, each clipped to s20, and the kept
record from an image, and stores nothing (R188); the exponents of the loaded set are free values (log 33). -/
def Obligations.AccumulatorImages : Prop :=
  (∀ (s : State) (id : Nat) (x : Circ) (c : Cmd), Runs s.dev id 0x11 c → NoErrors x → Canonical s.dev →
     s.dev.merr.parity = [] → s.dev.merr.poison = [] → accCheck s.dev c = none →
     heldArray s.dev (motifArrays (targetOf c)).1 = false →
     ∃ t, exec (.accSave id x) s = .next t ∧ t.pending = s.pending ∧ cmdOf t.dev id = some (endedAs c {}) ∧
       SameOutside s.dev t.dev ∧ t.dev.arrs = s.dev.arrs ∧ t.dev.out = s.dev.out ∧ t.dev.regs = s.dev.regs ∧
       let a := (motifArrays (targetOf c)).1
       bytesAt t.dev (rowAddr a (512 * accRow c)) 524288 = imageOf (arrOf s.dev a).active ∧
       bytesAt t.dev (wordAddr a (4 * accSt c)) 64 = (keptWords (arrOf s.dev a).kept).flatMap (leBytes 4) ∧
       ∀ l, mapped l = true → (l < rowAddr a (512 * accRow c) ∨ rowAddr a (512 * accRow c) + 524288 ≤ l) →
         (l < wordAddr a (4 * accSt c) ∨ wordAddr a (4 * accSt c) + 64 ≤ l) → SameByte s.dev t.dev l) ∧
  ∀ (s : State) (id : Nat) (x : Circ) (c : Cmd), Runs s.dev id 0x12 c → NoErrors x → Canonical s.dev →
    s.dev.merr.parity = [] → s.dev.merr.poison = [] → accCheck s.dev c = none →
    heldArray s.dev (motifArrays (targetOf c)).1 = false →
    (let a := (motifArrays (targetOf c)).1; keptReserved (fun k => wsWord s.dev a (accSt c + k)) = false) →
    ∃ t, exec (.accLoad id x) s = .next t ∧ t.pending = s.pending ∧ cmdOf t.dev id = some (endedAs c {}) ∧
      SameOutside s.dev t.dev ∧ t.dev.mem = s.dev.mem ∧ t.dev.out = s.dev.out ∧
      let a := (motifArrays (targetOf c)).1
      (arrOf t.dev a).kept = keptOf (fun k => wsWord s.dev a (accSt c + k)) ∧
      (∀ k < 131072, tabGet 0 k (arrOf t.dev a).active.ent = clip (-524288) 524287
        (signed 32 (leNat (bytesAt s.dev (rowAddr a (512 * accRow c + 4 * k)) 4)))) ∧
      ∀ a', a' ≠ a → arrOf t.dev a' = arrOf s.dev a'


/-- A collective at a member whose DESCs all match, before its first chunk, with everything handed over that it takes from other members:
for a BROADCAST the root's bytes, in a CHAIN_REDUCE those of the member before it and, under ALL, the last member's (R444 to R448). Its
stores answer accesses and no memory error is met (R253, R254, R453). -/
def CollectiveReady (d : Device) (id : Nat) (x : Circ) (c : Cmd) : Prop :=
  Runs d id (opOf c) c ∧ NoErrors x ∧ Canonical d ∧ d.merr.parity = [] ∧ d.merr.poison = [] ∧ collHeld d c = false ∧
  collCheck d c = none ∧ unreachable d c x = none ∧ collReady d c = true ∧ descDiffers d c = false ∧
  (∀ y ∈ d.coll.descs, y.2.cancel = false) ∧ c.passed = 0 ∧ c.chunks = 0 ∧
  (∀ m, takesFrom d c = some m → cBytes c ≤ (arrivedFrom d c m).length) ∧
  (awaitsResult d c = true → cBytes c ≤ (arrivedFrom d c ((members d c.part).getLastD 0)).length)

/-- BARRIER, BROADCAST and CHAIN_REDUCE at a member that is ready, with everything handed over: the command ends with SUCCESS and all its
chunks done, its DESCs are dropped, and every byte that is not of a DST which this member writes is unchanged (R443 to R448). A BARRIER
changes nothing else of memory, registers and what leaves. For data of one chunk, the root of a BROADCAST sends its source to every other
member, and a member of a CHAIN_REDUCE before the last sends the next its source, added to what the member before it sent if there is one. -/
def Obligations.CollectivesComplete : Prop :=
  ∀ (s : State) (id : Nat) (x : Circ) (c : Cmd) (i : Instr), CollectiveReady s.dev id x c →
    (opOf c, i) ∈ [(0x48, .chainReduce id x), (0x49, .broadcast id x), (0x4A, .barrier id x)] →
    (isHbm (cDst c) = false ∨ PlainHbm s.dev) →
    let n := cBytes c
    ∃ t, exec i s = .next t ∧ t.pending = s.pending ∧
      cmdOf t.dev id = some (endedAs { c with passed := cChunks c, chunks := cChunks c } {}) ∧
      t.dev.coll.descs = s.dev.coll.descs.filter (fun y => decide (y.2.collId ≠ cId c)) ∧
      (writesDst s.dev c = false → t.dev.mem = s.dev.mem) ∧
      (∀ l, mapped l = true → (l < cDst c ∨ cDst c + n ≤ l) → SameByte s.dev t.dev l) ∧
      t.dev.clk = s.dev.clk ∧ t.dev.pins = s.dev.pins ∧ t.dev.arrs = s.dev.arrs ∧
      (opOf c = 0x4A → t.dev.regs = s.dev.regs ∧ t.dev.out = s.dev.out) ∧
      (0 < n → n ≤ 65536 →
        let own := bytesAt s.dev (cSrc c) n
        let d := hbmRead (cSrc c) n (some c.part) (netCount c.part (dieAt (cSrc c)) 4 n (setCmd c s.dev))
        (opOf c = 0x49 → cRoot c = ownSlot s.dev →
          let e := sendChunk c (others s.dev c) own d
          t.dev.out = e.out ∧ t.dev.links = e.links ∧ t.dev.rem = e.rem) ∧
        (opOf c = 0x48 → isLastMember s.dev c = false → cAll c = 0 →
          let k := collPlace s.dev c
          let sum := if k = 0 then own else addChunk c ((arrivedFrom s.dev c ((members s.dev c.part).getD (k - 1) 0)).take n) own
          let e := sendChunk c [(members s.dev c.part).getD (k + 1) 0] sum d
          t.dev.out = e.out ∧ t.dev.links = e.links ∧ t.dev.rem = e.rem))

/-- What a member stores at DST, for data of one chunk: a member of a BROADCAST that is not its root the root's bytes (R447); the last
member of a CHAIN_REDUCE the sum of what the member before it sent and its own source; and a member before the last, under ALL, the bytes
that the last member sent (R448). -/
def Obligations.BroadcastStoresIncoming : Prop :=
  ∀ (s : State) (id : Nat) (x : Circ) (c : Cmd) (i : Instr), CollectiveReady s.dev id x c →
    (opOf c, i) ∈ [(0x48, .chainReduce id x), (0x49, .broadcast id x)] → writesDst s.dev c = true → 0 < cBytes c → cBytes c ≤ 65536 →
    (isHbm (cDst c) = false ∨ PlainHbm s.dev) →
    let n := cBytes c
    let k := collPlace s.dev c
    let own := bytesAt s.dev (cSrc c) n
    let from' (m : Nat) : List Byte := (arrivedFrom s.dev c m).take n
    ∃ t, exec i s = .next t ∧ t.pending = s.pending ∧
      (opOf c = 0x49 → bytesAt t.dev (cDst c) n = from' (cRoot c)) ∧
      (opOf c = 0x48 → isLastMember s.dev c = true → 0 < k →
        bytesAt t.dev (cDst c) n = addChunk c (from' ((members s.dev c.part).getD (k - 1) 0)) own) ∧
      (opOf c = 0x48 → isLastMember s.dev c = false → bytesAt t.dev (cDst c) n = from' ((members s.dev c.part).getLastD 0))

/-- A collective's TIMEOUT ends it with REMOTE while the member does not hold every DESC or has not sent its own, and it holds nothing
of that collective any more; a DESC received while no collective runs is held, and frees the place of this member's own at the peer (R444,
R445). -/
def Obligations.DescriptorsAndTimeout : Prop :=
  (∀ (s : State) (id : Nat) (c : Cmd), Runs s.dev id (opOf c) c → isColl (opOf c) = true → cTimeout c ≠ 0 → collCheck s.dev c = none →
    collReady s.dev c = false →
    let co := { (inboxDrop c.part 0 (cId c) s.dev).coll with
      descs := s.dev.coll.descs.filter fun y => decide (y.2.collId ≠ cId c) }
    let d := setCmd (endedAs c { status := stRemote }) { s.dev with coll := co }
    exec (.collectiveTimeout id) s = .next { s with dev := d }) ∧
  ∀ (s : State) (peer : Nat) (x : Desc), peer < 16 → peer ≠ ownSlot s.dev → runningColls s.dev = [] →
    let co := { s.dev.coll with sent := s.dev.coll.sent.erase (peer, x.collId), descs := s.dev.coll.descs ++ [(peer, x)] }
    exec (.descReceive peer x) s = .next { s with dev := { s.dev with coll := co } }

/-! ## Fetching, starting, completing -/

/-- A queued command starts once its engine, its event, its fence and its queue's turn allow it: it runs, with the time and the ACLK
division of its start (R18, R309 to R311, R328, R331). A NOP, WAIT_TALLY, ACC_SAVE, ACC_LOAD or COPY changes nothing else but
COMPLETED_TILES, which begin again for the arrays that an ACC_SAVE or ACC_LOAD starts on (R37); a vector opcode without an operation ends
with MALFORMED (R346). One whose awaited event has failed completes as ABORTED without running (R328), and one that may not start yet
changes nothing. -/
def Obligations.CommandStarts : Prop :=
  ∀ (s : State) (id : Nat) (x : Circ) (c : Cmd), cmdOf s.dev id = some c → c.phase = .queued → NoErrors x →
    (eventFailed s.dev c = false → canStart s.dev c = true →
      ∃ t c', exec (.commandStart id x) s = .next t ∧ t.pending = s.pending ∧ cmdOf t.dev id = some c' ∧
        c'.startAt = s.dev.clk.time ∧ c'.div = fget s.dev oAclkCtrl fAclkCtrlDiv ∧ c'.part = c.part ∧ c'.words = c.words ∧
        (if usesVector c = true ∧ isVec c = false then c'.phase = .ended ∧ c'.done = { status := stMalformed } else c'.phase = .running) ∧
        (∀ a, tabGet 0 a t.dev.tiles = tabGet 0 a s.dev.tiles ∨ tabGet 0 a t.dev.tiles = 0) ∧
        (usesArrays c = true → ∀ a ∈ motifList (targetOf c), tabGet 0 a t.dev.tiles = 0) ∧
        t.dev.mem = s.dev.mem ∧ t.dev.clk = s.dev.clk ∧ t.dev.pins = s.dev.pins ∧ t.dev.arrs = s.dev.arrs ∧
        (opOf c ∈ [0x00, 0x01, 0x11, 0x12, 0x40] → t.dev = { setCmd c' s.dev with tiles := t.dev.tiles } ∧
          (usesArrays c = false → t.dev.tiles = s.dev.tiles))) ∧
    (eventFailed s.dev c = true →
      exec (.commandStart id x) s = .next { s with dev := setCmd (endedAs c { status := 0x01 }) s.dev }) ∧
    (eventFailed s.dev c = false → canStart s.dev c = false → exec (.commandStart id x) s = .next s)

/-- The completion of a command whose work and dumps have ended, in its turn: it leaves the device, memory stays, and its record goes to the
ring of its submission ring (R312, R340). Where the ring takes it, words 1 to 3 are written and then word 0, with PHASE 1 in the first pass
and then alternating, and a message follows only for a record that asks for one or reports no success (R382, R383, R385). Where the ring is
off, a buffer with room holds it (R384). Out of its turn nothing happens (R307). The end of a member's part of another device's command is
told to that device (R48; log 60). -/
def Obligations.CompletionRecordWritten : Prop :=
  ∀ (s : State) (id : Nat) (c : Cmd), cmdOf s.dev id = some c → c.phase = .ended → c.dumpIn = [] → c.dumpOut = [] → Canonical s.dev →
    let p := c.part
    let q := ringCq s.dev p c.sq
    let dn := reported (partOf s.dev p) c.done
    let left := s.dev.cmds.filter fun x => decide (x.id ≠ id)
    (c.member = none → turnToEnd s.dev c = true → (∀ h ∈ (partOf s.dev p).held, h.1 ≠ q) →
      (cqOpen s.dev p q = true →
        ∃ t m, exec (.completionWrite id) s = .next t ∧ t.pending = s.pending ∧ t.dev.cmds = left ∧ t.dev.mem = s.dev.mem ∧
          (let n := (cqOf (partOf s.dev p) q).written
           let k := 2 ^ fget s.dev (oCqCtrl p q) fCqCtrlLog2size
           let a := pair64 s.dev (oCqBaseLo p q) (oCqBaseHi p q) + 16 * (n % k)
           let phase := if n / k % 2 = 0 then 1 else 0
           t.dev.out = s.dev.out ++ [
             .hostWrite (a + 4) (leBytes 4 dn.tilePos ++ leBytes 4 (dn.tileCh % 2 ^ 24 + c.sq * 2 ^ 24) ++
               leBytes 4 (dn.detail % 2 ^ 16 + c.slot % 2 ^ 15 * 2 ^ 16)),
             .hostWrite a (leBytes 4 (dn.status + dn.flags * 2 ^ 8 + phase * 2 ^ 15 + seqOf c * 2 ^ 16))] ++ m) ∧
          (irqOf c = false → dn.status = 0 → (cqOf (partOf s.dev p) q).irqPending = false → m = [])) ∧
      (cqEn s.dev p q = false → (partOf s.dev p).held.length < 256 →
        ∃ t, exec (.completionWrite id) s = .next t ∧ t.pending = s.pending ∧ t.dev.cmds = left ∧ t.dev.mem = s.dev.mem ∧
          t.dev.out = s.dev.out ∧ (partOf t.dev p).held = (partOf s.dev p).held ++ [(q, cmdRec c dn)])) ∧
    (c.member = none → turnToEnd s.dev c = false → exec (.completionWrite id) s = .next s) ∧
    ∀ dev n, c.member = some (dev, n) →
      let x := c.done
      let load : Payload := .shareDone n x.status x.flags x.detail x.tilePos x.tileCh
      exec (.completionWrite id) s = .next { s with dev := sendPacket dev p true load (scEnd c { s.dev with cmds := left }) }

/-- A completing command advances its order event by 1 when its status is SUCCESS or DEADLINE_MISS, and otherwise sets the event's ERR
bit and leaves the count (R329). -/
def Obligations.OrderEventSignalled : Prop :=
  ∀ (d : Device) (c : Cmd), Canonical d → sigEnOf c = true →
    ((c.done.status = 0x00 ∨ c.done.status = 0x60) →
      rget (signalEvent c d) (oEvent c.part (sigEvOf c)) = rget d (oEvent c.part (sigEvOf c)) + 1) ∧
    (c.done.status ≠ 0x00 → c.done.status ≠ 0x60 →
      (rget (signalEvent c d) (oEventErr c.part (sigEvOf c / 32))).getLsbD (sigEvOf c % 32) = true ∧
      rget (signalEvent c d) (oEvent c.part (sigEvOf c)) = rget d (oEvent c.part (sigEvOf c)))

/-- COAL_TIME after the first pending record the ring's message is sent and its pending state clears (R385). A message of a vector that the
function has leaves, or sets the vector's pending bit while it is masked; one of a vector beyond them does nothing (R372, R598; log 9). A wake
write at offset 0 makes both doorbell blocks of the partition due and changes nothing else, and at any other offset nothing (R371). The end
of a (CODE, SOURCE)'s millisecond: without a merged occurrence it closes; with some the merged record is delivered, and the millisecond
starts again (R390). -/
def Obligations.InterruptsAndMergedEvents : Prop :=
  ((∀ (s : State) (p q : Nat), p < 64 → q < 16 → (cqOf (partOf s.dev p) q).irqPending = true →
     fget s.dev (oCqCoal p q) fCqCoalCoalTime ≠ 0 → role s.dev ≠ roleFenced →
     let x := { cqOf (partOf s.dev p) q with since := 0, irqPending := false }
     let d := setPart p (setCq q x (partOf s.dev p)) s.dev
     exec (.interruptCoalTimeout p q) s = .next { s with dev := msixSend p (fget s.dev (oCqCtrl p q) fCqCtrlVector) d }) ∧
   (∀ (d : Device) (fn v : Nat),
     (msixSize d fn ≤ v → msixSend fn v d = d) ∧
     (v < msixSize d fn → bit 0 (rget d (msixMask fn v)).toNat = false → msixSend fn v d = { d with out := d.out ++ [.msix fn v] }) ∧
     (v < msixSize d fn → bit 0 (rget d (msixMask fn v)).toNat = true → Canonical d →
       (rget (msixSend fn v d) (msixPba fn v)).getLsbD (v % 32) = true ∧ (msixSend fn v d).out = d.out)) ∧
   ∀ (s : State) (fn off : Nat), fn < 64 →
     (off = 0 → exec (.wakeWrite fn off) s = .next { s with dev := setPart fn { partOf s.dev fn with pollDue := [0, 1] } s.dev }) ∧
     (off ≠ 0 → exec (.wakeWrite fn off) s = .next s)) ∧
  ∀ (s : State) (p code src : Nat) (o : EvRec), p < 64 →
    (partOf s.dev p).evOpen.find? (fun e => decide (e.code = code) && decide (e.source = src)) = some o →
    (o.count = 0 → exec (.eventMergeTimeout p code src) s =
      .next { s with dev := setPart p { partOf s.dev p with evOpen := (partOf s.dev p).evOpen.erase o } s.dev }) ∧
    (o.count ≠ 0 →
      let l := (partOf s.dev p).evOpen.map fun y => if y = o then { o with count := 0 } else y
      let d := evTrace o (evDeliver p o (setPart p { partOf s.dev p with evOpen := l } s.dev))
      exec (.eventMergeTimeout p code src) s = .next { s with dev := if evDurable o then d else evJournal o d })

/-- The poll of a doorbell block in which one submission ring is enabled and no other ring is on: its 64 bytes are read from host memory and it
is due no more (R373, R375). The pending count of R378, or of R393 in LEGACY7, announces so many entries when it is from 0 to N; any
other keeps what is announced and raises DOORBELL_INVALID. The ABORT bit that becomes 1 asks for an abort, unless one is in progress
(R386). Memory and commands stay. -/
def Obligations.DoorbellAnnouncesEntries : Prop :=
  ∀ (s : State) (p b i : Nat) (ws : List DWord), p < 64 → b < 2 → i < 8 → ws.length = 8 → Canonical s.dev → ringsServed s.dev p = true →
    sqEn s.dev p (8 * b + i) = true → (∀ j < 16, j ≠ 8 * b + i → sqEn s.dev p j = false) → (∀ j < 16, cqEn s.dev p j = false) →
    fbit s.dev (oEqCtrl p) fEqCtrlEnable = false → (partOf s.dev p).held = [] → (partOf s.dev p).evHeld = [] →
    let q := 8 * b + i
    let w := (ws.getD i 0).toNat
    let n : Nat := 2 ^ fget s.dev (oSqCtrl p q) fSqCtrlLog2size
    let g : Int := signed 16 (unsigned 16 ((bits 31 16 w : Int) - expGen s.dev p q))
    let k : Int := if sqLegacy s.dev p q then ((bits 15 0 w + 65536 - headOf s.dev p q) % 65536 : Nat)
      else g * n + bits 15 0 w - headOf s.dev p q
    let x := partOf s.dev p
    ∃ t, exec (.doorbellPoll p b ws) s = .next t ∧ t.pending = s.pending ∧ t.dev.mem = s.dev.mem ∧ t.dev.cmds = s.dev.cmds ∧
      t.dev.out = s.dev.out ++ [.hostRead (pair64 s.dev (oDbBaseLo p) (oDbBaseHi p) + 64 * b) 64] ∧
      (partOf t.dev p).pollDue = x.pollDue.erase b ∧ (ringOf (partOf t.dev p) q).stopped = false ∧
      (0 ≤ k → k ≤ n → (ringOf (partOf t.dev p) q).announced = k.toNat ∧ t.dev.regs = s.dev.regs) ∧
      ((k < 0 ∨ (n : Int) < k) → (ringOf (partOf t.dev p) q).announced = (ringOf x q).announced ∧
        ∃ o ∈ (partOf t.dev p).evOpen, o.code = 0x10 ∧ o.source = q) ∧
      (partOf t.dev p).abort =
        if bit 32 w = true ∧ (ringOf x q).abortBit = false ∧ x.abort = .none then .requested q 0 else x.abort

/-- A ring's next announced entry, in its turn, is read from SQ_BASE + 32 × its slot (R376, R381). A command list begins to be read, from host
memory by a read of its own or from device memory; an entry that is neither a list nor an abort is answered with an ENTRY_ERROR record and
passed; one of a wrong generation stops the ring until the next poll and is counted (R379, R380). The fetcher hands the next command of a
list to its queue while that has room for 64, the ring keeping its place until the last, which advances HEAD; a command without a queue
completes at once with MALFORMED (R308, R380, R611). -/
def Obligations.ListsAreFetched : Prop :=
  (∀ (s : State) (p q good : Nat) (e list : List Word) (x : Circ), p < 64 → q < 16 → e.length = 8 → Canonical s.dev → NoErrors x →
     (entryTurn s.dev p q = false → exec (.entryConsume p q e list good x) s = .next s) ∧
     (entryTurn s.dev p q = true →
       let d := askEntry p q (turnTo p q s.dev)
       d.out = s.dev.out ++ [.hostRead (pair64 s.dev (oSqBaseLo p q) (oSqBaseHi p q) + 32 * headSlot s.dev p q) 32] ∧
       (entryValid s.dev p q e = true → isListEntry (sqLegacy s.dev p q) e = true → (entryList s.dev e list good).1 ≠ [] →
         let l : ListRead := { slot := headSlot s.dev p q, words := (entryList s.dev e list good).1,
                               broken := !(entryList s.dev e list good).2, seq := 0 }
         let r := { ringOf (partOf s.dev p) q with reading := some l }
         let host := if ew e 2 16 16 = 0 then [.hostRead (listAddr e) (64 * ew e 2 15 0)] else []
         exec (.entryConsume p q e list good x) s =
           .next { s with dev := setPart p (setRing q r (partOf d p)) { d with out := d.out ++ host } }) ∧
       (entryValid s.dev p q e = true → isListEntry (sqLegacy s.dev p q) e = false → isAbortEntry (sqLegacy s.dev p q) e = false →
         cqRoom s.dev p (ringCq s.dev p q) = true →
         let r : Rec := { status := stMalformed, rtype := 1, sq := q, slot := headSlot s.dev p q }
         exec (.entryConsume p q e list good x) s = .next { s with dev := headAdvance p q (cqPost p (ringCq s.dev p q) r d) }) ∧
       (entryValid s.dev p q e = false →
         let d := setPart p (setRing q { ringOf (partOf s.dev p) q with stopped := true } (partOf d p)) d
         exec (.entryConsume p q e list good x) s = .next { s with dev := fsat (oStaleEntries p) fStaleEntriesStops 1 d }))) ∧
  ∀ (s : State) (p q : Nat) (l : ListRead) (ws rest : List Word) (bad : Bool), p < 64 → q < 16 →
    (ringOf (partOf s.dev p) q).reading = some l → dispatchOk s.dev p = true → s.dev.clk.power = .run →
    nextCommand (sqLegacy s.dev p q) (rget s.dev (oSqCtrl p q)).toNat l = some (ws, bad, rest) →
    let c := listCmd s.dev p q l ws bad
    let after (d : Device) : Device :=
      if rest = [] ∧ l.broken = false then headAdvance p q d
      else setPart p (setRing q { ringOf (partOf d p) q with reading := some { l with words := rest, seq := seqOf c } } (partOf d p)) d
    ((queueOf c).isSome = true → (s.dev.cmds.filter fun x => sameQueue x c).length < 64 →
      let d := after { s.dev with cmds := s.dev.cmds ++ [c], nextId := s.dev.nextId + 1 }
      exec (.dispatch p q) s = .next { s with dev := { d with clk := { d.clk with busyAt := d.clk.time } } }) ∧
    ((queueOf c).isSome = true → 64 ≤ (s.dev.cmds.filter fun x => sameQueue x c).length → exec (.dispatch p q) s = .next s) ∧
    (queueOf c = none →
      let c' := endedAs c { status := stMalformed }
      let w : State := { s with dev := after { s.dev with cmds := s.dev.cmds ++ [c'], nextId := s.dev.nextId + 1 } }
      exec (.dispatch p q) s = exec (.completionWrite c.id) w)

/-- What an abort that takes effect makes of a command of its partition: one that has not started ends as ABORTED; a NOP or a WAIT_TALLY ends
as its checks say, and else as ABORTED; any other that runs will stop (R271, R338, R342). -/
def abortedAs (d : Device) (pr : List (Nat × Nat)) (c : Cmd) : Cmd :=
  match c.phase with
  | .ended => c
  | .queued => endedAs c { status := stAborted }
  | .running =>
    if opOf c = 0x00 then endedAs c ((nopCheck d c).getD { status := stAborted })
    else if opOf c = 0x01 then endedAs c ((waitCheck d c).getD { status := stAborted })
    else if c.stop.isSome then c
    else { c with stop := some { status := stAborted, tilePos := if usesArrays c then 0 else tabGet 0 c.id pr } }

/-- An abort: the control entry, in its ring's turn, records the request with its ring and slot and advances HEAD, and is only passed while an
abort is in progress (R386, R380); once no command of the partition is left and its record can be posted, the acknowledgement is posted and
the abort is over (R339, R384, R388). Between, an abort takes effect, here with no list being read, no run awaited and no part of another
member: the commands of the partition end or stop, those of other partitions are as before (R338, R387). -/
def Obligations.AbortsTakeEffect : Prop :=
  ((∀ (s : State) (p q : Nat) (e : List Word), p < 64 → q < 16 → e.length = 8 → Canonical s.dev → entryTurn s.dev p q = true →
     isAbortEntry (sqLegacy s.dev p q) e = true → entryValid s.dev p q e = true →
     let d := askEntry p q (turnTo p q s.dev)
     ((partOf s.dev p).abort = .none →
       let x := { partOf d p with abort := .requested q (headSlot s.dev p q), aborted := 0, abortLate := false }
       exec (.abortEntry p q e) s = .next { s with dev := headAdvance p q (setPart p x d) }) ∧
     ((partOf s.dev p).abort ≠ .none → exec (.abortEntry p q e) s = .next { s with dev := headAdvance p q d })) ∧
   (∀ (s : State) (p q k : Nat), p < 64 → (partOf s.dev p).abort = .effective q k → (∀ c ∈ s.dev.cmds, c.part ≠ p) →
     cqRoom s.dev p (ringCq s.dev p q) = true →
     let x := partOf s.dev p
     let d := setPart p { x with abort := .none, aborted := 0, abortLate := false } s.dev
     let r : Rec := { flags := if x.abortLate then 2 else 0, rtype := 2, tilePos := x.aborted, sq := q, slot := k }
     exec (.abortAck p) s = .next { s with dev := cqPost p (ringCq d p q) r d }) ∧
   (∀ (s : State) (p : Nat), p < 64 → (∃ c ∈ s.dev.cmds, c.part = p) → exec (.abortAck p) s = .next s)) ∧
  ∀ (s : State) (p q k : Nat) (pr : List (Nat × Nat)) (x : Circ), p < 64 → Canonical s.dev → NoErrors x →
    (partOf s.dev p).abort = .requested q k → (∀ r < 16, (ringOf (partOf s.dev p) r).reading = none) → (s.dev.cmds.map (·.id)).Nodup →
    (∀ c ∈ s.dev.cmds, c.part = p → c.phase = .running → 0x02 ≤ opOf c → c.runs = [] ∧ c.shared = []) →
    ∃ t, exec (.abortTakesEffect p pr [] x) s = .next t ∧ t.pending = s.pending ∧
      t.dev.cmds = s.dev.cmds.map (fun c => if c.part = p then abortedAs s.dev pr c else c) ∧
      (partOf t.dev p).abort = .effective q k ∧ t.dev.mem = s.dev.mem ∧ t.dev.regs = s.dev.regs ∧ t.dev.arrs = s.dev.arrs

/-! ## Partitions, resets and the host -/

/-- What a reset of partition p leaves: rings, order events and held records gone, its registers at their reset values, every byte of its
arrays' stores and of its bands' stores 0 with the clearing under way, no kept accumulation in its arrays, and other partitions, commands
and HBM as before. -/
def PartitionCleared (s t : State) (p : Nat) : Prop :=
  t.pending = s.pending ∧ t.dev.cmds = s.dev.cmds ∧ (partOf t.dev p).rings = [] ∧ (partOf t.dev p).cqs = [] ∧
  (partOf t.dev p).held = [] ∧ (partOf t.dev p).abort = .none ∧ (∀ e < 64, rget t.dev (oEvent p e) = 0) ∧
  (∀ off, partRegs s.dev p off = true → rget t.dev off = rst s.dev off) ∧
  (∀ q < 16, sqEn t.dev p q = false ∧ cqEn t.dev p q = false) ∧ (∀ p', p' ≠ p → partOf t.dev p' = partOf s.dev p') ∧
  (∀ p' < 64, p' ≠ p → ∀ e < 64, rget t.dev (oEvent p' e) = rget s.dev (oEvent p' e)) ∧
  (∀ a < 192, inMask s.dev p a = true → a ∈ (partOf t.dev p).clrArrays ∧ (arrOf t.dev a).kept = none ∧
    (∀ o < 0x300000, byteAt t.dev (rowAddr a o) = 0) ∧ ∀ o < 0x40000, byteAt t.dev (wordAddr a o) = 0) ∧
  (∀ b < 12, bandOwner s.dev b = p → b ∈ (partOf t.dev p).clrBands ∧ ∀ o < 0x2000000, byteAt t.dev (bandAddr b o) = 0) ∧
  ∀ l, isHbm l = true → byteAt t.dev l = byteAt s.dev l

/-- A partition reset ends with the partition's rings, order events and registers at their reset values and its stores being cleared; so does
a Function Level Reset, which also restores the function's MSI-X structures, with, for the physical function, no virtual function enabled
(R254, R368, R565); other partitions and the commands that run are as before (that running commands are left to run is DEDUCED, log 46). -/
def Obligations.PartitionResetRestores : Prop :=
  ∀ (s : State) (p : Nat), p < 64 → Canonical s.dev →
    (∃ t, exec (.partReset p) s = .next t ∧ PartitionCleared s t p ∧ t.dev.pcie = s.dev.pcie) ∧
    ∃ t, exec (.functionLevelReset p) s = .next t ∧ PartitionCleared s t p ∧
      (∀ off, msixRegs p off = true → rget t.dev off = rst s.dev off) ∧
      t.dev.pcie = { s.dev.pcie with vfEnable := if p = 0 then false else s.dev.pcie.vfEnable }

/-- BAR4: a request inside HBM or a scratch store reads its bytes or stores them, and one outside, or beyond BAR4's size, completes as
Unsupported Request and changes nothing (R369, R370). One that reaches a store which is being cleared or substituted waits (R254, R453). -/
def Obligations.Bar4ReachesMemory : Prop :=
  ∀ (s : State) (off len : Nat) (bs : List Byte) (x : Circ), Canonical s.dev → s.dev.merr.parity = [] → s.dev.merr.poison = [] →
    s.dev.clk.power = .run → NoErrors x →
    let l := fget s.dev (oWinBase 0) fWinBaseBase * 2 ^ 30 + off
    (heldRange s.dev l len = false →
      (rangeMapped l len = false ∨ len = 0 ∨ inBar4 s.dev off len = false →
        exec (.bar4Access (.read off len) x) s = .next { s with dev := emit .unsupported s.dev }) ∧
      (rangeMapped l len = true → 0 < len → inBar4 s.dev off len = true →
        ∃ t, exec (.bar4Access (.read off len) x) s = .next t ∧ t.pending = s.pending ∧
        t.dev.out = s.dev.out ++ [.readData (bytesAt s.dev l len) false] ∧ t.dev.mem = s.dev.mem ∧ t.dev.cmds = s.dev.cmds)) ∧
    (heldRange s.dev l bs.length = false →
      (rangeMapped l bs.length = false ∨ bs = [] ∨ inBar4 s.dev off bs.length = false →
        exec (.bar4Access (.write off bs) x) s = .next { s with dev := emit .unsupported s.dev }) ∧
      (rangeMapped l bs.length = true → bs ≠ [] → inBar4 s.dev off bs.length = true → (isHbm l = false ∨ PlainHbm s.dev) →
        ∃ t, exec (.bar4Access (.write off bs) x) s = .next t ∧ t.pending = s.pending ∧ t.dev.out = s.dev.out ∧
        t.dev.cmds = s.dev.cmds ∧ bytesAt t.dev l bs.length = bs ∧
        ∀ l', mapped l' = true → (l' < l ∨ l + bs.length ≤ l') → SameByte s.dev t.dev l')) ∧
    ∀ r, bar4Held r s.dev = true →
      let d := { s.dev with waiting := s.dev.waiting ++ [.bar4 r x], clk := { s.dev.clk with busyAt := s.dev.clk.time } }
      exec (.bar4Access r x) s = .next { s with dev := d }

/-- A configuration request is answered normally while the main dies run or start-up waits for an image, and VF Enable and the size of BAR4 are
then held; it is answered with the retry status in every other power state, and not at all while the controller is held in reset (R367, R369,
R372, R570, R571). The end of link training records rate and width, and raises LINK_DEGRADED at 8 GT/s and below or at any width below x16
(R367). The domain number is written once: bits [11:4] of the first write are stored and DOMAIN_SET becomes 1, and later writes change
nothing (R26). -/
def Obligations.HostSetsUpDevice : Prop :=
  ((∀ (s : State), s.dev.pcie.held = false →
     (s.dev.clk.power ∈ [.run, .idle, .standby, .awaitImage] →
       exec (.configRequest .other) s = .next { s with dev := emit .cfgOk s.dev } ∧
       (∀ on, exec (.configRequest (.vfEnable on)) s =
         .next { s with dev := emit .cfgOk { s.dev with pcie := { s.dev.pcie with vfEnable := on } } }) ∧
       ∀ k ≤ 6, exec (.configRequest (.bar4Size k)) s =
         .next { s with dev := emit .cfgOk { s.dev with pcie := { s.dev.pcie with bar4 := k } } }) ∧
     (s.dev.clk.power ∉ [.run, .idle, .standby, .awaitImage] → ∀ r : CfgReq, (∀ k, r = .bar4Size k → k ≤ 6) →
       exec (.configRequest r) s = .next { s with dev := emit .cfgRetry s.dev })) ∧
   (∀ (s : State) (r : CfgReq), (∀ k, r = .bar4Size k → k ≤ 6) → s.dev.pcie.held = true → exec (.configRequest r) s = .next s) ∧
   ∀ (s : State) (r w : Nat), r ∈ [2, 5, 8, 16, 32, 64] → w ∈ [1, 2, 4, 8, 16] →
     let d := { s.dev with pcie := { s.dev.pcie with rate := r, width := w } }
     (8 < r → w = 16 → exec (.pcieLinkTraining r w) s = .next { s with dev := d }) ∧
     (r ≤ 8 ∨ w < 16 → exec (.pcieLinkTraining r w) s = .next { s with dev := raiseDev 0x0012 0 r w d })) ∧
  ∀ (s : State) (v : Word),
    (fbit s.dev oDeviceId fDeviceIdDomainSet = true → exec (.domainWrite v) s = .next s) ∧
    (fbit s.dev oDeviceId fDeviceIdDomainSet = false → Canonical s.dev →
      ∃ t, exec (.domainWrite v) s = .next t ∧ fget t.dev oDeviceId fDeviceIdDomain = bits 11 4 v.toNat ∧
        fbit t.dev oDeviceId fDeviceIdDomainSet = true ∧ fget t.dev oDeviceId fDeviceIdSlot = fget s.dev oDeviceId fDeviceIdSlot ∧
        ∃ w, t = { s with dev := rput oDeviceId w s.dev })

/-- Enabling a partition whose mask overlaps no other, holds no retired array, and none of whose stores is being cleared sets ENABLE and
journals the change; one that overlaps or holds a retired array sets OVERLAP_ERR and stays disabled; one whose stores are being cleared
waits for that (R44, R45, R54, R254, R604). Disabling waits for BUSY, and an enable before it takes effect withdraws it (R45); a disable
withdraws an enable that waits (R254). -/
def Obligations.PartitionEnableRules : Prop :=
  ∀ (s : State) (p : Nat), p < 64 →
    (partEn s.dev p = false → overlaps s.dev p = true ∨ holdsRetired s.dev p = true →
      let d := setPart p { partOf s.dev p with enabling := false } s.dev
      exec (.partitionEnable p) s = .next { s with dev := fput (oPartCtrl p) fPartCtrlOverlapErr 1 d }) ∧
    (partEn s.dev p = false → overlaps s.dev p = false → holdsRetired s.dev p = false → clearingFor s.dev p = false →
      let d := fput (oPartCtrl p) fPartCtrlEnable 1 (setPart p { partOf s.dev p with enabling := false } s.dev)
      exec (.partitionEnable p) s =
        .next { s with dev := journalConfig 0x8000 (oPartCtrl p - 0x8000) (rget s.dev (oPartCtrl p)) (rget d (oPartCtrl p)) d }) ∧
    (partEn s.dev p = false → overlaps s.dev p = false → holdsRetired s.dev p = false → clearingFor s.dev p = true →
      exec (.partitionEnable p) s = .next { s with dev := setPart p { partOf s.dev p with enabling := true } s.dev }) ∧
    (partEn s.dev p = true →
      exec (.partitionEnable p) s = .next { s with dev := setPart p { partOf s.dev p with disabling := false } s.dev }) ∧
    (partEn s.dev p = true → partBusy s.dev p = true →
      let d := setPart p { partOf s.dev p with disabling := true } s.dev
      exec (.partitionDisable p) s = .next { s with dev := d }) ∧
    (partEn s.dev p = true → partBusy s.dev p = false →
      let d := setPart p { partOf s.dev p with disabling := true } s.dev
      exec (.partitionDisable p) s = exec (.partitionDisableEffect p) { s with dev := d }) ∧
    (partEn s.dev p = false →
      exec (.partitionDisable p) s = .next { s with dev := setPart p { partOf s.dev p with enabling := false } s.dev })

/-- A disable that takes effect, BUSY being 0: ENABLE reads 0, every byte of the partition's row, word and band stores reads 0, the clearing
is under way, and HBM and other partitions' records are unchanged; while BUSY is 1, or with no disable pending, nothing happens (R45, R254).
The end of the clearing ends it: with nothing waiting nothing else changes, the one BAR4 access that waits is served, and the one enable that
waits is tried again (R254). -/
def Obligations.DisableClearsStores : Prop :=
  (∀ (s : State) (p : Nat), p < 64 → Canonical s.dev →
    ((partOf s.dev p).disabling = true → partBusy s.dev p = false →
      ∃ t, exec (.partitionDisableEffect p) s = .next t ∧ t.pending = s.pending ∧ t.dev.cmds = s.dev.cmds ∧
        partEn t.dev p = false ∧ (partOf t.dev p).disabling = false ∧
        (∀ a < 192, inMask s.dev p a = true → a ∈ (partOf t.dev p).clrArrays ∧ (∀ o < 0x300000, byteAt t.dev (rowAddr a o) = 0) ∧
          ∀ o < 0x40000, byteAt t.dev (wordAddr a o) = 0) ∧
        (∀ b < 12, bandOwner s.dev b = p → b ∈ (partOf t.dev p).clrBands ∧ ∀ o < 0x2000000, byteAt t.dev (bandAddr b o) = 0) ∧
        (∀ l, isHbm l = true → byteAt t.dev l = byteAt s.dev l) ∧ ∀ p', p' ≠ p → partOf t.dev p' = partOf s.dev p') ∧
    ((partOf s.dev p).disabling = false ∨ partBusy s.dev p = true → exec (.partitionDisableEffect p) s = .next s)) ∧
  ∀ (s : State) (p : Nat), p < 64 → Canonical s.dev →
    let d := setPart p { partOf s.dev p with clrArrays := [], clrBands := [] } s.dev
    (s.dev.waiting = [] → (∀ o < 64, (partOf s.dev o).enabling = false) → exec (.storeClearDone p) s = .next { s with dev := d }) ∧
    (∀ r x, s.dev.waiting = [.bar4 r x] → NoErrors x → (∀ o < 64, (partOf s.dev o).enabling = false) →
      exec (.storeClearDone p) s = exec (.bar4Access r x) { s with dev := { d with waiting := [] } }) ∧
    ∀ k < 64, s.dev.waiting = [] → (∀ o < 64, (partOf s.dev o).enabling = decide (o = k)) →
      exec (.storeClearDone p) s = exec (.partitionEnable k) { s with dev := d }

/-- A register write of 4 bytes with every byte enabled (R12, R600): SLEEP_TIMER holds what is written and nothing else changes;
ENC_SCALE does too, and a change of it is journalled as CONFIG (R604). A write that covers no whole register changes nothing. A read of
TIME_LO returns it and captures the high word, which the next read of TIME_HI returns (R523). Past its two pages a virtual function's BAR0
reads 0, and so does a wake page (R371, R599). A face read shows an array's own counter, the sum over the arrays of a quad, and over the dies
of the device, for the domain with the other devices' (R20, R21; that the read gives the exact sum is DESIGN CHOICE, log 82). -/
def Obligations.RegisterAccess : Prop :=
  (∀ (s : State) (v : Word), s.dev.clk.power = .run →
    exec (.registerWrite 0 oSleepTimer ((leBytes 4 v.toNat).map some)) s = .next { s with dev := rput oSleepTimer v s.dev }) ∧
  (∀ (s : State) (e : Nat) (v : Word), e < 2 → s.dev.clk.power = .run → rget s.dev (oEncScale e) ≠ v →
    let d := journalConfig 0x2000 (oEncScale e - 0x2000) (rget s.dev (oEncScale e)) v (rput (oEncScale e) v s.dev)
    exec (.registerWrite 0 (oEncScale e) ((leBytes 4 v.toNat).map some)) s = .next { s with dev := d }) ∧
  (∀ (s : State) (off : Nat) (b : Byte), off < 0x1000000 → exec (.registerWrite 0 off [some b]) s = .next s) ∧
  (∀ (s : State), tabGet 0 oTimeLo s.dev.frz.high = 0 →
    let f := { s.dev.frz with high := tabSet 0 oTimeHi (s.dev.clk.time / 2 ^ 32 % 2 ^ 32 + 1) s.dev.frz.high }
    exec (.lowWordRead (.reg 0 oTimeLo 4)) s =
      .next { s with dev := emit (.regData (leBytes 4 (s.dev.clk.time % 2 ^ 32))) { s.dev with frz := f } }) ∧
  (∀ (s : State) (n : Nat), n < 2 ^ 32 → tabGet 0 oTimeHi s.dev.frz.high = n + 1 →
    let f := { s.dev.frz with high := tabSet 0 oTimeHi 0 s.dev.frz.high }
    exec (.lowWordRead (.reg 0 oTimeHi 4)) s = .next { s with dev := emit (.regData (leBytes 4 n)) { s.dev with frz := f } }) ∧
  (∀ (s : State) (fn w : Nat), 0 < fn → fn < 64 → 0x480 ≤ w → w < 0x1000 →
    exec (.lowWordRead (.reg fn (4 * w) 4)) s = .next { s with dev := emit (.regData [0, 0, 0, 0]) s.dev }) ∧
  (∀ (s : State) (fn off len : Nat), fn < 64 → 1 ≤ len → len ≤ 8 → off + len ≤ 0x1000 →
    exec (.lowWordRead (.wake fn off len)) s = .next { s with dev := emit (.regData (List.replicate len 0)) s.dev }) ∧
  ∀ (s : State) (k : FaceCtr) (others : List Nat), (∀ n, k = .prog n → n < 6) →
    (∀ die < 4, ∀ band < 3, ∀ quad < 4, ∀ e < 4,
      let m := 64 * die + 16 * band + 4 * quad
      let a := 48 * die + 16 * band + 4 * quad
      exec (.lowWordRead (.face (m + e) false k others)) s = .next { s with dev := emit (.count (arrFace s.dev k (a + e))) s.dev } ∧
      exec (.lowWordRead (.face (0x2000 + m) false k others)) s =
        .next { s with dev := emit (.count ((List.range 4).map fun j => arrFace s.dev k (a + j)).sum) s.dev }) ∧
    ∀ domain, exec (.lowWordRead (.face 0x8000 domain k others)) s =
      .next { s with dev := emit (.count (((List.range 4).map fun j => unitFace s.dev k (12 + j)).sum + if domain then others.sum else 0)) s.dev }

/-! ## Scale channels and arrays -/

/-- SC_CTRL written with ENABLE from 0 to 1 initialises the channel: its 16 history entries take INIT_MAX, CUR_MAX, CLIPPED, the event
counts and the under-use run become 0, no step is open; nothing else changes. Any other write changes SC_CTRL alone; a POLICY of 3 leaves
that field (R12, R141, R142). -/
def Obligations.ScaleChannelInitialised : Prop :=
  ∀ (s : State) (ch : Nat) (v : Word), ch < 1024 → Canonical s.dev →
    let pol := if bits 2 1 v.toNat = 3 then fget s.dev (oScCtrl ch) fScCtrlPolicy else bits 2 1 v.toNat
    let w := BitVec.ofNat 32 (setBits 2 1 pol (bits 16 0 v.toNat))
    (bit 0 v.toNat = true → fbit s.dev (oScCtrl ch) fScCtrlEnable = false →
      ∃ r x, exec (.scEnable ch v) s = .next { s with dev := { s.dev with regs := r, scs := x } } ∧
        (let d := { s.dev with regs := r, scs := x }
         rget d (oScCtrl ch) = w ∧ (∀ k < 16, scHist d ch k = fget s.dev (oScInit ch) fScInitInitMax) ∧
         fget d (oScState ch) fScStateCurMax = 0 ∧ rget d (oScClipped ch) = 0 ∧ rget d (oScEvents ch) = 0 ∧
         fget d (oScStatus ch) fScStatusUnderRun = 0 ∧ scOf d ch = {} ∧ (∀ k, k ≠ ch → scOf d k = scOf s.dev k) ∧
         ∀ off, off < oScCtrl ch ∨ oScCtrl (ch + 1) ≤ off → rget d off = rget s.dev off)) ∧
    (bit 0 v.toNat = false ∨ fbit s.dev (oScCtrl ch) fScCtrlEnable = true →
      exec (.scEnable ch v) s = .next { s with dev := rput (oScCtrl ch) w s.dev })

/-- Faults of an array. With a spare left on its die, or a substitution ahead of it there, a fault makes it wait and lose its kept accumulation;
a failed idle test of an array that no command holds does the same, and a passed test changes nothing (R451, R452, R454, R455). The spare
then serves the array that is first in turn, with SPARE_MAPPED, the spare that failed under it losing VALID; with no spare left the array is
retired, with ARRAY_RETIRED (R53, R606). The first control processor of a die that fails its watchdog is replaced by the die's spare, with a
PROCESSOR record: its ACTIVE bit clears and the spare's sets (R456, R457). That VALID clears in that step is DESIGN CHOICE (log 78). -/
def Obligations.SparesTakeOver : Prop :=
  ((∀ (s : State) (a pr : Nat) (kind : FaultKind), a < 192 → (arrOf s.dev a).failing = false → avail s.dev a = true →
     ((freeSpare s.dev (dieOf a)).isSome = true ∨ (substNow s.dev (dieOf a)).isSome = true) →
     (∃ t, exec (.arrayFault a kind pr) s = .next t ∧ t.pending = s.pending ∧ (arrOf t.dev a).failing = true ∧ (arrOf t.dev a).kept = none ∧
       t.dev.subst = s.dev.subst ++ [a] ∧ (∀ b, b ≠ a → arrOf t.dev b = arrOf s.dev b) ∧ t.dev.regs = s.dev.regs ∧ t.dev.mem = s.dev.mem ∧
       t.dev.cmds = s.dev.cmds ∧ t.dev.out = s.dev.out) ∧
     ((arrOf s.dev a).prog = none → arrayHeld s.dev a = false →
       let x := { arrOf s.dev a with failing := true, kept := none }
       let w : State := { s with dev := setArr a x { s.dev with subst := s.dev.subst ++ [a] } }
       exec (.arrayFault a kind pr) s = .next w ∧ exec (.idleTest a false) s = .next w)) ∧
   (∀ (s : State) (a : Nat), a < 192 → exec (.idleTest a true) s = .next s) ∧
   (∀ (s : State) (a n : Nat), a < 192 → (arrOf s.dev a).failing = true → substNow s.dev (dieOf a) = some a → s.dev.waiting = [] →
     freeSpare s.dev (dieOf a) = some n →
     let d := setArr a { arrOf s.dev a with failing := false } { s.dev with subst := s.dev.subst.erase a }
     exec (.spareMapped a) s = .next { s with dev := raiseArray 0x0006 a n (spareMapIn a n d) }) ∧
   (∀ (s : State) (a : Nat) (kind : FaultKind) (pr : Nat), a < 192 → (arrOf s.dev a).failing = false → avail s.dev a = true →
     (arrOf s.dev a).prog = none → arrayHeld s.dev a = false → freeSpare s.dev (dieOf a) = none → substNow s.dev (dieOf a) = none →
     let d := setArr a { arrOf s.dev a with failing := false } { s.dev with subst := s.dev.subst.erase a }
     exec (.arrayFault a kind pr) s = .next { s with dev := raiseArray 0x8001 a 0 (retireArray a d) }) ∧
   (∀ (d : Device) (a n : Nat), Canonical d → a < 192 → n < 4 →
     fget (spareMapIn a n d) (oSpareMap (a / 48) n) fSpareMapLogical = a % 48 ∧
     fbit (spareMapIn a n d) (oSpareMap (a / 48) n) fSpareMapValid = true ∧
     fbit (spareMapIn a n d) (oSpareMap (a / 48) n) fSpareMapFailed = false ∧ avail (spareMapIn a n d) a = avail d a ∧
     ∀ m, spareOf d a = some m → m ≠ n →
       fbit (spareMapIn a n d) (oSpareMap (a / 48) m) fSpareMapValid = false ∧
       fbit (spareMapIn a n d) (oSpareMap (a / 48) m) fSpareMapFailed = true) ∧
   ∀ (d : Device) (a b : Nat), Canonical d → a < 192 → b < 192 → avail (retireArray a d) b = (avail d b && decide (b ≠ a))) ∧
  ∀ (s : State) (k n : Nat), k < 5 → n < 3 → Canonical s.dev → bit n (fget s.dev (oCpStatus k) fCpStatusActive) = true →
    bit 3 (fget s.dev (oCpStatus k) fCpStatusActive) = false → fbit s.dev (oCpStatus k) fCpStatusSpareUsed = false →
    ∃ d, exec (.processorFault k n) s = .next { s with dev := journal 0x0014 (leBytes 4 k ++ leBytes 2 n ++ leBytes 2 3) d } ∧
      (∃ w, d = rput (oCpStatus k) w s.dev) ∧ fbit d (oCpStatus k) fCpStatusSpareUsed = true ∧
      fget d (oCpStatus k) fCpStatusActive = fget s.dev (oCpStatus k) fCpStatusActive - 2 ^ n + 8

/-- The steps of an array in a running MATMUL whose stores answer (R453). The first tile start admits a command whose checks pass (R301); the
others start the next tile group (R168). A pass whose data has no fault swaps the weight latches, is driven, and leaves the next pass's load,
or the next group's first, in the shadow latches; it stores nothing (R76). A segment that ends swaps the accumulator sets, after which the
drain is under way (R80). An intermediate drain puts its sums in the promotion buffer, the final drain of a member of a chain in the chain
slot (R164, R171); any other final drain completes the group's tiles (R37). -/
def Obligations.ArraySteps : Prop :=
  (∀ (s : State) (a : Nat) (c : Cmd), a < 192 →
    (s.dev.cmds.find? fun c => decide (c.phase = .running) && decide (opOf c = 0x10) && !waitsDump c && !c.admitted && !domainOf c &&
      (motifList (targetOf c)).contains a) = some c →
    matmulCheck s.dev c = none → mReal c ≠ 0 → stepFree s.dev c = true →
    ∃ t c', exec (.tileStart a) s = .next t ∧ t.pending = s.pending ∧ cmdOf t.dev c.id = some c' ∧ c'.admitted = true ∧
      t.dev.pins = s.dev.pins ∧ t.dev.clk = s.dev.clk) ∧
  ∀ (s : State) (a : Nat) (c : Cmd) (ss : List Share) (sh : Share) (p : Prog), a < 192 →
    (∀ x ∈ s.dev.cmds, opOf x = 0x10 → x.admitted = true) → jobAt s.dev a = some (c, ss, sh, p) →
    (p.closed = true → p.next < groupsOf c sh →
      ∃ t q, exec (.tileStart a) s = .next t ∧ t.pending = s.pending ∧ (arrOf t.dev a).prog = some q ∧ q.id = p.id ∧ q.group = p.next ∧
        q.closed = false ∧ (∀ b, b ≠ a → arrOf t.dev b = arrOf s.dev b) ∧ t.dev.mem = s.dev.mem ∧ t.dev.out = s.dev.out ∧
        SameOutside s.dev t.dev) ∧
    (∀ q, p.closed = false → p.seg < interval c → p.passes[p.pass]? = some q → feedFaults s.dev c a sh p.group p.snap q = [] →
      (∀ r, p.passes[p.pass + 1]? = some r → (loadOf s.dev c a sh p.group p.snap r).2.2 = []) →
      let later := if p.pass + 1 < p.passes.length then none else loadAhead s.dev c sh p
      ∃ t, exec (.weightSwap a) s = .next t ∧ t.pending = s.pending ∧ (arrOf t.dev a).latch = (arrOf s.dev a).latchShadow ∧
        (arrOf t.dev a).active = (drivePass s.dev c a sh p.group p.taps p.snap (arrOf s.dev a).latchShadow q (arrOf s.dev a).active).1 ∧
        (arrOf t.dev a).prog = some { p with pass := p.pass + 1, seg := p.seg + 1, ahead := later.map fun y => y.2.2 } ∧
        (∀ r, p.passes[p.pass + 1]? = some r → (arrOf t.dev a).latchShadow = latched (loadOf s.dev c a sh p.group p.snap r).1 []) ∧
        (p.passes[p.pass + 1]? = none → ∀ y, later = some y → (arrOf t.dev a).latchShadow = latched y.1 y.2.2) ∧
        (∀ b, b ≠ a → arrOf t.dev b = arrOf s.dev b) ∧ t.dev.mem = s.dev.mem ∧ t.dev.cmds = s.dev.cmds ∧ t.dev.out = s.dev.out ∧
        SameOutside s.dev t.dev) ∧
    (segmentEnds c p = true →
      let fin := decide (p.passes.length ≤ p.pass)
      let dr : Drain := { group := p.group, fin := fin, mask := p.mask, tags := p.tags, snap := p.snap, fetch := p.fetch, div := p.div }
      let p' : Prog := { p with seg := 0, segs := p.segs + 1, mask := if fin then p.mask else (p.mask + 1) % 65536, closed := fin,
                                drain := some dr }
      let x := { arrOf s.dev a with active := {}, shadow := (arrOf s.dev a).active, prog := some p' }
      exec (.segmentSwap a) s = .next { s with dev := setArr a x s.dev }) ∧
    ∀ dr st, p.drain = some dr → s.dev.merr.parity = [] →
      let sums := (drainSums s.dev c a sh dr (arrOf s.dev a).shadow).1
      (dr.fin = false →
        ∃ t, exec (.drainEnd a st) s = .next t ∧ t.pending = s.pending ∧ (arrOf t.dev a).shadow = {} ∧
          (arrOf t.dev a).prog = some { p with drain := none } ∧ (∀ b, b ≠ a → arrOf t.dev b = arrOf s.dev b) ∧
          t.dev.mem = (applyWrites a (slotWrites c (freeLevel dr.mask) sums) s.dev).mem ∧
          t.dev.cmds = s.dev.cmds ∧ t.dev.out = s.dev.out ∧ SameOutside s.dev t.dev) ∧
      (dr.fin = true → inChain c sh = true → p.slot = none → (∃ h ∈ (chainHops ss sh).1, ∀ k ∈ c.hops, (allHops ss)[k]? ≠ some h) →
        ∃ t, exec (.drainEnd a st) s = .next t ∧ t.pending = s.pending ∧ (arrOf t.dev a).shadow = {} ∧
          (arrOf t.dev a).prog = some { p with drain := none, slot := some dr } ∧ (∀ b, b ≠ a → arrOf t.dev b = arrOf s.dev b) ∧
          t.dev.mem = (applyWrites a (slotWrites c (chainLevel c sh) sums) s.dev).mem ∧
          t.dev.cmds = s.dev.cmds ∧ t.dev.out = s.dev.out ∧ SameOutside s.dev t.dev) ∧
      (dr.fin = true → inChain c sh = false → Rising s.dev.tiles →
        ∃ t, exec (.drainEnd a st) s = .next t ∧ t.pending = s.pending ∧ (arrOf t.dev a).shadow = {} ∧
          (arrOf t.dev a).prog = some { p with drain := none } ∧ (∀ b, b ≠ a → arrOf t.dev b = arrOf s.dev b) ∧
          tabGet 0 a t.dev.tiles = (tabGet 0 a s.dev.tiles + (groupTiles c sh dr.group).length) % 2 ^ 32 ∧ t.dev.out = s.dev.out)

/-- A hop of a chain that has more hops to make: the receiver's element of the chain slot becomes the sum of both members' elements,
the sender's slot is free, and the hop is noted (R171, R172). -/
def Obligations.ChainHopAddsPartials : Prop :=
  ∀ (s : State) (id m : Nat) (c : Cmd) (sx sy : Share) (dr : Drain) (px py : Prog), Runs s.dev id 0x10 c → s.dev.merr.parity = [] →
    hopReady s.dev c (shares s.dev c) m = some (sx, sy, dr, px, py) →
    (∃ h ∈ (chainHops (shares s.dev c) sy).1, ∀ k, (allHops (shares s.dev c))[k]? = some h → k ≠ m ∧ k ∉ c.hops) →
    let xs := (cellsOf c sy dr.group).map fun k =>
      (k, (addFull (mFp c) (evOf c) (slotGet s.dev c sx.arr (chainLevel c sx) k.1 k.2) (slotGet s.dev c sy.arr (chainLevel c sy) k.1 k.2)).1)
    ∃ t, exec (.chainHop id m) s = .next t ∧ t.pending = s.pending ∧
      t.dev.mem = (applyWrites sy.arr (slotWrites c (chainLevel c sy) xs) s.dev).mem ∧
      (arrOf t.dev sx.arr).prog = some { px with slot := none } ∧ (∀ b, b ≠ sx.arr → arrOf t.dev b = arrOf s.dev b) ∧
      t.dev.cmds = (setCmd { c with hops := c.hops ++ [m] } s.dev).cmds ∧ t.dev.out = s.dev.out ∧ SameOutside s.dev t.dev

/-- The oldest line of a scatter bank retires: its additions are made in the band store in order, each clipped to 32 bits; the line
leaves its queue, and every other byte and queue is unchanged (R162, R223). A tally that is due advances by 1, modulo 2^32, and is due no
more, once its array's stores answer, and not before; every other byte is unchanged (R254, R268, R453). The waits for a bank and the reads
that meet a write, which a step reports (log 77), are counted (R256, R257, R259, R262). -/
def Obligations.BanksAndTallies : Prop :=
  (∀ (s : State) (b k e : Nat) (z : Int) (x : ScatLine) (r : List ScatLine), b < 12 → k < 64 → Canonical s.dev → Rising s.dev.scat →
    s.dev.merr.parity = [] → s.dev.merr.poison = [] → bankOf s.dev b k = x :: r → x.adds = [(e, z)] → e < 16 → x.line < 0x80000 →
    let l := bandAddr b (64 * x.line) + 4 * e
    ∃ t, exec (.scatterRetire b k) s = .next t ∧ t.pending = s.pending ∧ bankOf t.dev b k = r ∧
      (∀ b' k', b' < 12 → k' < 64 → ¬(b' = b ∧ k' = k) → bankOf t.dev b' k' = bankOf s.dev b' k') ∧
      signed 32 (leNat (bytesAt t.dev l 4)) = clip (-2147483648) 2147483647 (signed 32 (leNat (bytesAt s.dev l 4)) + z) ∧
      (∀ l', mapped l' = true → (l' < l ∨ l + 4 ≤ l') → SameByte s.dev t.dev l') ∧
      t.dev.cmds = s.dev.cmds ∧ t.dev.arrs = s.dev.arrs ∧ t.dev.out = s.dev.out ∧ SameOutside s.dev t.dev) ∧
  (∀ (s : State) (a n : Nat), a < 192 → n < 64 → Canonical s.dev → s.dev.merr.parity = [] → s.dev.merr.poison = [] →
    n ∈ (arrOf s.dev a).held →
    let l := wordAddr a (4 * (65472 + n))
    (heldArray s.dev a = false →
      ∃ t, exec (.tallyIncrement a n) s = .next t ∧ t.pending = s.pending ∧
        leNat (bytesAt t.dev l 4) = (leNat (bytesAt s.dev l 4) + 1) % 2 ^ 32 ∧
        arrOf t.dev a = { arrOf s.dev a with held := (arrOf s.dev a).held.erase n } ∧
        (∀ l', mapped l' = true → (l' < l ∨ l + 4 ≤ l') → SameByte s.dev t.dev l') ∧
        t.dev.cmds = s.dev.cmds ∧ t.dev.out = s.dev.out ∧ SameOutside s.dev t.dev) ∧
    (heldArray s.dev a = true → exec (.tallyIncrement a n) s = .next s)) ∧
  ∀ (d : Device) (p a b n : Nat), a < 192 → b < 12 →
    applyCirc p { rowWaits := [(a, n)] } d = fsat (oRowRetry a) fRowRetryRetries n d ∧
    applyCirc p { wordWaits := [(a, n)] } d = fsat (oWordRetry a) fWordRetryRetries n d ∧
    applyCirc p { bandWaits := [(b, n)] } d = fsat (oBandRetry b) fBandRetryRetries n d ∧
    applyCirc p { collisions := [(a, n)] } d = fsat (oRowCollision a) fRowCollisionCollisions n d

/-! ## Remote access and links -/

/-- The first packet of a remote transfer: with an aligned range that the partition owns and a source that may reach it the transfer is
accepted, and otherwise REFUSED is sent back; in RUN the quiet time restarts, and nothing else changes (R263, R429, R561). A COPY to another
device at its issuer: VISIBLE for a run takes it off the runs that are pending, and the last one ends the command as its work ended (R312, R431);
a run without a route for HY_TIMEOUT ends it with REMOTE, naming the first pending run (R432), and REFUSED ends it with PERMISSION (R429).
Without a route to a member, a collective will stop with REMOTE, and a domain MATMUL ends so when no other part is awaited, and else stops
the others, DETAIL naming the slot (R49). -/
def Obligations.RemoteTransfersAnswered : Prop :=
  (∀ (s : State) (r : RemReq), r.src < 4096 → r.part < 64 → s.dev.clk.power = .run →
     let ok := !sideBad r.lo (r.hi + 1 - r.lo) && rangeOwned s.dev r.part r.lo r.hi && sourceOk s.dev r.part r.src
     let d := { s.dev with clk := { s.dev.clk with busyAt := s.dev.clk.time } }
     (ok = true → exec (.remoteRequest r) s = .next { s with dev := { d with rem := { d.rem with accepted := d.rem.accepted ++ [r] } } }) ∧
     (ok = false → exec (.remoteRequest r) s = .next { s with dev := sendPacket r.src r.part true (.refused r.id) d })) ∧
  (∀ (s : State) (id run : Nat) (c : Cmd), Runs s.dev id 0x40 c → run ∈ c.runs →
    ((tDstDev s.dev c).isSome = true →
      (c.runs.erase run ≠ [] →
        exec (.visible id run) s = .next { s with dev := setCmd { c with runs := c.runs.erase run } s.dev }) ∧
      (c.runs.erase run = [] → (tSrcDev s.dev c = none ∨ tNarrow c = 0) → c.done.status ≠ stDeadline →
        exec (.visible id run) s = .next { s with dev := setCmd (endedAs { c with runs := [] } c.done) s.dev })) ∧
    ((tDstDev s.dev c).isSome = false → exec (.visible id run) s = .next s) ∧
    (let x : Done := { status := stRemote, tilePos := c.runs.foldl min run }
     exec (.remoteTimeout id run) s = .next { s with dev := setCmd (endedAs { c with runs := [] } x) s.dev }) ∧
    exec (.refused id) s = .next { s with dev := setCmd (endedAs { c with runs := [] } { status := stPermission }) s.dev }) ∧
  (∀ (s : State) (id slot : Nat) (c : Cmd), Runs s.dev id (opOf c) c → isColl (opOf c) = true → domainOf c = true →
    slot ≠ ownSlot s.dev → slot ∈ members s.dev c.part →
    exec (.remoteTimeout id slot) s =
      .next { s with dev := setCmd { c with stop := some { status := stRemote, detail := 0x8000 + slot } } s.dev }) ∧
  ∀ (s : State) (id slot : Nat) (c : Cmd), Runs s.dev id 0x10 c → slot ≠ ownSlot s.dev → slot ∈ awaited c →
    (∀ e ∈ c.ends, e.2.status = stOk) →
    let x : Done := { status := stRemote, detail := 0x8000 + slot }
    let c' := { c with ends := c.ends ++ [(slot, x)] }
    (awaited c' = [] →
      exec (.remoteTimeout id slot) s =
        .next { s with dev := setCmd (endedAs c' x) (inboxDrop c.part (ownDev s.dev + 1) c.id s.dev) }) ∧
    (awaited c' ≠ [] → ∃ t, exec (.remoteTimeout id slot) s = .next t ∧ t.pending = s.pending ∧ t.dev.mem = s.dev.mem ∧
      cmdOf t.dev id = some { c' with stop := some { status := stAborted } })

/-- A packet of an accepted transfer. A write in its turn is stored, its tally falls due at the array written, and the last of its run is
answered with VISIBLE; a read in its turn is answered with the bytes read, and stores nothing (R268, R428, R430, R431). One that comes early
waits, one that comes again changes nothing, and one whose store is held waits (R254, R430, R453). -/
def Obligations.RemoteWritesInOrder : Prop :=
  ∀ (s : State) (p : Packet) (x : Circ), p.src < 4096 → p.part < 64 → p.dst < 4096 → p.dst = ownDev s.dev → s.dev.clk.power = .run →
    s.dev.rem.ahead = [] → Canonical s.dev → Rising s.dev.rem.rxSeq → s.dev.merr.parity = [] → s.dev.merr.poison = [] → NoErrors x →
    let n := tabGet 0 (packetKey p) s.dev.rem.rxSeq
    let sent (t : State) (y : Payload) : Prop :=
      ∃ e : Device, e.links = s.dev.links ∧ e.out = s.dev.out ∧ t.dev.out = (sendPacket p.src p.part true y e).out ∧
        t.dev.links = (sendPacket p.src p.part true y e).links
    (∀ id addr run bs last fin tally, p.load = .write id addr bs run last fin tally → isAccepted s.dev p.src p.part id = true →
      (∀ k < bs.length, mapped (addr + k) = true) → (isHbm addr = false ∨ PlainHbm s.dev) → p.pseq.toNat = n →
      packetHeld s.dev p = false →
      ∃ t, exec (.remotePacket p x) s = .next t ∧ t.pending = s.pending ∧ bytesAt t.dev addr bs.length = bs ∧
        (∀ l, mapped l = true → (l < addr ∨ addr + bs.length ≤ l) → SameByte s.dev t.dev l) ∧
        tabGet 0 (packetKey p) t.dev.rem.rxSeq = (n + 1) % 2 ^ 32 ∧ t.dev.cmds = s.dev.cmds ∧
        (tally = none → t.dev.arrs = s.dev.arrs) ∧
        (∀ k a, tally = some k → arrayAt addr = some a → (arrOf t.dev a).held = (arrOf s.dev a).held ++ [k]) ∧
        (last = true → sent t (.visible id run)) ∧ (last = false → t.dev.out = s.dev.out)) ∧
    (∀ id addr len back run fin, p.load = .read id addr len back run none fin → isAccepted s.dev p.src p.part id = true →
      p.pseq.toNat = n → packetHeld s.dev p = false →
      ∃ t, exec (.remotePacket p x) s = .next t ∧ t.pending = s.pending ∧ t.dev.mem = s.dev.mem ∧ t.dev.cmds = s.dev.cmds ∧
        tabGet 0 (packetKey p) t.dev.rem.rxSeq = (n + 1) % 2 ^ 32 ∧ sent t (.data id back (bytesAt s.dev addr len) run 0)) ∧
    (p.pseq.toNat = n → packetHeld s.dev p = true → .remote p x ∉ s.dev.waiting →
      exec (.remotePacket p x) s = .next { s with dev := { s.dev with waiting := s.dev.waiting ++ [.remote p x] } }) ∧
    (p.pseq.toNat = n + 1 →
      exec (.remotePacket p x) s = .next { s with dev := { s.dev with rem := { s.dev.rem with ahead := [p] } } }) ∧
    (p.pseq.toNat + 1 = n → n < 2 ^ 32 → exec (.remotePacket p x) s = .next s)

/-- A link comes up: enabling it needs the domain number and puts it in training, then it is aligned and identified, and 16 exchanges of
TIME bring it UP, here while no packet waits for a link and no traffic has been moved; an end that R420 does not give it makes it MISCABLED
(R421 to R423, R437). A reset trains an enabled link anew, and RESET stays 1 on a disabled one (R12, R437). A link that returns takes back
the traffic that another link carried for it (R437). -/
def Obligations.LinksComeUp : Prop :=
  ∀ (s : State) (l : Nat), l < 48 → Canonical s.dev →
    (fbit s.dev oDeviceId fDeviceIdDomainSet = false → exec (.linkEnable l) s = .next { s with dev := fput oHyCtrl fHyCtrlEnableErr 1 s.dev }) ∧
    (fbit s.dev oDeviceId fDeviceIdDomainSet = true → fbit s.dev (oLinkCtrl l) fLinkCtrlEnable = false →
      ∃ t, exec (.linkEnable l) s = .next t ∧ t.pending = s.pending ∧ linkState t.dev l = lkTraining ∧
        fbit t.dev (oLinkCtrl l) fLinkCtrlEnable = true ∧ fbit t.dev (oLinkCtrl l) fLinkCtrlReset = false ∧
        (∀ k < 48, k ≠ l → linkState t.dev k = linkState s.dev k) ∧ t.dev.mem = s.dev.mem ∧ t.dev.cmds = s.dev.cmds ∧
        t.dev.out = s.dev.out) ∧
    (fbit s.dev oDeviceId fDeviceIdDomainSet = true → fbit s.dev (oLinkCtrl l) fLinkCtrlEnable = true →
      exec (.linkEnable l) s = .next s) ∧
    (linkState s.dev l = lkTraining →
      exec (.linkTrained l) s = .next { s with dev := setState l lkAligning (fput (oLinkStatus l) fLinkStatusLaneOut 7 s.dev) }) ∧
    (∀ dev k, dev < 4096 → k < 48 → linkState s.dev l = lkAligning →
      let d := fput (oLinkStatus l) fLinkStatusPeerDev dev (fput (oLinkStatus l) fLinkStatusPeerLink k s.dev)
      (farEnd s.dev l = some (dev, k) →
        exec (.ident l dev k) s = .next { s with dev := setLink l { linkOf s.dev l with identOk := true } d }) ∧
      (farEnd s.dev l ≠ some (dev, k) → exec (.ident l dev k) s = .next { s with dev := setState l lkMiscabled d })) ∧
    (∀ xs beyond, xs.length = 16 → linkState s.dev l = lkAligning → (linkOf s.dev l).identOk = true → s.dev.rem.routes = [] →
      (∀ e ∈ s.dev.links, e.2.waiting = []) →
      ∃ t, exec (.timeExchange l xs beyond) s = .next t ∧ t.pending = s.pending ∧ linkState t.dev l = lkUp ∧
        (∀ k < 48, k ≠ l → linkState t.dev k = linkState s.dev k) ∧ t.dev.mem = s.dev.mem ∧ t.dev.cmds = s.dev.cmds ∧
        t.dev.out = s.dev.out) ∧
    (fbit s.dev (oLinkCtrl l) fLinkCtrlEnable = true → linkState s.dev l ≠ lkUp →
      exec (.linkReset l) s = .next { s with dev := freshLink l (setState l lkTraining s.dev) }) ∧
    (fbit s.dev (oLinkCtrl l) fLinkCtrlEnable = true → linkState s.dev l = lkUp →
      ∃ t, exec (.linkReset l) s = .next t ∧ t.pending = s.pending ∧ linkState t.dev l = lkTraining ∧ t.dev.mem = s.dev.mem ∧
        t.dev.cmds = s.dev.cmds) ∧
    (fbit s.dev (oLinkCtrl l) fLinkCtrlEnable = false →
      exec (.linkReset l) s = .next { s with dev := fput (oLinkCtrl l) fLinkCtrlReset 1 s.dev }) ∧
    ∀ k, k < 48 → linkState s.dev l = lkFailed → fbit s.dev (oLinkCtrl l) fLinkCtrlEnable = true → s.dev.rem.routes = [(l, k)] →
      (∀ e ∈ s.dev.links, e.2.waiting = []) →
      ∃ t, exec (.linkRestored l) s = .next t ∧ t.pending = s.pending ∧ linkState t.dev l = lkUp ∧ t.dev.rem.routes = [] ∧
        t.dev.mem = s.dev.mem ∧ t.dev.cmds = s.dev.cmds ∧ t.dev.out = s.dev.out

/-- The exchanges of TIME on a link to the time master, or to a device that relays to it: the first alignment since power-on steps TIME by
the offset of the exchange with the least delay, plus the relay's own offset, and a later one leaves TIME and slews (R424 to R426). Offsets are
in quarters of a nanosecond. The master itself is not aligned, and its TIME stays (DESIGN CHOICE, log 41). -/
def Obligations.TimeFollowsMaster : Prop :=
  ∀ (s : State) (l m h : Nat) (xs : List (Int × Int × Int × Int)) (b : Option Int), l < 30 → xs.length = 16 → Canonical s.dev →
    linkState s.dev l = lkUp → masterOf s.dev.free s.dev (some l) = some (m, h) →
    (∀ (hops : Nat) (z : Int), ((h = 1 ∧ l ∈ domainLinks s.dev m ∧ hops = 1 ∧ z = bestOffset xs) ∨
        (h = 2 ∧ ∃ r, b = some r ∧ hops = 2 ∧ z = bestOffset xs + r)) →
      (let w : Int := s.dev.clk.time * 2 ^ 32 + s.dev.clk.frac + z * 2 ^ 30
       s.dev.align.stepped = false → 0 ≤ w → w < 2 ^ 96 →
        ∃ t, exec (.timeExchange l xs b) s = .next t ∧ t.pending = s.pending ∧ (t.dev.clk.time : Int) * 2 ^ 32 + t.dev.clk.frac = w ∧
          t.dev.clk.frac < 2 ^ 32 ∧ t.dev.align.stepped = true ∧ fbit t.dev oHyTime fHyTimeAligned = true ∧
          fget t.dev oHyTime fHyTimeMaster = m ∧ fget t.dev oHyTime fHyTimeHops = hops ∧ t.dev.mem = s.dev.mem ∧ t.dev.cmds = s.dev.cmds) ∧
      (s.dev.align.stepped = true →
        ∃ t, exec (.timeExchange l xs b) s = .next t ∧ t.pending = s.pending ∧ t.dev.clk = s.dev.clk ∧
          t.dev.align.slew = z ∧ fget t.dev oHyTime fHyTimeMaster = m ∧ fget t.dev oHyTime fHyTimeHops = hops ∧
          t.dev.mem = s.dev.mem ∧ t.dev.cmds = s.dev.cmds)) ∧
    (h = 0 → ∃ t, exec (.timeExchange l xs b) s = .next t ∧ t.pending = s.pending ∧ t.dev.clk = s.dev.clk ∧ t.dev.align = s.dev.align ∧
      fbit t.dev oHyTime fHyTimeAligned = false ∧ fget t.dev oHyTime fHyTimeMaster = m)

/-- Flits on a link that is UP and for which no packet waits: one that fails its checks is answered with a NAK and counted, one out of sequence
is dropped, one in sequence acknowledges; an IDLE flit then gives the credits, and the last flit of a packet hands it over, to this device or
on its way with one more HOP (R417 to R419, R428, R430). An acknowledgement that empties the replay buffer ends the replay; 2 µs without one
send the oldest flit and all after it again, with their LSEQ, and the ninth time fails the link (R418, R434). -/
def Obligations.FlitsAcknowledged : Prop :=
  (∀ (s : State) (l : Nat), l < 48 → Canonical s.dev → linkState s.dev l = lkUp → (linkOf s.dev l).waiting = [] →
    let x := linkOf s.dev l
    (∀ (f : Flit) (c : Circ), f.payload.length = 240 →
      let d := perfOne 16 0x26 none 1 (fsat (oLinkFec l) fLinkFecCorrected f.corrected s.dev)
      let y := ackUpTo (flitAck f) { x with rxNext := (x.rxNext + 1) % 4096 }
      (flitFailed f = true →
        let e := fsat (oLinkErr l) fLinkErrCrcErrors 1 d
        exec (.flitReceive l f c) s = .next { s with dev := emit (.flitNak l ((x.rxNext + 4095) % 4096)) e }) ∧
      (flitFailed f = false → flitLseq f ≠ x.rxNext → exec (.flitReceive l f c) s = .next { s with dev := d }) ∧
      (flitFailed f = false → flitLseq f = x.rxNext → flitNakBit f = false →
        (flitType f = 0 →
          exec (.flitReceive l f c) s = .next { s with dev := setLink l { y with noCredit := f.noCredit } d }) ∧
        (flitType f ≠ 0 → (flitLast f = false ∨ f.load = none) →
          exec (.flitReceive l f c) s = .next { s with dev := setLink l y d }) ∧
        ∀ load, flitType f = 1 → flitLast f = true → f.load = some load → (∀ z, load ≠ .desc z) →
          let p := flitPacket f load
          (p.dst = ownDev s.dev →
            exec (.flitReceive l f c) s = exec (.remotePacket p c) { s with dev := setLink l y d }) ∧
          (p.dst ≠ ownDev s.dev →
            exec (.flitReceive l f c) s = .next { s with dev := routeSend { p with hop := p.hop + 1 } (setLink l y d) }))) ∧
    (∀ k, k < 4096 → (ackUpTo k x).replay = [] → exec (.nak l k) s = .next { s with dev := setLink l (ackUpTo k x) s.dev }) ∧
    (∀ e r, x.replay = e :: r → x.tries < 8 →
      let d := emit (.flitReplay l e.1) (fsat (oLinkErr l) fLinkErrReplays 1 (setLink l { x with tries := x.tries + 1 } s.dev))
      exec (.replayTimeout l) s = .next { s with dev := (e :: r).foldl (fun d e => sendFlits l e d) d }) ∧
    (x.replay ≠ [] → 8 ≤ x.tries → exec (.replayTimeout l) s = exec (.linkFail l) s)) ∧
  ∀ (d : Device) (l q n : Nat) (p : Packet),
    let ack := ((linkOf d l).rxNext + 4095) % 4096
    (sendFlits l (q, n, p) d).out = d.out ++
      [.packet l p ((List.range n).map fun k => header p ((q + k) % 4096) ack false (decide (k + 1 = n)))] ∧
    (sendFlits l (q, n, p) d).mem = d.mem ∧ (sendFlits l (q, n, p) d).cmds = d.cmds ∧ (sendFlits l (q, n, p) d).links = d.links

/-- A lane that fails while the spare lane is free is replaced, with LANE_SPARED, and otherwise the link fails (R433). A link that fails, here
with nothing unacknowledged or waiting and no traffic moved before, leaves its traffic to a link that carries traffic, or to none; a spare
link that carries nothing for others just fails (R434, R435). -/
def Obligations.LinkFailuresReroute : Prop :=
  ∀ (s : State) (l : Nat), l < 48 → Canonical s.dev → linkState s.dev l = lkUp →
    (∀ k, k < 4 → fget s.dev (oLinkStatus l) fLinkStatusLaneOut = 7 →
      exec (.laneSpared l k) s = .next { s with dev := raiseDev 0x0007 l k 0 (fput (oLinkStatus l) fLinkStatusLaneOut k s.dev) }) ∧
    (∀ k, k < 4 → fget s.dev (oLinkStatus l) fLinkStatusLaneOut ≠ 7 → exec (.laneSpared l k) s = exec (.linkFail l) s) ∧
    (s.dev.rem.routes = [] → (linkOf s.dev l).waiting = [] → (linkOf s.dev l).replay = [] →
      ∃ t, exec (.linkFail l) s = .next t ∧ t.pending = s.pending ∧ linkState t.dev l = lkFailed ∧
        (l < 46 → ∃ k, tabGet 49 l t.dev.rem.routes = k ∧ (k = 48 ∨ carries t.dev k = true)) ∧
        (46 ≤ l → t.dev.rem.routes = []) ∧
        (∀ j < 48, j ≠ l → linkState t.dev j = linkState s.dev j) ∧ t.dev.mem = s.dev.mem ∧ t.dev.cmds = s.dev.cmds)
/-! ## Active/standby pairs and control processors -/

/-- What becoming standby, active or fenced means for the role, the pair's lines and the outputs: only an active device drives
ACT_CLAIM, and a standby or fenced one holds every TRIG and ILLUM_EN output low (R461, R470, R487, R492). -/
def Obligations.RolesDecideOutputs : Prop :=
  ∀ d : Device, Canonical d →
    (role (becomeStandby d) = roleStandby ∧ (becomeStandby d).pins.claim = false ∧ (becomeStandby d).pins.hbOut = false ∧
      (becomeStandby d).pins.fenceOut = false ∧ (becomeStandby d).pins.trig = 0 ∧ (becomeStandby d).pins.illum = 0 ∧
      (becomeStandby d).out = d.out ++ [.pairReady] ∧ (becomeStandby d).mem = d.mem ∧ (becomeStandby d).cmds = d.cmds) ∧
    (role (becomeActive d) = roleActive ∧ (becomeActive d).pins.claim = true ∧
      (becomeActive d).out = d.out ++ [.pairClaim (ownSlot d)] ∧ (becomeActive d).mem = d.mem ∧ (becomeActive d).cmds = d.cmds) ∧
    (role (setRole roleFenced (letGo d)) = roleFenced ∧ (setRole roleFenced (letGo d)).pins.claim = false ∧
      (setRole roleFenced (letGo d)).pins.trig = 0 ∧ (setRole roleFenced (letGo d)).pins.illum = 0 ∧
      IllumSafe (setRole roleFenced (letGo d)))

/-- Joining a pair: with ACT_CLAIM asserted the device becomes standby, with STRAP_ROLE it becomes active at once, else it waits for
200 µs and samples again (R461); a locked write is counted, and PAIR_EN at 0 leaves the pair (log 43). What the pair's links had under way
is rerouted (R459). Of two claims the higher slot yields (R461). FENCE_IN fences; REJOIN leads from there to standby, once FENCE_IN is
released (R12, R470; log 83). SWITCHOVER on the active hands over with a last checkpoint and RELEASE, to a standby that claims without
fencing, and STANDBY_READY ends FENCE_OUT (R471). -/
def Obligations.PairRolesChange : Prop :=
  (∀ (s : State) (v : Word) (q : Bool), bits 6 5 v.toNat = 0 →
    let d := rputConfig 0xA000 oPairCtrl (BitVec.ofNat 32 (setBits 4 0 (bits 4 0 v.toNat) (rget s.dev oPairCtrl).toNat)) s.dev
    (fbit s.dev oLock fLockSafetyLock = false → pairEn s.dev = false → bit 0 v.toNat = true → s.dev.pins.fenceIn = false →
      let e := if q then becomeStandby d
        else if s.dev.straps.role then becomeActive { d with pair := { d.pair with holdoff := false } }
        else { d with pair := { d.pair with holdoff := true } }
      exec (.pairEnable v q) s = .next { s with dev := flushLinks (pairTraffic e) }) ∧
    (fbit s.dev oLock fLockSafetyLock = false → pairEn s.dev = true → bit 0 v.toNat = false →
      exec (.pairEnable v q) s = .next { s with dev := flushLinks (pairTraffic (leavePair d)) }) ∧
    (fbit s.dev oLock fLockSafetyLock = true →
      exec (.pairEnable v q) s = .next { s with dev := fsat oLockedWrites fLockedWritesCount 1 s.dev })) ∧
  (∀ (s : State) (q : Bool),
    let d := { s.dev with pair := { s.dev.pair with holdoff := false } }
    (s.dev.pair.holdoff = true → exec (.pairHoldoffExpiry q) s =
      .next { s with dev := if q || s.dev.pins.fenceIn then becomeStandby d else becomeActive d }) ∧
    (s.dev.pair.holdoff = false → exec (.pairHoldoffExpiry q) s = .next s)) ∧
  (∀ (s : State) (k : Nat), k < 16 →
    (s.dev.pins.claim = true →
      exec (.claim k) s = .next { s with dev := if k < ownSlot s.dev then becomeStandby (pairHeard s.dev) else pairHeard s.dev }) ∧
    (s.dev.pins.claim = false → exec (.claim k) s = .next { s with dev := pairHeard s.dev })) ∧
  (∀ s : State,
    let d (b : Bool) := { s.dev with pins := { s.dev.pins with fenceIn := b } }
    exec (.fenceIn true) s = .next { s with dev := setRole roleFenced (letGo (d true)) } ∧
    (fbit s.dev oPairCtrl fPairCtrlRejoin = false → exec (.fenceIn false) s = .next { s with dev := d false }) ∧
    (fbit s.dev oPairCtrl fPairCtrlRejoin = true → role s.dev = roleFenced →
      exec (.fenceIn false) s = .next { s with dev := becomeStandby (fput oPairCtrl fPairCtrlRejoin 0 (d false)) })) ∧
  (∀ s : State,
    (role s.dev = roleFenced → s.dev.pins.fenceIn = false →
      exec .rejoin s = .next { s with dev := becomeStandby (fput oPairCtrl fPairCtrlRejoin 0 s.dev) }) ∧
    (role s.dev = roleFenced → s.dev.pins.fenceIn = true →
      exec .rejoin s = .next { s with dev := fput oPairCtrl fPairCtrlRejoin 1 s.dev }) ∧
    (role s.dev ≠ roleFenced → exec .rejoin s = .next s)) ∧
  (∀ s : State,
    (role s.dev = roleActive →
      let d := fput oPairCtrl fPairCtrlSwitchover 0 s.dev
      exec .switchover s = .next { s with dev := becomeStandby (emit .pairRelease (captureCheckpoint d)) }) ∧
    (role s.dev ≠ roleActive → exec .switchover s = .next { s with dev := fput oPairCtrl fPairCtrlSwitchover 1 s.dev })) ∧
  (∀ s : State, Canonical s.dev → role s.dev = roleStandby → s.dev.pair.stage = .none →
    ∃ t, exec .release s = .next t ∧ t.pending = s.pending ∧ t.dev.pair.stage = .loading ∧ t.dev.pins.claim = true ∧
      t.dev.pins.fenceOut = s.dev.pins.fenceOut ∧ t.dev.out = s.dev.out ∧ t.dev.mem = s.dev.mem ∧ role t.dev = roleStandby) ∧
  ∀ s : State, Canonical s.dev → role s.dev = roleActive →
    ∃ t, exec .standbyReady s = .next t ∧ t.pending = s.pending ∧ t.dev.pair.stage = .none ∧ t.dev.pins.fenceOut = false ∧
      t.dev.pins.claim = s.dev.pins.claim ∧ t.dev.out = s.dev.out ∧ t.dev.mem = s.dev.mem ∧ role t.dev = roleActive

/-- Detection (R460, R467). The active's heartbeat toggles and both send ALIVE while a hub control processor passes its watchdog, and
neither afterwards (R457); an edge sets HB_OK. A missing heartbeat makes the standby ask over the links while they live, and silent links
raise LINK_LOST while the heartbeat lives; without both the standby asserts FENCE_OUT. A device of the pair that is not the standby notes
the loss only. The active answers QUERY and the standby takes the answer, each with HEARTBEAT_LOST; the question ends after 20 µs. -/
def Obligations.PairDetectsLoss : Prop :=
  (∀ s : State, role s.dev = roleActive → s.dev.pair.hubOk = true → s.dev.clk.power = .run →
    exec .heartbeatToggle s = .next { s with dev := { s.dev with pins := { s.dev.pins with hbOut := !s.dev.pins.hbOut } } }) ∧
  (∀ s : State, (role s.dev = roleActive ∨ role s.dev = roleStandby) → s.dev.pair.hubOk = true → s.dev.clk.power = .run →
    exec .alive s = .next { s with dev := emit .pairAlive s.dev }) ∧
  (∀ s : State, exec .hubWatchdogLoss s = .next { s with dev := { s.dev with pair := { s.dev.pair with hubOk := false } } } ∧
    (s.dev.pair.hubOk = false → exec .heartbeatToggle s = .next s ∧ exec .alive s = .next s)) ∧
  (∀ (s : State) (v : Bool), pairEn s.dev = true →
    exec (.pairHbInEdge v) s =
      .next { s with dev := fput oPairStatus fPairStatusHbOk 1 { s.dev with pins := { s.dev.pins with hbIn := v } } }) ∧
  (∀ s : State, Canonical s.dev → pairEn s.dev = true → role s.dev = roleStandby →
    let d := fput oPairStatus fPairStatusHbOk 0 s.dev
    let e := fput oPairStatus fPairStatusLinksOk 0 s.dev
    (linksOk s.dev = true →
      exec .heartbeatMissing s = .next { s with dev := emit .pairQuery { d with pair := { d.pair with queryOpen := true } } }) ∧
    (linksOk s.dev = false → s.dev.pair.stage = .none →
      exec .heartbeatMissing s = .next { s with dev := setStage .fencing { d with pins := { d.pins with fenceOut := true } } }) ∧
    (hbOk s.dev = true →
      let k := (domainLinks s.dev (peerSlot s.dev)).headD 0
      exec .pairLinksSilent s = .next { s with dev := raiseDev 0x000B k 0 0 (fput oPairStatus fPairStatusLinkLost 1 e) }) ∧
    (hbOk s.dev = false → s.dev.pair.stage = .none →
      exec .pairLinksSilent s = .next { s with dev := setStage .fencing { e with pins := { e.pins with fenceOut := true } } })) ∧
  (∀ s : State, Canonical s.dev → pairEn s.dev = true → role s.dev ≠ roleStandby →
    exec .heartbeatMissing s = .next { s with dev := fput oPairStatus fPairStatusHbOk 0 s.dev } ∧
    exec .pairLinksSilent s = .next { s with dev := fput oPairStatus fPairStatusLinksOk 0 s.dev }) ∧
  (∀ s : State, Canonical s.dev → role s.dev = roleStandby → s.dev.pair.queryOpen = true →
    let d := pairHeard s.dev
    exec .query s = .next { s with dev := heartbeatLost { d with pair := { d.pair with queryOpen := false } } }) ∧
  (∀ s : State, Canonical s.dev → role s.dev = roleActive →
    exec .query s = .next { s with dev := heartbeatLost (emit .pairReply (pairHeard s.dev)) }) ∧
  ∀ s : State, exec .queryTimeout s = .next { s with dev := { s.dev with pair := { s.dev.pair with queryOpen := false } } }

/-- A takeover: fencing, then ACT_CLAIM driven and the checkpoint loaded when the line is free, else BLOCKED until a later sample
finds it free (R468, R470); then the device is active with its checkpoint loaded, TAKEOVER raised and TAKEOVER_SPAN journalled. A checkpoint
leaves every 250 µs with PAIR_GEN advanced (R462, R464), and the standby applies one that passes its tests and can be read (R406,
R465). With a heartbeat or live links no takeover begins (R468). -/
def Obligations.TakeoverAndCheckpoints : Prop :=
  (∀ s : State, hbOk s.dev = false → linksOk s.dev = false → role s.dev = roleStandby → s.dev.pair.stage = .none →
    exec .takeover s = .next { s with dev := setStage .fencing { s.dev with pins := { s.dev.pins with fenceOut := true } } }) ∧
  (∀ s : State, hbOk s.dev = true ∨ linksOk s.dev = true → exec .takeover s = .next s) ∧
  (∀ s : State, s.dev.pair.stage = .fencing →
    exec (.takeoverClaim false) s = .next { s with dev := driveClaim s.dev } ∧
    exec (.takeoverClaim true) s =
      .next { s with dev := heartbeatLost (fput oPairStatus fPairStatusBlocked 1 (setStage .blocked s.dev)) }) ∧
  (∀ s : State, s.dev.pair.stage = .blocked →
    exec (.actClaimResample false) s = .next { s with dev := driveClaim s.dev } ∧ exec (.actClaimResample true) s = .next s) ∧
  (∀ (s : State) (found : List (Nat × Nat × Nat)), (∀ x ∈ found, x.1 < 64 ∧ x.2.1 < 16) → s.dev.pair.stage = .loading →
    s.dev.pair.applied ≠ [] →
    let bs := s.dev.pair.applied
    let d := setRole roleActive (setStage .waitReady (loadCheckpoint bs found s.dev))
    let e := raiseDev 0x8004 (peerSlot d) (rget d oPairGen).toNat (rget d oPairFrame).toNat d
    let b := leBytes 8 (leNat ((bs.drop 16).take 6)) ++ leBytes 8 (posWord e)
    exec (.takeoverDone found) s = .next { s with dev := journal 0x0011 b e }) ∧
  (∀ (s : State) (found : List (Nat × Nat × Nat)), (∀ x ∈ found, x.1 < 64 ∧ x.2.1 < 16) → s.dev.pair.stage = .loading →
    s.dev.pair.applied = [] →
    let d := setRole roleActive (setStage .waitReady s.dev)
    let e := raiseDev 0x8004 (peerSlot d) (rget d oPairGen).toNat (rget d oPairFrame).toNat d
    exec (.takeoverDone found) s = .next { s with dev := journal 0x0011 (leBytes 8 (posWord s.dev) ++ leBytes 8 (posWord e)) e }) ∧
  (∀ s : State, Canonical s.dev → role s.dev = roleActive → s.dev.clk.power = .run →
    let g := ((rget s.dev oPairGen).toNat + 1) % 2 ^ 32
    let bs := checkpoint s.dev g
    let a := ckptSlot s.dev (g % 2)
    ∃ r, exec .checkpointCapture s = .next { s with dev := { s.dev with regs := r, out := s.dev.out ++
        [.pairCkpt a bs, .pairCkpt (a + bs.length) (commitLine g bs)] } } ∧
      (rget { s.dev with regs := r } oPairGen).toNat = g) ∧
  ∀ (s : State) (k : Nat) (own : Int) (x : Circ), k < 2 → NoErrors x → Canonical s.dev →
    (role s.dev ≠ roleStandby → exec (.checkpointApply k own x) s = .next s) ∧
    (role s.dev = roleStandby → goodCheckpoint s.dev k = none →
      exec (.checkpointApply k own x) s = .next { s with dev := pairHeard s.dev }) ∧
    (∀ bs, role s.dev = roleStandby → goodCheckpoint s.dev k = some bs →
      let diff := signed 48 (leNat ((bs.drop 16).take 6)) - own
      ∃ t, exec (.checkpointApply k own x) s = .next t ∧ t.pending = s.pending ∧ (rget t.dev oPairGen).toNat = ckWord bs 0 ∧
        t.dev.pair.applied = bs ∧ t.dev.pair.diff = diff ∧
        t.dev.pos.ctr = signed 64 (unsigned 64 (s.dev.pos.ctr + diff * 65536)) ∧ t.dev.mem = s.dev.mem ∧ t.dev.cmds = s.dev.cmds)

/-! ## Position, triggers, interlock -/

/-- The position unit with no trigger output enabled. An input's filtered level changes once FILT samples in a row show the new level, and a
sample of the old one begins the count again (R475; the samples come with the command, log 88). A filtered change of one channel of the lead encoder
adds or subtracts its scale from the counter, modulo 2^64; a change of both channels is an error and moves nothing; while the main dies
are off edges go to the step accumulator and may wake the device (R476, R477, R479, R495, R564). A rising filtered Z counts (R476), LOAD
sets the position (R478), and the hand-over adds the accumulated edges (R496). -/
def Obligations.PositionCounts : Prop :=
  (∀ (s : State) (e : Nat) (a b : Bool) (n : Nat), e < 2 → 0 < n →
    let a0 := if e = 0 then s.dev.pos.a0 else s.dev.pos.a1
    let b0 := if e = 0 then s.dev.pos.b0 else s.dev.pos.b1
    let seenA := seenOf s.dev (3 * e)
    let seenB := seenOf s.dev (3 * e + 1)
    let z := if encInv s.dev e then -quadEdge a0 b0 a b else quadEdge a0 b0 a b
    ((a0 ≠ a → seenA + n < filt s.dev) → (b0 ≠ b → seenB + n < filt s.dev) →
      let d := setSeen (3 * e) (if a0 = a then 0 else seenA + n) s.dev
      exec (.encoderEdge e a b n) s = .next { s with dev := setSeen (3 * e + 1) (if b0 = b then 0 else seenB + n) d }) ∧
    (filt s.dev ≤ n → e = leadEnc s.dev → encOn s.dev e = true → Canonical s.dev →
      (∀ k < 16, fbit s.dev (oTrigCfg k) fTrigCfgEn = false) →
      (¬(a0 ≠ a ∧ b0 ≠ b) → s.dev.clk.accumulating = false →
        ∃ p, exec (.encoderEdge e a b n) s = .next { s with dev := { s.dev with pos := p } } ∧
          (z ≠ 0 → p.ctr = signed 64 (unsigned 64 (s.dev.pos.ctr + z * encScale s.dev e))) ∧ (z = 0 → p.ctr = s.dev.pos.ctr) ∧
          (if e = 0 then p.a0 = a ∧ p.b0 = b else p.a1 = a ∧ p.b1 = b) ∧ p.acc = s.dev.pos.acc) ∧
      (a0 ≠ a → b0 ≠ b → seenA = seenB →
        let d := setSeen (3 * e + 1) 0 (setSeen (3 * e) 0 s.dev)
        exec (.encoderEdge e a b n) s = .next { s with dev := fsat oPosStatus fPosStatusEncErrors 1 (setLevels e a b d) }) ∧
      (¬(a0 ≠ a ∧ b0 ≠ b) → s.dev.clk.accumulating = true → (s.dev.pos.acc + z).natAbs ≤ 32767 → s.dev.clk.power = .sleep →
        ∃ t, exec (.motionWake a b n) s = .next t ∧ t.pending = s.pending ∧ t.dev.pos.acc = s.dev.pos.acc + z ∧
          t.dev.pos.ctr = s.dev.pos.ctr ∧ t.dev.regs = s.dev.regs ∧
          (fbit s.dev oWakeCfg fWakeCfgWakeEn = true ∧ fget s.dev oWakeCfg fWakeCfgWakeEdges ≤ (s.dev.pos.acc + z).natAbs →
            t.dev.clk.power = .waking ∧ t.dev.pins.mainEn = true) ∧
          (fbit s.dev oWakeCfg fWakeCfgWakeEn = false ∨ (s.dev.pos.acc + z).natAbs < fget s.dev oWakeCfg fWakeCfgWakeEdges →
            t.dev.clk = s.dev.clk ∧ t.dev.pins = s.dev.pins)))) ∧
  (∀ (s : State) (a b : Bool) (n : Nat), s.dev.clk.accumulating = false → exec (.motionWake a b n) s = .next s) ∧
  (∀ (s : State) (e : Nat) (z : Bool) (n : Nat), e < 2 → 0 < n →
    let z0 := if e = 0 then s.dev.pos.z0 else s.dev.pos.z1
    let now := z0 = false ∧ z = true ∧ filt s.dev ≤ seenOf s.dev (3 * e + 2) + n ∧ encOn s.dev e = true
    let d := if e = 0 then fwrap oPosStatus fPosStatusZ0 1 s.dev else fwrap oPosStatus fPosStatusZ1 1 s.dev
    ∃ p, p.ctr = s.dev.pos.ctr ∧ p.acc = s.dev.pos.acc ∧ p.a0 = s.dev.pos.a0 ∧ p.b0 = s.dev.pos.b0 ∧ p.a1 = s.dev.pos.a1 ∧
      p.b1 = s.dev.pos.b1 ∧
      (now → exec (.encoderIndex e z n) s = .next { s with dev := { d with pos := p } } ∧ (if e = 0 then p.z0 else p.z1) = true) ∧
      (¬now → exec (.encoderIndex e z n) s = .next { s with dev := { s.dev with pos := p } })) ∧
  (∀ s : State, Canonical s.dev → (∀ n < 16, fbit s.dev (oTrigCfg n) fTrigCfgEn = false) → fbit s.dev oPosLoadHi fPosLoadHiLoad = true →
    let p := signed 48 (fget s.dev oPosLoadLo fPosLoadLoLoadPos + 2 ^ 32 * fget s.dev oPosLoadHi fPosLoadHiLoadPos)
    ∃ t, exec .positionLoad s = .next t ∧ t.pending = s.pending ∧ position t.dev = p ∧ t.dev.pos.ctr = p * 65536 ∧
      fbit t.dev oPosLoadHi fPosLoadHiLoad = false ∧ ∃ w, t.dev = { rput oPosLoadHi w s.dev with pos := t.dev.pos }) ∧
  ∀ s : State, Canonical s.dev → (∀ n < 16, fbit s.dev (oTrigCfg n) fTrigCfgEn = false) → s.dev.pos.handover = true →
    ∃ t, exec .positionHandover s = .next t ∧ t.pending = s.pending ∧ t.dev.clk = { s.dev.clk with accumulating := false } ∧
      t.dev.pos.ctr = signed 64 (unsigned 64 (s.dev.pos.ctr + s.dev.pos.acc * encScale s.dev (leadEnc s.dev))) ∧
      t.dev.pos.acc = 0 ∧ t.dev.pos.handover = false ∧ fget t.dev oStepAcc fStepAccSteps = unsigned 16 s.dev.pos.acc ∧
      t.dev.pins = s.dev.pins ∧ t.dev.mem = s.dev.mem

/-- Every 100 µs SPEED becomes the change of position over the last ten updates and the speed gate follows its thresholds; ILLUM_EN obeys
R492 afterwards (R480, R493). At the end of a window without slip the increments start again; with slip SLIP is set and counted, LEAD_MODE
AUTO takes the encoder whose movement is nearer to the last window's, and a record is journalled (R481). -/
def Obligations.SpeedAndSlip : Prop :=
  (∀ s : State, Canonical s.dev → s.dev.pos.hist.length = 10 →
    let v := position s.dev - s.dev.pos.hist.getD 9 0
    let n := (signed 32 (BitVec.ofInt 32 v).toNat).natAbs
    ∃ t, exec .speedUpdate s = .next t ∧ t.pending = s.pending ∧ rget t.dev oSpeed = BitVec.ofInt 32 v ∧
      t.dev.pos.hist = position s.dev :: s.dev.pos.hist.take 9 ∧ t.dev.pos.ctr = s.dev.pos.ctr ∧ IllumSafe t.dev ∧
      (fget s.dev oSpeedGate fSpeedGateOnTh ≤ n → t.dev.ilk.gate = true) ∧
      (n < fget s.dev oSpeedGate fSpeedGateOnTh → n < fget s.dev oSpeedGate fSpeedGateOffTh → t.dev.ilk.gate = false) ∧
      (fget s.dev oSpeedGate fSpeedGateOffTh ≤ n → n < fget s.dev oSpeedGate fSpeedGateOnTh → t.dev.ilk.gate = s.dev.ilk.gate) ∧
      t.dev.ilk.st = s.dev.ilk.st ∧ t.dev.mem = s.dev.mem ∧ t.dev.cmds = s.dev.cmds) ∧
  ∀ s : State, s.dev.clk.accumulating = false →
    let d0 := s.dev.pos.d0
    let d1 := s.dev.pos.d1
    let lead := leadEnc s.dev
    let dl := if lead = 0 then d0 else d1
    let prev := s.dev.pos.prevLead
    let d := { s.dev with pos := { s.dev.pos with d0 := 0, d1 := 0, prevLead := dl } }
    let slip := encOn s.dev 0 && encOn s.dev 1 &&
      decide (max (fget s.dev oSlipCfg fSlipCfgSlipAbs * 65536 * 1024) (dl.natAbs * fget s.dev oSlipCfg fSlipCfgSlipPm) <
        (d0 - d1).natAbs * 1024)
    (slip = false → exec .slipWindow s = .next { s with dev := d }) ∧
    (slip = true → Canonical s.dev →
      let next := if fget s.dev oPosCtrl fPosCtrlLeadMode = 2 then
          (if (d0 - prev).natAbs < (d1 - prev).natAbs then 0 else if (d1 - prev).natAbs < (d0 - prev).natAbs then 1 else lead) else lead
      let d := fput oPosCtrl fPosCtrlLead next (fsat oPosStatus fPosStatusSlipCount 1 (fput oPosStatus fPosStatusSlip 1 d))
      let rec' := leBytes 4 (unsigned 32 (d0 / 65536)) ++ leBytes 4 (unsigned 32 (d1 / 65536)) ++ leBytes 4 lead ++ leBytes 4 next
      exec .slipWindow s = .next { s with dev := journal 0x0012 rec' d })

/-- A pulse that is due raises its output for WIDTH ticks, the line index advances and a trigger record is due; while the outputs are held
low it is dropped instead and counted (R483, R485 to R487). The end of a pulse lowers the output, and a held point's pulse becomes due (R484).
A trigger record is written to the ring in HBM, every other byte unchanged (R486). -/
def Obligations.TriggersPulse : Prop :=
  (∀ (s : State) (n due : Nat) (pos : Int) (held : Bool), n < 16 → (trigOf s.dev n).pulse = .pending due pos held →
    (trigBlocked s.dev = false → due ≤ s.dev.clk.tick → fget s.dev (oTrigLine n) fTrigLineLine ≠ 0xFFFFFFFF →
      let h : Pulse := .high (s.dev.clk.tick + fget s.dev (oTrigTime n) fTrigTimeWidth)
      let d := fwrap (oTrigLine n) fTrigLineLine 1 (setTrig n { trigOf s.dev n with pulse := h } s.dev)
      let r : TrigRec := { line := fget s.dev (oTrigLine n) fTrigLineLine, pos := pos, output := n, held := held, time := s.dev.clk.time }
      let p := { d.pins with trig := d.pins.trig ||| BitVec.ofNat 16 (2 ^ n) }
      exec (.triggerPulse n) s = .next { s with dev := { d with pins := p, trigRecs := d.trigRecs ++ [r] } }) ∧
    (trigBlocked s.dev = true →
      let d := setTrig n { trigOf s.dev n with pulse := .idle } s.dev
      exec (.triggerPulse n) s = .next { s with dev := fsat (oTrigDrop n) fTrigDropDropped 1 d })) ∧
  (∀ (s : State) (n ends : Nat), n < 16 → (trigOf s.dev n).pulse = .high ends → ends ≤ s.dev.clk.tick →
    let d := { s.dev with pins := { s.dev.pins with trig := s.dev.pins.trig &&& ~~~ BitVec.ofNat 16 (2 ^ n) } }
    ((trigOf s.dev n).held = none →
      exec (.triggerPulseEnd n) s = .next { s with dev := setTrig n { trigOf s.dev n with pulse := .idle } d }) ∧
    (∀ due pos, (trigOf s.dev n).held = some (due, pos) →
      let x : Trig := { pulse := .pending (max due (s.dev.clk.tick + 1)) pos true, held := none }
      exec (.triggerPulseEnd n) s = .next { s with dev := setTrig n x d })) ∧
  ∀ (s : State) (r : TrigRec) (rest : List TrigRec), s.dev.trigRecs = r :: rest → Canonical s.dev → PlainHbm s.dev →
    s.dev.merr.parity = [] → s.dev.merr.poison = [] →
    let n := fget s.dev oTrigRecCount fTrigRecCountCount
    let l := (rget s.dev oTrigRecBaseLo).toNat + 2 ^ 32 * fget s.dev oTrigRecBaseHi fTrigRecBaseHiAddr +
      32 * (n % 2 ^ fget s.dev oTrigRecBaseHi fTrigRecBaseHiLog2)
    isHbm (l + 31) = true →
    ∃ t, exec .triggerRecord s = .next t ∧ t.pending = s.pending ∧ bytesAt t.dev l 32 = trigRecBytes r ∧ t.dev.trigRecs = rest ∧
      fget t.dev oTrigRecCount fTrigRecCountCount = (n + 1) % 2 ^ 32 ∧ t.dev.pins = s.dev.pins ∧ t.dev.cmds = s.dev.cmds ∧
      ∀ l', mapped l' = true → (l' < l ∨ l + 32 ≤ l') → SameByte s.dev t.dev l'

/-- The interlock by the state table of R488. Levels that disagree enter DISAGREE with the count at 0 and ILLUM_EN low; in DISAGREE, before
25 × DISC ticks, both safe leads to SAFE and both active to ACTIVE if it came from SAFE and to HOLD if not; 25 × DISC ticks latch, with
ILK_LATCHED, and LATCHED is left by a write of 1 to LATCH while both channels are safe (R488 to R491). A channel's level changes only
after 250 samples in a row of the new one (R488; the samples come with the command, log 88), and no change of the levels breaks the conditions of
R492. -/
def Obligations.InterlockGuardsIllumination : Prop :=
  (∀ (s : State) (a b : Bool) (n : Nat), 0 < n → (a ≠ s.dev.ilk.a → s.dev.ilk.seenA + n < 250) →
    (b ≠ s.dev.ilk.b → s.dev.ilk.seenB + n < 250) →
    let x := { s.dev.ilk with seenA := if a = s.dev.ilk.a then 0 else s.dev.ilk.seenA + n,
                              seenB := if b = s.dev.ilk.b then 0 else s.dev.ilk.seenB + n }
    exec (.interlockChange a b n) s = .next { s with dev := { s.dev with ilk := x } }) ∧
  (∀ (s : State) (a b : Bool) (n : Nat), ¬(a = s.dev.ilk.a ∧ b = s.dev.ilk.b) → 250 ≤ n →
    (a ≠ s.dev.ilk.a → b ≠ s.dev.ilk.b → s.dev.ilk.seenA = s.dev.ilk.seenB) →
    ∃ t, exec (.interlockChange a b n) s = .next t ∧ t.pending = s.pending ∧ t.dev.ilk.a = a ∧ t.dev.ilk.b = b ∧ IllumSafe t.dev ∧
      t.dev.mem = s.dev.mem ∧ t.dev.cmds = s.dev.cmds ∧
      (s.dev.ilk.st = .latched → t.dev.ilk.st = .latched) ∧
      (s.dev.ilk.st ∈ [.safe, .active, .hold] → a = b → 0 < s.dev.ilk.disc →
        t.dev.ilk.st = .disagree ∧ t.dev.ilk.count = 0 ∧ t.dev.ilk.fromSafe = decide (s.dev.ilk.st = .safe) ∧ t.dev.pins.illum = 0) ∧
      (s.dev.ilk.st = .disagree → s.dev.ilk.count < 25 * s.dev.ilk.disc →
        (a = false → b = true → t.dev.ilk.st = .safe ∧ t.dev.ilk.disc = fget s.dev oIlkCfg fIlkCfgDisc) ∧
        (a = true → b = false → t.dev.ilk.st = if s.dev.ilk.fromSafe then .active else .hold)) ∧
      (s.dev.ilk.st = .disagree → 25 * s.dev.ilk.disc ≤ s.dev.ilk.count → t.dev.ilk.st = .latched ∧ t.dev.pins.illum = 0)) ∧
  (∀ s : State, s.dev.ilk.st = .disagree → 25 * s.dev.ilk.disc ≤ s.dev.ilk.count →
    let d := { s.dev with ilk := { s.dev.ilk with st := .latched } }
    exec .interlockDiscrepancy s = .next { s with dev := outputs (raiseDev 0x8005 0 d.ilk.disc 0 d) } ∧
    (outputs (raiseDev 0x8005 0 d.ilk.disc 0 d)).pins.illum = 0) ∧
  ∀ s : State, s.dev.ilk.st = .latched →
    (s.dev.ilk.a = false → s.dev.ilk.b = true →
      let d := { s.dev with ilk := { s.dev.ilk with st := .safe, disc := fget s.dev oIlkCfg fIlkCfgDisc } }
      exec .latchClear s = .next { s with dev := outputs d }) ∧
    (¬(s.dev.ilk.a = false ∧ s.dev.ilk.b = true) → exec .latchClear s = .next s)

/-! ## The journal -/

/-- Posting and intake put a record with the next SEQ at the end of the queue while it has room (R501, R503, R515), and a post of
another type or of more than 4,056 bytes sets POST_ERR. A media fault is recorded with its event, and drives FAULT_N low with both flashes gone (R512 to
R514). PFAIL_N low lets only priority types in, behind a POWER record (R508). -/
def Obligations.JournalTakesRecords : Prop :=
  (∀ (s : State) (v : Word),
    let type := bits 15 0 v.toNat
    let n := bits 27 16 v.toNat
    let bs := ((List.range (ceilDiv n 4)).flatMap fun k => leBytes 4 (rget s.dev (oJnlStage k)).toNat).take n
    (type < 0x1000 ∨ 0x7FFF < type ∨ 4056 < n → exec (.journalPost v) s = .next { s with dev := fput oJnlStatus fJnlStatusPostErr 1 s.dev }) ∧
    (0x1000 ≤ type → type ≤ 0x7FFF → n ≤ 4056 → jnlTakes s.dev false = true →
      exec (.journalPost v) s = .next { s with dev := fwrap oJnlPosted fJnlPostedPosted 1 (jnlPush type bs s.dev) }) ∧
    (0x1000 ≤ type → type ≤ 0x7FFF → n ≤ 4056 → jnlTakes s.dev false = false →
      exec (.journalPost v) s = .next { s with dev := jnlDrop type s.dev })) ∧
  (∀ (s : State) (type src : Nat) (bs : List Byte), type ∈ deviceTypes → bs.length ≤ 4056 → jnlTakes s.dev (jnlPrio type bs) = true →
    exec (.journalIntake type src bs) s = .next { s with dev := jnlPush type bs s.dev }) ∧
  (∀ (d : Device) (type : Nat) (bs : List Byte), Canonical d →
    (jnlPush type bs d).jnl.queue = d.jnl.queue ++
      [{ type := type, seq := (rget d oJnlNextSeq).toNat, time := d.clk.time, pos := d.pos.ctr / 65536, payload := bs }] ∧
    (rget (jnlPush type bs d) oJnlNextSeq).toNat = ((rget d oJnlNextSeq).toNat + 1) % 2 ^ 32) ∧
  (∀ s : State, Canonical s.dev → jnlDead s.dev = false → s.dev.jnl.drops = [] → s.dev.jnl.queue.length < 256 →
    let n := (s.dev.jnl.queue.filter fun r => !jnlPrio r.type r.payload).length
    let d := fput oJnlStatus fJnlStatusPfailSeen 1 { s.dev with pins := { s.dev.pins with pfailN := false } }
    exec .powerFail s = .next { s with dev := jnlPush 0x0020 (leBytes 4 n) { d with jnl := { d.jnl with prio := true } } }) ∧
  ∀ (s : State) (op off : Nat), Canonical s.dev → flashUp s.dev 0 = true →
    let d := fput oJnlStatus fJnlStatusJaFault 1 s.dev
    let d := { d with pins := { d.pins with fault := d.pins.fault || !flashUp s.dev 1 } }
    let e := journal 0x00F1 (leBytes 4 0 ++ leBytes 4 op ++ leBytes 8 off) (raiseDev 0x8006 0 0 0 d)
    exec (.journalMediaFault 0 op off) s = .next { s with dev := e }

/-- A queued record is programmed into both flashes at the write point, COMMIT last, with every other byte of them unchanged, and leaves the
queue (R500, R505). An erase frees the oldest sector in both flashes and no other byte (R506). A scan of two erased flashes finds no
record (R510, R511). -/
def Obligations.JournalReachesFlash : Prop :=
  (∀ (s : State) (r : JRec), Canonical s.dev → flashUp s.dev 0 = true → flashUp s.dev 1 = true → s.dev.jnl.prio = false →
    s.dev.jnl.queue = [r] → s.dev.jnl.drops = [] → s.dev.jnl.wp % 65536 ≠ 0 → s.dev.jnl.wp % 65536 + recLen r.payload.length ≤ 65536 →
    let n := recLen r.payload.length
    let ok := [true, true, true]
    ∃ t, exec (.journalRecordWrite ok ok) s = .next t ∧ t.pending = s.pending ∧ t.dev.jnl.queue = [] ∧
      t.dev.jnl.wp = recAfter s.dev.jnl.wp n ∧ (r.seq, s.dev.jnl.wp, n) ∈ t.dev.jnl.present ∧
      (∀ k < n, flashAt t.dev.jnl.flashA (s.dev.jnl.wp + k) = (recBytes r ++ [0x5A]).getD k 0 ∧
        flashAt t.dev.jnl.flashB (s.dev.jnl.wp + k) = (recBytes r ++ [0x5A]).getD k 0) ∧
      (∀ k, (k < s.dev.jnl.wp ∨ s.dev.jnl.wp + n ≤ k) → flashAt t.dev.jnl.flashA k = flashAt s.dev.jnl.flashA k ∧
        flashAt t.dev.jnl.flashB k = flashAt s.dev.jnl.flashB k) ∧ t.dev.mem = s.dev.mem ∧ t.dev.cmds = s.dev.cmds) ∧
  (∀ s : State, flashUp s.dev 0 = true → flashUp s.dev 1 = true → s.dev.jnl.erased < 8 →
    let off := jnlBase + oldestSector s.dev * 65536
    ∃ t, exec .sectorErase s = .next t ∧ t.pending = s.pending ∧ t.dev.jnl.erased = s.dev.jnl.erased + 1 ∧
      t.dev.jnl.queue = s.dev.jnl.queue ∧ t.dev.jnl.wp = s.dev.jnl.wp ∧
      (∀ k, off ≤ k → k < off + 65536 → flashAt t.dev.jnl.flashA k = 0xFF ∧ flashAt t.dev.jnl.flashB k = 0xFF) ∧
      (∀ k, (k < off ∨ off + 65536 ≤ k) → flashAt t.dev.jnl.flashA k = flashAt s.dev.jnl.flashA k ∧
        flashAt t.dev.jnl.flashB k = flashAt s.dev.jnl.flashB k) ∧ t.dev.mem = s.dev.mem ∧ t.dev.cmds = s.dev.cmds) ∧
  ∀ s : State, Canonical s.dev → fbit s.dev oJnlStatus fJnlStatusRescan = true → s.dev.jnl.flashA = [] → s.dev.jnl.flashB = [] →
    ∃ w, exec .journalRescan s = .next { s with dev := { rput oJnlStatus w s.dev with
        jnl := { s.dev.jnl with present := [], wp := jnlBase, erased := jnlSectors } } } ∧
      fbit (rput oJnlStatus w s.dev) oJnlStatus fJnlStatusRescan = false

/-! ## Observability -/

/-- A freeze captures the counters at once, or in a domain is announced to the other slots for 2 µs later; a FREEZE flit sets or brings
forward the time, and is LATE when it has passed (R524 to R526). RELEASE ends the freeze (R527). -/
def Obligations.FreezesCaptureCounters : Prop :=
  (∀ s : State, frozen s.dev = false →
    (fbit s.dev oObsCtrl fObsCtrlDomainFreeze = false → ∀ pin, exec (.freeze pin) s = .next { s with dev := capture s.dev }) ∧
    (fbit s.dev oObsCtrl fObsCtrlDomainFreeze = true → s.dev.frz.due = none → ∀ pin,
      let f := s.dev.clk.time + 2000
      let d := { s.dev with frz := { s.dev.frz with due := some f } }
      exec (.freeze pin) s = .next { s with dev := { d with out := d.out ++ (otherSlots s.dev).map fun k => .freezeFlit k f } }) ∧
    (∀ f, f < s.dev.clk.time → exec (.freezeFlit f) s = .next { s with dev := fput oObsCtrl fObsCtrlLate 1 (capture s.dev) }) ∧
    (∀ f, s.dev.clk.time ≤ f → s.dev.frz.due = none →
      exec (.freezeFlit f) s = .next { s with dev := { s.dev with frz := { s.dev.frz with due := some f } } }) ∧
    (∀ f, s.dev.frz.due = some f → f ≤ s.dev.clk.time → exec .freezeCapture s = .next { s with dev := capture s.dev })) ∧
  (∀ d : Device, Canonical d → frozen (capture d) = true ∧ (capture d).frz.tiles = d.tiles ∧ (capture d).frz.aclk = d.clk.aclk ∧
    (capture d).frz.due = none ∧ rget (capture d) (oFreezeTime 0) = BitVec.ofNat 32 d.clk.time ∧
    rget (capture d) (oFreezeTime 1) = BitVec.ofNat 32 (d.clk.time / 2 ^ 32) ∧ (capture d).mem = d.mem ∧ (capture d).cmds = d.cmds) ∧
  ∀ s : State, Canonical s.dev →
    ∃ t, exec .releaseFreeze s = .next t ∧ t.pending = s.pending ∧ frozen t.dev = false ∧ t.dev.frz.picture = [] ∧
      t.dev.frz.tiles = [] ∧ t.dev.tiles = s.dev.tiles ∧ ∀ off, off ≠ oObsCtrl → rget t.dev off = rget s.dev off

/-- The trace port. A marker joins its FIFO (R534, R535); the port sends alarms first, then its own packets, then the lowest source that
has one (R535); a packet that has waited 380 µs is dropped and counted (R536); SYNC follows after 8 ms (R539); an alarm's millisecond closes, or its
merged record leaves (R538). SMP_SEED and DUMP_RD hold what is written, but a seed of 0 becomes 1 (R529, R545). -/
def Obligations.TracePortSends : Prop :=
  (∀ (s : State) (v : Word), trcSrc s.dev 0 = true →
    let p : TPkt := { type := 8, stamp := s.dev.clk.time, since := s.dev.clk.time,
                      payload := [BitVec.ofNat 64 (v.toNat + 2 ^ 32 * (rget s.dev oTrcMarkerHi).toNat)] }
    fifoBytes s.dev.trc.fifo0 + 24 ≤ 65536 →
    exec (.marker v) s = .next { s with dev := { s.dev with trc := { s.dev.trc with fifo0 := s.dev.trc.fifo0 ++ [p] } } }) ∧
  (∀ (s : State) (p : TPkt) (r : List TPkt), trcOn s.dev = true → p.type ≠ 1 →
    (s.dev.trc.alarms = p :: r →
      ∃ t u, exec .tracePacketSend s = .next t ∧ t.pending = s.pending ∧ t.dev.out = s.dev.out ++ [.trace p u] ∧ t.dev.trc.alarms = r ∧
        t.dev.trc.own = s.dev.trc.own ∧ t.dev.trc.fifo0 = s.dev.trc.fifo0 ∧ t.dev.mem = s.dev.mem ∧ t.dev.cmds = s.dev.cmds) ∧
    (s.dev.trc.alarms = [] → s.dev.trc.own = [] → s.dev.trc.fifo0 = p :: r → tabGet 0 0 s.dev.trc.lostPk = 0 →
      ∃ t u, exec .tracePacketSend s = .next t ∧ t.pending = s.pending ∧ t.dev.out = s.dev.out ++ [.trace p u] ∧ t.dev.trc.fifo0 = r ∧
        t.dev.trc.fifo1 = s.dev.trc.fifo1 ∧ t.dev.trc.fifo2 = s.dev.trc.fifo2 ∧ t.dev.trc.fifo3 = s.dev.trc.fifo3 ∧
        t.dev.mem = s.dev.mem ∧ t.dev.cmds = s.dev.cmds)) ∧
  (∀ (s : State) (p : TPkt) (r : List TPkt), s.dev.trc.fifo1 = p :: r → p.since + 380000 ≤ s.dev.clk.time →
    exec (.tracePacketExpire 1) s = .next { s with dev := trcDrop 1 p { s.dev with trc := { s.dev.trc with fifo1 := r } } }) ∧
  (∀ s : State, trcOn s.dev = true → s.dev.trc.lastSync + 8000000 ≤ s.dev.clk.time →
    exec .syncTimer s =
      .next { s with dev := { s.dev with trc := { s.dev.trc with own := s.dev.trc.own ++ [syncPkt s.dev] } } }) ∧
  (∀ (s : State) (code src : Nat) (o : EvRec),
    s.dev.trc.alarmOpen.find? (fun e => decide (e.code = code) && decide (e.source = src)) = some o →
    (o.count = 0 → exec (.alarmMergeTimeout code src) s =
      .next { s with dev := { s.dev with trc := { s.dev.trc with alarmOpen := s.dev.trc.alarmOpen.erase o } } }) ∧
    (o.count ≠ 0 →
      let l := s.dev.trc.alarmOpen.map fun y => if y = o then { o with count := 0 } else y
      let p : TPkt := { type := 4, stamp := o.time, payload := leDWords (evBytes o 0), since := s.dev.clk.time }
      let x := { s.dev.trc with alarmOpen := l, alarms := s.dev.trc.alarms ++ [p] }
      exec (.alarmMergeTimeout code src) s = .next { s with dev := { s.dev with trc := x } })) ∧
  ∀ (s : State) (v : Word),
    exec (.smpSeedWrite v) s = .next { s with dev := rput oSmpSeed (if v = 0 then 1 else v) { s.dev with smp := [] } } ∧
    exec (.dumpRdWrite v) s = .next { s with dev := rput oDumpRd v s.dev }

/-- The output dump of a command whose work has ended: its record goes to the buffer in HBM at DUMP_WR, here without a wrap, with its
completion status; DUMP_WR advances by its length, the command waits for this dump no more, and every other byte is unchanged (R543 to
R545). -/
def Obligations.DumpReachesBuffer : Prop :=
  ∀ (s : State) (id w : Nat) (c : Cmd), w < 16 → cmdOf s.dev id = some c → c.phase = .ended → c.dumpIn = [] → c.dumpOut = [w] →
    c.dumpAt = 0 → fbit s.dev (oWatchCtl w) fWatchCtlDest = false → Canonical s.dev → PlainHbm s.dev → s.dev.merr.parity = [] →
    s.dev.merr.poison = [] →
    let c' := { c with dumpTime := s.dev.clk.time }
    let bs := dumpRecord s.dev c' w false (reported (partOf s.dev c.part) c.done).status s.dev.clk.time
    let o := (rget s.dev oDumpWr).toNat % dumpSize s.dev
    let l := (rget s.dev oDumpBaseLo).toNat + 2 ^ 32 * fget s.dev oDumpBaseHi fDumpBaseHiAddr + o
    dumpRoom s.dev bs.length = true → o + bs.length ≤ dumpSize s.dev → isHbm (l + bs.length - 1) = true →
    ∃ t, exec (.dump id w) s = .next t ∧ t.pending = s.pending ∧ bytesAt t.dev l bs.length = bs ∧
      (rget t.dev oDumpWr).toNat = ((rget s.dev oDumpWr).toNat + bs.length) % 2 ^ 32 ∧
      cmdOf t.dev id = some { c' with dumpOut := [] } ∧ t.dev.out = s.dev.out ∧
      ∀ l', mapped l' = true → (l' < l ∨ l + bs.length ≤ l') → SameByte s.dev t.dev l'

/-! ## Clocks, power, reset -/

/-- Power states: IDLE after IDLE_US without work, STANDBY when asked for and no command is left, RUN again on request, SLEEP unless a
partition is enabled or the device is in a pair, which sets PWR_ERR (R561 to R563). SLEEP drops MAIN_EN and every output and keeps the always-on
domain; the timer and PERST_N wake it (R564, R565). -/
def Obligations.PowerStatesChange : Prop :=
  (∀ s : State, s.dev.cmds = [] →
    (s.dev.clk.power = .run → anyFixedTime s.dev = false →
      s.dev.clk.busyAt + fget s.dev oPwrState fPwrStateIdleUs * 1000 ≤ s.dev.clk.time →
      exec .idleEntry s = .next { s with dev := powerTo .idle s.dev }) ∧
    (powered s.dev = true → s.dev.clk.standbyWanted = true → exec .standbyEntry s = .next { s with dev := powerTo .standby s.dev })) ∧
  (∀ s : State, powered s.dev = true →
    exec .reqRun s = .next { s with dev := powerTo .run { s.dev with clk := { s.dev.clk with standbyWanted := false } } } ∧
    exec .reqStandby s = .next { s with dev := { s.dev with clk := { s.dev.clk with standbyWanted := true } } } ∧
    (sleepRefused s.dev = true → exec .reqSleep s = .next { s with dev := fput oPwrState fPwrStatePwrErr 1 s.dev }) ∧
    (sleepRefused s.dev = false → trcOn s.dev = false →
      ∃ t, exec .reqSleep s = .next t ∧ t.pending = s.pending ∧ t.dev.clk.power = .sleep ∧ t.dev.clk.sleepAt = s.dev.clk.time ∧
        t.dev.clk.time = s.dev.clk.time ∧ t.dev.pins.mainEn = false ∧ t.dev.pins.trig = 0 ∧ t.dev.pins.illum = 0 ∧ t.dev.mem = [] ∧
        t.dev.cmds = [] ∧ t.dev.jnl = s.dev.jnl ∧ t.dev.ilk = s.dev.ilk ∧ t.dev.pos = s.dev.pos ∧
        ∀ off, alwaysOn off = true → Canonical s.dev → rget t.dev off = rget s.dev off)) ∧
  (∀ (d : Device) (p : Power), d.clk.power ≠ p →
    (powerTo p d).clk = { d.clk with power := p, standbyWanted := false } ∧ IllumSafe (powerTo p d) ∧ TrigSafe (powerTo p d) ∧
    (trcOn d = true → (powerTo p d).trc.own = d.trc.own ++ [powerPkt (powerCode d.clk.power) (powerCode p) 0 d, syncPkt d]) ∧
    (powerTo p d).mem = d.mem ∧ (powerTo p d).cmds = d.cmds) ∧
  ∀ s : State, s.dev.clk.power = .sleep →
    (let w := (rget s.dev oSleepTimer).toNat
     let d := { s.dev with clk := { s.dev.clk with power := .waking }, pins := { s.dev.pins with mainEn := true } }
     (w ≠ 0 → s.dev.clk.sleepAt + w * 1000000000 ≤ s.dev.clk.time → exec .sleepTimerWake s = .next { s with dev := d }) ∧
     (w = 0 → exec .sleepTimerWake s = .next s) ∧
     exec .perstRise s = .next { s with dev := { d with pins := { d.pins with perstN := true }, pcie := { d.pcie with held := false } } })

/-- Power and temperature. A window reports the powers measured (R519); above the cap tile starts are delayed, and the second such window
in a row slows ACLK by one division (R558); a division that is decided takes effect with its CORE_VID (R555, R590). An update of the sensors
below the trip limit is what TEMP and TEMP_MAX read (R519), and one at it switches the main dies off with every output low (R560). -/
def Obligations.PowerAndTemperature : Prop :=
  (∀ (s : State) (ps : List Nat) (pkg : Nat), ps.length = 5 → Canonical s.dev →
    (pkg ≤ fget s.dev oPwrCap fPwrCapCapW * 1000 → s.dev.clk.hot = [] → s.dev.clk.capUnder = 0 →
      ∃ t, exec (.powerWindow ps pkg 0 0) s = .next t ∧ t.pending = s.pending ∧ t.dev.clk.delayTiles = false ∧ t.dev.clk.capOver = 0 ∧
        t.dev.clk.divWanted = s.dev.clk.divWanted ∧ rget t.dev oPkgPower = BitVec.ofNat 32 pkg ∧
        (∀ k < 5, rget t.dev (oDiePower k) = BitVec.ofNat 32 (ps.getD k 0)) ∧ t.dev.cmds = s.dev.cmds ∧ t.dev.mem = s.dev.mem) ∧
    (fget s.dev oPwrCap fPwrCapCapW * 1000 < pkg →
      ∃ t, exec (.powerWindow ps pkg 0 0) s = .next t ∧ t.pending = s.pending ∧ t.dev.clk.delayTiles = true ∧
        rget t.dev oPkgPower = BitVec.ofNat 32 pkg ∧ t.dev.cmds = s.dev.cmds ∧ t.dev.mem = s.dev.mem ∧
        (s.dev.clk.delayTiles = true → 1 ≤ s.dev.clk.capOver → slower (divNow s.dev) ≠ divNow s.dev →
          t.dev.clk.divWanted = some (slower (divNow s.dev))) ∧
        (s.dev.clk.delayTiles = false → t.dev.clk.divWanted = s.dev.clk.divWanted))) ∧
  (∀ (s : State) (v : Nat), v ∈ [4, 5, 6, 8] → s.dev.clk.divWanted = some v →
    let d := { s.dev with clk := { s.dev.clk with divWanted := none }, pins := { s.dev.pins with coreVid := vidOf v } }
    exec (.aclkDivChange v) s = .next { s with dev := fput oAclkCtrl fAclkCtrlDiv v d }) ∧
  ∀ (s : State) (ts : List (List Int)), ts.length = 5 → (∀ x ∈ ts, x.length = 8) → Canonical s.dev →
    let trip : Int := fget s.dev oThermCfg fThermCfgTripC
    ((∀ x ∈ ts, hottest x < trip * 16) →
      ∃ t, exec (.tempUpdate ts 0) s = .next t ∧ t.pending = s.pending ∧ t.dev.clk.power = s.dev.clk.power ∧
        (∀ k < 5, (rget t.dev (oTempMax k)).toNat = unsigned 16 (hottest (ts.getD k [])) ∧
          ∀ j < 8, (rget t.dev (oTemp k j)).toNat = unsigned 16 ((ts.getD k []).getD j 0)) ∧
        t.dev.pins = s.dev.pins ∧ t.dev.cmds = s.dev.cmds ∧ t.dev.mem = s.dev.mem) ∧
    ((∃ x ∈ ts, trip * 16 ≤ hottest x) → powered s.dev = true →
      ∃ t, exec (.tempUpdate ts 0) s = .next t ∧ t.pending = s.pending ∧ t.dev.clk.power = .tripped ∧ t.dev.pins.mainEn = false ∧
        t.dev.pins.illum = 0 ∧ t.dev.pins.trig = 0 ∧ t.dev.cmds = [] ∧ t.dev.mem = [])

/-- Resets. A warm reset keeps memory, the journal's flashes and the position, and restarts the firmware with its cause (R565, R566, R571);
a power-on reset and the loss of VCC_AUX keep the flashes alone (R565, R569); a loss of main power keeps the position, whose edges go to
the step accumulator, until the rails return (R495, R496, R567). A pushed image starts when it verifies and can be read, and sets BOOT_ERR
otherwise (R406, R571). -/
def Obligations.ResetsRestart : Prop :=
  (∀ s : State, Canonical s.dev → s.dev.clk.power = .run → s.dev.cmds = [] → s.dev.straps.boot ≠ 1 → s.dev.images.slotA = true →
    ∀ pin, ∃ t, exec (.warmReset pin) s = .next t ∧ t.pending = s.pending ∧ t.dev.clk.power = .run ∧ t.dev.mem = s.dev.mem ∧
      t.dev.jnl.flashA = s.dev.jnl.flashA ∧ t.dev.jnl.flashB = s.dev.jnl.flashB ∧ t.dev.pos = s.dev.pos ∧ t.dev.clk.time = s.dev.clk.time ∧
      t.dev.cmds = [] ∧ t.dev.parts = [] ∧ t.dev.links = [] ∧ t.dev.waiting = [] ∧ t.dev.pair = {} ∧ t.dev.pins.trig = 0 ∧
      fget t.dev oResetCause fResetCauseCause = (if pin then 1 else 2) ∧ fget t.dev oBootCtrl fBootCtrlSource = 0) ∧
  (∀ (s : State) (p : PowerOn), p.boot < 4 → p.slot < 16 →
    ∃ t, exec (.powerOnReset p) s = .next t ∧ t.pending = s.pending ∧ t.dev.mem = [] ∧ t.dev.cmds = [] ∧
      (p.failedArrays = [] → p.failedSpares = [] → p.fuseArrays = [] → t.dev.parts = []) ∧
      t.dev.jnl.flashA = s.dev.jnl.flashA ∧ t.dev.jnl.flashB = s.dev.jnl.flashB ∧ t.dev.pos = {} ∧
      t.dev.straps = { compat7 := p.compat7, boot := p.boot, slot := p.slot, role := p.role } ∧
      t.dev.ilk.st = (if p.ilkA = p.ilkB then .disagree else if p.ilkA then .hold else .safe) ∧ t.dev.pins.illum = 0 ∧
      (p.boot ≠ 1 → p.slotA = true → t.dev.clk.power = .run)) ∧
  (∀ s : State, exec .vccAuxLoss s = .next { s with dev := vccAuxLoss s.dev } ∧ (vccAuxLoss s.dev).clk.power = .off ∧
    (vccAuxLoss s.dev).mem = [] ∧ (vccAuxLoss s.dev).regs = [] ∧ (vccAuxLoss s.dev).jnl.flashA = s.dev.jnl.flashA ∧
    (vccAuxLoss s.dev).jnl.flashB = s.dev.jnl.flashB) ∧
  (∀ s : State, s.dev.clk.power = .run →
    ∃ t, exec .mainPowerLoss s = .next t ∧ t.pending = s.pending ∧ t.dev.clk.power = .mainLost ∧ t.dev.clk.accumulating = true ∧
      t.dev.mem = [] ∧ t.dev.cmds = [] ∧ t.dev.pos = s.dev.pos ∧ t.dev.jnl = s.dev.jnl ∧ t.dev.pins.trig = 0 ∧ t.dev.pins.illum = 0 ∧
      t.dev.pins.mainEn = s.dev.pins.mainEn) ∧
  (∀ (s : State) (p : PowerOn), p.boot < 4 → p.slot < 16 → s.dev.clk.power ∈ [.mainLost, .tripped, .waking] → s.dev.straps.boot ≠ 1 →
    p.slotA = true →
    ∃ t, exec (.mainRailsGood p) s = .next t ∧ t.pending = s.pending ∧ t.dev.clk.power = .run ∧ t.dev.pins.mainEn = true ∧
      t.dev.pos = { s.dev.pos with handover := s.dev.clk.accumulating } ∧ t.dev.jnl.flashA = s.dev.jnl.flashA ∧
      t.dev.straps = s.dev.straps) ∧
  ∀ (s : State) (v : Word) (x : Circ), NoErrors x → Canonical s.dev → s.dev.clk.power = .awaitImage → s.dev.clk.warmWanted = false →
    bit 0 v.toNat = true →
    let image := bytesAt s.dev 0 (64 * bits 31 8 v.toNat)
    (Config.imageVerifies image = true → firstBad s.dev 0 image.length = none →
      ∃ t, exec (.bootGo v x) s = .next t ∧ t.pending = s.pending ∧ t.dev.clk.power = .run ∧ t.dev.mem = s.dev.mem ∧
        fget t.dev oBootCtrl fBootCtrlSource = 2 ∧ rget t.dev oFwVersion = Config.imageVersion image) ∧
    (Config.imageVerifies image = false ∨ (firstBad s.dev 0 image.length).isSome = true →
      ∃ w, exec (.bootGo v x) s = .next { s with dev := rput oBootCtrl w s.dev } ∧ bits 1 1 w.toNat = 1 ∧
        bits 31 8 w.toNat = bits 31 8 v.toNat)

/-! ## HBM -/

/-- The scrubber goes on by one block a step; a block found uncorrectable is poisoned and counted, and one with a single-bit error is corrected
and counted (R405 to R407). A page that retires is
moved to a spare page: every address of HBM reads as before (R408, R409). The sum of MIN_RATE stays within 7,200 (R413), and a region that
meets another or ends beyond HBM is not enabled (R403, R404). -/
def Obligations.HbmMaintained : Prop :=
  (∀ (s : State) (k : Nat), k < 6 → fbit s.dev oHbmCtrl fHbmCtrlScrubEn = true →
    let x := tabGet 0 k s.dev.hbm.scrub
    let l := hbmUnmap s.dev k x
    let h := { s.dev.hbm with scrub := tabSet 0 k ((x + 32) % 2 ^ 36) s.dev.hbm.scrub }
    let d := hbmRead l 32 none { s.dev with hbm := h }
    exec (.scrubRead k {}) s = .next { s with dev := d } ∧
    (∀ a r, exec (.scrubRead k { hard := a :: r }) s = .next { s with dev := poisonAt 0 l d }) ∧
    ∀ a r, exec (.scrubRead k { soft := a :: r }) s = .next { s with dev := correctedAt l d }) ∧
  (∀ (d : Device) (p l : Nat), p < 64 → isHbm l = true → memKey d l - memKey d l % 32 ∉ d.merr.poison →
    badAt (poisonAt p l d) l = true ∧ (poisonAt p l d).mem = d.mem ∧ (poisonAt p l d).cmds = d.cmds) ∧
  (∀ (s : State) (k page e : Nat) (u : Bool), k < 6 → page < 16777216 → Canonical s.dev → s.dev.hbm.retiring = [(k, page, u)] →
    freeEntry s.dev k = some e → retiredAt s.dev k page = none → regions s.dev = [] →
    (∀ q, retiredAt s.dev k q ≠ some e) → (∀ x < 4096, memGet s.dev (k * 2 ^ 37 + 2 ^ 36 + e * 4096 + x) = 0) →
    ∃ t, exec (.pageRetire k page 0) s = .next t ∧ t.pending = s.pending ∧ retiredAt t.dev k page = some e ∧ t.dev.hbm.retiring = [] ∧
      (∀ l, mapped l = true → byteAt t.dev l = byteAt s.dev l) ∧ t.dev.cmds = s.dev.cmds) ∧
  (∀ (s : State) (k : Nat) (v : Word), k < 8 →
    (7200 < rateSum s.dev k (bits 12 0 v.toNat) →
      exec (.hbmClassWrite k v) s = .next { s with dev := fput oHbmCtrl fHbmCtrlClassErr 1 s.dev }) ∧
    (rateSum s.dev k (bits 12 0 v.toNat) ≤ 7200 →
      exec (.hbmClassWrite k v) s =
        .next { s with dev := rputConfig 0x10000 (oHbmClass k) (BitVec.ofNat 32 (bits 15 0 v.toNat)) s.dev })) ∧
  ∀ (s : State) (n : Nat) (v : Word), n < 8 → Canonical s.dev →
    let b := bits 6 1 (bits 12 0 v.toNat)
    let g := bits 12 7 (bits 12 0 v.toNat)
    (fbit s.dev (oHbmRegion n) fHbmRegionEnable = true → bit 0 v.toNat = true → exec (.hbmRegionWrite n v) s = .next s) ∧
    (fbit s.dev (oHbmRegion n) fHbmRegionEnable = false → bit 0 v.toNat = true → regionRefused s.dev n b g = true →
      ∃ t, exec (.hbmRegionWrite n v) s = .next t ∧ t.pending = s.pending ∧ fbit t.dev (oHbmRegion n) fHbmRegionEnable = false ∧
        fbit t.dev oHbmCtrl fHbmCtrlRegionErr = true ∧ t.dev.mem = s.dev.mem ∧ t.dev.cmds = s.dev.cmds) ∧
    (fbit s.dev (oHbmRegion n) fHbmRegionEnable = false → bit 0 v.toNat = true → regionRefused s.dev n b g = false →
      exec (.hbmRegionWrite n v) s =
        .next { s with dev := rputConfig 0x10000 (oHbmRegion n) (BitVec.ofNat 32 (bits 12 0 v.toNat)) s.dev })
end

