-- ==== Sys2Proof/Laws/State.lean ====
section
/-! SUPPORT. One lemma per field and update of the device: a named update of one table leaves every other field of the state. -/

namespace Sys2Proof.Machine

/-! ### rput -/

@[simp] theorem rput_variant (off : Nat) (w : Word) (d : Device) : (rput off w d).variant = d.variant := rfl
@[simp] theorem rput_straps (off : Nat) (w : Word) (d : Device) : (rput off w d).straps = d.straps := rfl
@[simp] theorem rput_images (off : Nat) (w : Word) (d : Device) : (rput off w d).images = d.images := rfl
@[simp] theorem rput_pins (off : Nat) (w : Word) (d : Device) : (rput off w d).pins = d.pins := rfl
@[simp] theorem rput_clk (off : Nat) (w : Word) (d : Device) : (rput off w d).clk = d.clk := rfl
@[simp] theorem rput_pcie (off : Nat) (w : Word) (d : Device) : (rput off w d).pcie = d.pcie := rfl
@[simp] theorem rput_lockWritten (off : Nat) (w : Word) (d : Device) : (rput off w d).lockWritten = d.lockWritten := rfl
@[simp] theorem rput_frz (off : Nat) (w : Word) (d : Device) : (rput off w d).frz = d.frz := rfl
@[simp] theorem rput_mem (off : Nat) (w : Word) (d : Device) : (rput off w d).mem = d.mem := rfl
@[simp] theorem rput_merr (off : Nat) (w : Word) (d : Device) : (rput off w d).merr = d.merr := rfl
@[simp] theorem rput_hbm (off : Nat) (w : Word) (d : Device) : (rput off w d).hbm = d.hbm := rfl
@[simp] theorem rput_parts (off : Nat) (w : Word) (d : Device) : (rput off w d).parts = d.parts := rfl
@[simp] theorem rput_cmds (off : Nat) (w : Word) (d : Device) : (rput off w d).cmds = d.cmds := rfl
@[simp] theorem rput_nextId (off : Nat) (w : Word) (d : Device) : (rput off w d).nextId = d.nextId := rfl
@[simp] theorem rput_fetchLast (off : Nat) (w : Word) (d : Device) : (rput off w d).fetchLast = d.fetchLast := rfl
@[simp] theorem rput_arrs (off : Nat) (w : Word) (d : Device) : (rput off w d).arrs = d.arrs := rfl
@[simp] theorem rput_tiles (off : Nat) (w : Word) (d : Device) : (rput off w d).tiles = d.tiles := rfl
@[simp] theorem rput_subst (off : Nat) (w : Word) (d : Device) : (rput off w d).subst = d.subst := rfl
@[simp] theorem rput_waiting (off : Nat) (w : Word) (d : Device) : (rput off w d).waiting = d.waiting := rfl
@[simp] theorem rput_served (off : Nat) (w : Word) (d : Device) : (rput off w d).served = d.served := rfl
@[simp] theorem rput_scat (off : Nat) (w : Word) (d : Device) : (rput off w d).scat = d.scat := rfl
@[simp] theorem rput_scs (off : Nat) (w : Word) (d : Device) : (rput off w d).scs = d.scs := rfl
@[simp] theorem rput_links (off : Nat) (w : Word) (d : Device) : (rput off w d).links = d.links := rfl
@[simp] theorem rput_align (off : Nat) (w : Word) (d : Device) : (rput off w d).align = d.align := rfl
@[simp] theorem rput_rem (off : Nat) (w : Word) (d : Device) : (rput off w d).rem = d.rem := rfl
@[simp] theorem rput_coll (off : Nat) (w : Word) (d : Device) : (rput off w d).coll = d.coll := rfl
@[simp] theorem rput_pair (off : Nat) (w : Word) (d : Device) : (rput off w d).pair = d.pair := rfl
@[simp] theorem rput_pos (off : Nat) (w : Word) (d : Device) : (rput off w d).pos = d.pos := rfl
@[simp] theorem rput_trigs (off : Nat) (w : Word) (d : Device) : (rput off w d).trigs = d.trigs := rfl
@[simp] theorem rput_trigRecs (off : Nat) (w : Word) (d : Device) : (rput off w d).trigRecs = d.trigRecs := rfl
@[simp] theorem rput_ilk (off : Nat) (w : Word) (d : Device) : (rput off w d).ilk = d.ilk := rfl
@[simp] theorem rput_jnl (off : Nat) (w : Word) (d : Device) : (rput off w d).jnl = d.jnl := rfl
@[simp] theorem rput_trc (off : Nat) (w : Word) (d : Device) : (rput off w d).trc = d.trc := rfl
@[simp] theorem rput_smp (off : Nat) (w : Word) (d : Device) : (rput off w d).smp = d.smp := rfl
@[simp] theorem rput_smpCount (off : Nat) (w : Word) (d : Device) : (rput off w d).smpCount = d.smpCount := rfl
@[simp] theorem rput_free (off : Nat) (w : Word) (d : Device) : (rput off w d).free = d.free := rfl
@[simp] theorem rput_out (off : Nat) (w : Word) (d : Device) : (rput off w d).out = d.out := rfl

/-! ### fput -/

@[simp] theorem fput_variant (off : Nat) (f : Fld) (v : Nat) (d : Device) : (fput off f v d).variant = d.variant := rfl
@[simp] theorem fput_straps (off : Nat) (f : Fld) (v : Nat) (d : Device) : (fput off f v d).straps = d.straps := rfl
@[simp] theorem fput_images (off : Nat) (f : Fld) (v : Nat) (d : Device) : (fput off f v d).images = d.images := rfl
@[simp] theorem fput_pins (off : Nat) (f : Fld) (v : Nat) (d : Device) : (fput off f v d).pins = d.pins := rfl
@[simp] theorem fput_clk (off : Nat) (f : Fld) (v : Nat) (d : Device) : (fput off f v d).clk = d.clk := rfl
@[simp] theorem fput_pcie (off : Nat) (f : Fld) (v : Nat) (d : Device) : (fput off f v d).pcie = d.pcie := rfl
@[simp] theorem fput_lockWritten (off : Nat) (f : Fld) (v : Nat) (d : Device) : (fput off f v d).lockWritten = d.lockWritten := rfl
@[simp] theorem fput_frz (off : Nat) (f : Fld) (v : Nat) (d : Device) : (fput off f v d).frz = d.frz := rfl
@[simp] theorem fput_mem (off : Nat) (f : Fld) (v : Nat) (d : Device) : (fput off f v d).mem = d.mem := rfl
@[simp] theorem fput_merr (off : Nat) (f : Fld) (v : Nat) (d : Device) : (fput off f v d).merr = d.merr := rfl
@[simp] theorem fput_hbm (off : Nat) (f : Fld) (v : Nat) (d : Device) : (fput off f v d).hbm = d.hbm := rfl
@[simp] theorem fput_parts (off : Nat) (f : Fld) (v : Nat) (d : Device) : (fput off f v d).parts = d.parts := rfl
@[simp] theorem fput_cmds (off : Nat) (f : Fld) (v : Nat) (d : Device) : (fput off f v d).cmds = d.cmds := rfl
@[simp] theorem fput_nextId (off : Nat) (f : Fld) (v : Nat) (d : Device) : (fput off f v d).nextId = d.nextId := rfl
@[simp] theorem fput_fetchLast (off : Nat) (f : Fld) (v : Nat) (d : Device) : (fput off f v d).fetchLast = d.fetchLast := rfl
@[simp] theorem fput_arrs (off : Nat) (f : Fld) (v : Nat) (d : Device) : (fput off f v d).arrs = d.arrs := rfl
@[simp] theorem fput_tiles (off : Nat) (f : Fld) (v : Nat) (d : Device) : (fput off f v d).tiles = d.tiles := rfl
@[simp] theorem fput_subst (off : Nat) (f : Fld) (v : Nat) (d : Device) : (fput off f v d).subst = d.subst := rfl
@[simp] theorem fput_waiting (off : Nat) (f : Fld) (v : Nat) (d : Device) : (fput off f v d).waiting = d.waiting := rfl
@[simp] theorem fput_served (off : Nat) (f : Fld) (v : Nat) (d : Device) : (fput off f v d).served = d.served := rfl
@[simp] theorem fput_scat (off : Nat) (f : Fld) (v : Nat) (d : Device) : (fput off f v d).scat = d.scat := rfl
@[simp] theorem fput_scs (off : Nat) (f : Fld) (v : Nat) (d : Device) : (fput off f v d).scs = d.scs := rfl
@[simp] theorem fput_links (off : Nat) (f : Fld) (v : Nat) (d : Device) : (fput off f v d).links = d.links := rfl
@[simp] theorem fput_align (off : Nat) (f : Fld) (v : Nat) (d : Device) : (fput off f v d).align = d.align := rfl
@[simp] theorem fput_rem (off : Nat) (f : Fld) (v : Nat) (d : Device) : (fput off f v d).rem = d.rem := rfl
@[simp] theorem fput_coll (off : Nat) (f : Fld) (v : Nat) (d : Device) : (fput off f v d).coll = d.coll := rfl
@[simp] theorem fput_pair (off : Nat) (f : Fld) (v : Nat) (d : Device) : (fput off f v d).pair = d.pair := rfl
@[simp] theorem fput_pos (off : Nat) (f : Fld) (v : Nat) (d : Device) : (fput off f v d).pos = d.pos := rfl
@[simp] theorem fput_trigs (off : Nat) (f : Fld) (v : Nat) (d : Device) : (fput off f v d).trigs = d.trigs := rfl
@[simp] theorem fput_trigRecs (off : Nat) (f : Fld) (v : Nat) (d : Device) : (fput off f v d).trigRecs = d.trigRecs := rfl
@[simp] theorem fput_ilk (off : Nat) (f : Fld) (v : Nat) (d : Device) : (fput off f v d).ilk = d.ilk := rfl
@[simp] theorem fput_jnl (off : Nat) (f : Fld) (v : Nat) (d : Device) : (fput off f v d).jnl = d.jnl := rfl
@[simp] theorem fput_trc (off : Nat) (f : Fld) (v : Nat) (d : Device) : (fput off f v d).trc = d.trc := rfl
@[simp] theorem fput_smp (off : Nat) (f : Fld) (v : Nat) (d : Device) : (fput off f v d).smp = d.smp := rfl
@[simp] theorem fput_smpCount (off : Nat) (f : Fld) (v : Nat) (d : Device) : (fput off f v d).smpCount = d.smpCount := rfl
@[simp] theorem fput_free (off : Nat) (f : Fld) (v : Nat) (d : Device) : (fput off f v d).free = d.free := rfl
@[simp] theorem fput_out (off : Nat) (f : Fld) (v : Nat) (d : Device) : (fput off f v d).out = d.out := rfl

/-! ### fsat -/

@[simp] theorem fsat_variant (off : Nat) (f : Fld) (n : Nat) (d : Device) : (fsat off f n d).variant = d.variant := rfl
@[simp] theorem fsat_straps (off : Nat) (f : Fld) (n : Nat) (d : Device) : (fsat off f n d).straps = d.straps := rfl
@[simp] theorem fsat_images (off : Nat) (f : Fld) (n : Nat) (d : Device) : (fsat off f n d).images = d.images := rfl
@[simp] theorem fsat_pins (off : Nat) (f : Fld) (n : Nat) (d : Device) : (fsat off f n d).pins = d.pins := rfl
@[simp] theorem fsat_clk (off : Nat) (f : Fld) (n : Nat) (d : Device) : (fsat off f n d).clk = d.clk := rfl
@[simp] theorem fsat_pcie (off : Nat) (f : Fld) (n : Nat) (d : Device) : (fsat off f n d).pcie = d.pcie := rfl
@[simp] theorem fsat_lockWritten (off : Nat) (f : Fld) (n : Nat) (d : Device) : (fsat off f n d).lockWritten = d.lockWritten := rfl
@[simp] theorem fsat_frz (off : Nat) (f : Fld) (n : Nat) (d : Device) : (fsat off f n d).frz = d.frz := rfl
@[simp] theorem fsat_mem (off : Nat) (f : Fld) (n : Nat) (d : Device) : (fsat off f n d).mem = d.mem := rfl
@[simp] theorem fsat_merr (off : Nat) (f : Fld) (n : Nat) (d : Device) : (fsat off f n d).merr = d.merr := rfl
@[simp] theorem fsat_hbm (off : Nat) (f : Fld) (n : Nat) (d : Device) : (fsat off f n d).hbm = d.hbm := rfl
@[simp] theorem fsat_parts (off : Nat) (f : Fld) (n : Nat) (d : Device) : (fsat off f n d).parts = d.parts := rfl
@[simp] theorem fsat_cmds (off : Nat) (f : Fld) (n : Nat) (d : Device) : (fsat off f n d).cmds = d.cmds := rfl
@[simp] theorem fsat_nextId (off : Nat) (f : Fld) (n : Nat) (d : Device) : (fsat off f n d).nextId = d.nextId := rfl
@[simp] theorem fsat_fetchLast (off : Nat) (f : Fld) (n : Nat) (d : Device) : (fsat off f n d).fetchLast = d.fetchLast := rfl
@[simp] theorem fsat_arrs (off : Nat) (f : Fld) (n : Nat) (d : Device) : (fsat off f n d).arrs = d.arrs := rfl
@[simp] theorem fsat_tiles (off : Nat) (f : Fld) (n : Nat) (d : Device) : (fsat off f n d).tiles = d.tiles := rfl
@[simp] theorem fsat_subst (off : Nat) (f : Fld) (n : Nat) (d : Device) : (fsat off f n d).subst = d.subst := rfl
@[simp] theorem fsat_waiting (off : Nat) (f : Fld) (n : Nat) (d : Device) : (fsat off f n d).waiting = d.waiting := rfl
@[simp] theorem fsat_served (off : Nat) (f : Fld) (n : Nat) (d : Device) : (fsat off f n d).served = d.served := rfl
@[simp] theorem fsat_scat (off : Nat) (f : Fld) (n : Nat) (d : Device) : (fsat off f n d).scat = d.scat := rfl
@[simp] theorem fsat_scs (off : Nat) (f : Fld) (n : Nat) (d : Device) : (fsat off f n d).scs = d.scs := rfl
@[simp] theorem fsat_links (off : Nat) (f : Fld) (n : Nat) (d : Device) : (fsat off f n d).links = d.links := rfl
@[simp] theorem fsat_align (off : Nat) (f : Fld) (n : Nat) (d : Device) : (fsat off f n d).align = d.align := rfl
@[simp] theorem fsat_rem (off : Nat) (f : Fld) (n : Nat) (d : Device) : (fsat off f n d).rem = d.rem := rfl
@[simp] theorem fsat_coll (off : Nat) (f : Fld) (n : Nat) (d : Device) : (fsat off f n d).coll = d.coll := rfl
@[simp] theorem fsat_pair (off : Nat) (f : Fld) (n : Nat) (d : Device) : (fsat off f n d).pair = d.pair := rfl
@[simp] theorem fsat_pos (off : Nat) (f : Fld) (n : Nat) (d : Device) : (fsat off f n d).pos = d.pos := rfl
@[simp] theorem fsat_trigs (off : Nat) (f : Fld) (n : Nat) (d : Device) : (fsat off f n d).trigs = d.trigs := rfl
@[simp] theorem fsat_trigRecs (off : Nat) (f : Fld) (n : Nat) (d : Device) : (fsat off f n d).trigRecs = d.trigRecs := rfl
@[simp] theorem fsat_ilk (off : Nat) (f : Fld) (n : Nat) (d : Device) : (fsat off f n d).ilk = d.ilk := rfl
@[simp] theorem fsat_jnl (off : Nat) (f : Fld) (n : Nat) (d : Device) : (fsat off f n d).jnl = d.jnl := rfl
@[simp] theorem fsat_trc (off : Nat) (f : Fld) (n : Nat) (d : Device) : (fsat off f n d).trc = d.trc := rfl
@[simp] theorem fsat_smp (off : Nat) (f : Fld) (n : Nat) (d : Device) : (fsat off f n d).smp = d.smp := rfl
@[simp] theorem fsat_smpCount (off : Nat) (f : Fld) (n : Nat) (d : Device) : (fsat off f n d).smpCount = d.smpCount := rfl
@[simp] theorem fsat_free (off : Nat) (f : Fld) (n : Nat) (d : Device) : (fsat off f n d).free = d.free := rfl
@[simp] theorem fsat_out (off : Nat) (f : Fld) (n : Nat) (d : Device) : (fsat off f n d).out = d.out := rfl

/-! ### fwrap -/

@[simp] theorem fwrap_variant (off : Nat) (f : Fld) (n : Nat) (d : Device) : (fwrap off f n d).variant = d.variant := rfl
@[simp] theorem fwrap_straps (off : Nat) (f : Fld) (n : Nat) (d : Device) : (fwrap off f n d).straps = d.straps := rfl
@[simp] theorem fwrap_images (off : Nat) (f : Fld) (n : Nat) (d : Device) : (fwrap off f n d).images = d.images := rfl
@[simp] theorem fwrap_pins (off : Nat) (f : Fld) (n : Nat) (d : Device) : (fwrap off f n d).pins = d.pins := rfl
@[simp] theorem fwrap_clk (off : Nat) (f : Fld) (n : Nat) (d : Device) : (fwrap off f n d).clk = d.clk := rfl
@[simp] theorem fwrap_pcie (off : Nat) (f : Fld) (n : Nat) (d : Device) : (fwrap off f n d).pcie = d.pcie := rfl
@[simp] theorem fwrap_lockWritten (off : Nat) (f : Fld) (n : Nat) (d : Device) : (fwrap off f n d).lockWritten = d.lockWritten := rfl
@[simp] theorem fwrap_frz (off : Nat) (f : Fld) (n : Nat) (d : Device) : (fwrap off f n d).frz = d.frz := rfl
@[simp] theorem fwrap_mem (off : Nat) (f : Fld) (n : Nat) (d : Device) : (fwrap off f n d).mem = d.mem := rfl
@[simp] theorem fwrap_merr (off : Nat) (f : Fld) (n : Nat) (d : Device) : (fwrap off f n d).merr = d.merr := rfl
@[simp] theorem fwrap_hbm (off : Nat) (f : Fld) (n : Nat) (d : Device) : (fwrap off f n d).hbm = d.hbm := rfl
@[simp] theorem fwrap_parts (off : Nat) (f : Fld) (n : Nat) (d : Device) : (fwrap off f n d).parts = d.parts := rfl
@[simp] theorem fwrap_cmds (off : Nat) (f : Fld) (n : Nat) (d : Device) : (fwrap off f n d).cmds = d.cmds := rfl
@[simp] theorem fwrap_nextId (off : Nat) (f : Fld) (n : Nat) (d : Device) : (fwrap off f n d).nextId = d.nextId := rfl
@[simp] theorem fwrap_fetchLast (off : Nat) (f : Fld) (n : Nat) (d : Device) : (fwrap off f n d).fetchLast = d.fetchLast := rfl
@[simp] theorem fwrap_arrs (off : Nat) (f : Fld) (n : Nat) (d : Device) : (fwrap off f n d).arrs = d.arrs := rfl
@[simp] theorem fwrap_tiles (off : Nat) (f : Fld) (n : Nat) (d : Device) : (fwrap off f n d).tiles = d.tiles := rfl
@[simp] theorem fwrap_subst (off : Nat) (f : Fld) (n : Nat) (d : Device) : (fwrap off f n d).subst = d.subst := rfl
@[simp] theorem fwrap_waiting (off : Nat) (f : Fld) (n : Nat) (d : Device) : (fwrap off f n d).waiting = d.waiting := rfl
@[simp] theorem fwrap_served (off : Nat) (f : Fld) (n : Nat) (d : Device) : (fwrap off f n d).served = d.served := rfl
@[simp] theorem fwrap_scat (off : Nat) (f : Fld) (n : Nat) (d : Device) : (fwrap off f n d).scat = d.scat := rfl
@[simp] theorem fwrap_scs (off : Nat) (f : Fld) (n : Nat) (d : Device) : (fwrap off f n d).scs = d.scs := rfl
@[simp] theorem fwrap_links (off : Nat) (f : Fld) (n : Nat) (d : Device) : (fwrap off f n d).links = d.links := rfl
@[simp] theorem fwrap_align (off : Nat) (f : Fld) (n : Nat) (d : Device) : (fwrap off f n d).align = d.align := rfl
@[simp] theorem fwrap_rem (off : Nat) (f : Fld) (n : Nat) (d : Device) : (fwrap off f n d).rem = d.rem := rfl
@[simp] theorem fwrap_coll (off : Nat) (f : Fld) (n : Nat) (d : Device) : (fwrap off f n d).coll = d.coll := rfl
@[simp] theorem fwrap_pair (off : Nat) (f : Fld) (n : Nat) (d : Device) : (fwrap off f n d).pair = d.pair := rfl
@[simp] theorem fwrap_pos (off : Nat) (f : Fld) (n : Nat) (d : Device) : (fwrap off f n d).pos = d.pos := rfl
@[simp] theorem fwrap_trigs (off : Nat) (f : Fld) (n : Nat) (d : Device) : (fwrap off f n d).trigs = d.trigs := rfl
@[simp] theorem fwrap_trigRecs (off : Nat) (f : Fld) (n : Nat) (d : Device) : (fwrap off f n d).trigRecs = d.trigRecs := rfl
@[simp] theorem fwrap_ilk (off : Nat) (f : Fld) (n : Nat) (d : Device) : (fwrap off f n d).ilk = d.ilk := rfl
@[simp] theorem fwrap_jnl (off : Nat) (f : Fld) (n : Nat) (d : Device) : (fwrap off f n d).jnl = d.jnl := rfl
@[simp] theorem fwrap_trc (off : Nat) (f : Fld) (n : Nat) (d : Device) : (fwrap off f n d).trc = d.trc := rfl
@[simp] theorem fwrap_smp (off : Nat) (f : Fld) (n : Nat) (d : Device) : (fwrap off f n d).smp = d.smp := rfl
@[simp] theorem fwrap_smpCount (off : Nat) (f : Fld) (n : Nat) (d : Device) : (fwrap off f n d).smpCount = d.smpCount := rfl
@[simp] theorem fwrap_free (off : Nat) (f : Fld) (n : Nat) (d : Device) : (fwrap off f n d).free = d.free := rfl
@[simp] theorem fwrap_out (off : Nat) (f : Fld) (n : Nat) (d : Device) : (fwrap off f n d).out = d.out := rfl

/-! ### rreset -/

@[simp] theorem rreset_variant (p : Nat → Bool) (d : Device) : (rreset p d).variant = d.variant := rfl
@[simp] theorem rreset_straps (p : Nat → Bool) (d : Device) : (rreset p d).straps = d.straps := rfl
@[simp] theorem rreset_images (p : Nat → Bool) (d : Device) : (rreset p d).images = d.images := rfl
@[simp] theorem rreset_pins (p : Nat → Bool) (d : Device) : (rreset p d).pins = d.pins := rfl
@[simp] theorem rreset_clk (p : Nat → Bool) (d : Device) : (rreset p d).clk = d.clk := rfl
@[simp] theorem rreset_pcie (p : Nat → Bool) (d : Device) : (rreset p d).pcie = d.pcie := rfl
@[simp] theorem rreset_lockWritten (p : Nat → Bool) (d : Device) : (rreset p d).lockWritten = d.lockWritten := rfl
@[simp] theorem rreset_frz (p : Nat → Bool) (d : Device) : (rreset p d).frz = d.frz := rfl
@[simp] theorem rreset_mem (p : Nat → Bool) (d : Device) : (rreset p d).mem = d.mem := rfl
@[simp] theorem rreset_merr (p : Nat → Bool) (d : Device) : (rreset p d).merr = d.merr := rfl
@[simp] theorem rreset_hbm (p : Nat → Bool) (d : Device) : (rreset p d).hbm = d.hbm := rfl
@[simp] theorem rreset_parts (p : Nat → Bool) (d : Device) : (rreset p d).parts = d.parts := rfl
@[simp] theorem rreset_cmds (p : Nat → Bool) (d : Device) : (rreset p d).cmds = d.cmds := rfl
@[simp] theorem rreset_nextId (p : Nat → Bool) (d : Device) : (rreset p d).nextId = d.nextId := rfl
@[simp] theorem rreset_fetchLast (p : Nat → Bool) (d : Device) : (rreset p d).fetchLast = d.fetchLast := rfl
@[simp] theorem rreset_arrs (p : Nat → Bool) (d : Device) : (rreset p d).arrs = d.arrs := rfl
@[simp] theorem rreset_tiles (p : Nat → Bool) (d : Device) : (rreset p d).tiles = d.tiles := rfl
@[simp] theorem rreset_subst (p : Nat → Bool) (d : Device) : (rreset p d).subst = d.subst := rfl
@[simp] theorem rreset_waiting (p : Nat → Bool) (d : Device) : (rreset p d).waiting = d.waiting := rfl
@[simp] theorem rreset_served (p : Nat → Bool) (d : Device) : (rreset p d).served = d.served := rfl
@[simp] theorem rreset_scat (p : Nat → Bool) (d : Device) : (rreset p d).scat = d.scat := rfl
@[simp] theorem rreset_scs (p : Nat → Bool) (d : Device) : (rreset p d).scs = d.scs := rfl
@[simp] theorem rreset_links (p : Nat → Bool) (d : Device) : (rreset p d).links = d.links := rfl
@[simp] theorem rreset_align (p : Nat → Bool) (d : Device) : (rreset p d).align = d.align := rfl
@[simp] theorem rreset_rem (p : Nat → Bool) (d : Device) : (rreset p d).rem = d.rem := rfl
@[simp] theorem rreset_coll (p : Nat → Bool) (d : Device) : (rreset p d).coll = d.coll := rfl
@[simp] theorem rreset_pair (p : Nat → Bool) (d : Device) : (rreset p d).pair = d.pair := rfl
@[simp] theorem rreset_pos (p : Nat → Bool) (d : Device) : (rreset p d).pos = d.pos := rfl
@[simp] theorem rreset_trigs (p : Nat → Bool) (d : Device) : (rreset p d).trigs = d.trigs := rfl
@[simp] theorem rreset_trigRecs (p : Nat → Bool) (d : Device) : (rreset p d).trigRecs = d.trigRecs := rfl
@[simp] theorem rreset_ilk (p : Nat → Bool) (d : Device) : (rreset p d).ilk = d.ilk := rfl
@[simp] theorem rreset_jnl (p : Nat → Bool) (d : Device) : (rreset p d).jnl = d.jnl := rfl
@[simp] theorem rreset_trc (p : Nat → Bool) (d : Device) : (rreset p d).trc = d.trc := rfl
@[simp] theorem rreset_smp (p : Nat → Bool) (d : Device) : (rreset p d).smp = d.smp := rfl
@[simp] theorem rreset_smpCount (p : Nat → Bool) (d : Device) : (rreset p d).smpCount = d.smpCount := rfl
@[simp] theorem rreset_free (p : Nat → Bool) (d : Device) : (rreset p d).free = d.free := rfl
@[simp] theorem rreset_out (p : Nat → Bool) (d : Device) : (rreset p d).out = d.out := rfl

/-! ### setArr -/

@[simp] theorem setArr_variant (a : Nat) (x : Arr) (d : Device) : (setArr a x d).variant = d.variant := rfl
@[simp] theorem setArr_straps (a : Nat) (x : Arr) (d : Device) : (setArr a x d).straps = d.straps := rfl
@[simp] theorem setArr_images (a : Nat) (x : Arr) (d : Device) : (setArr a x d).images = d.images := rfl
@[simp] theorem setArr_pins (a : Nat) (x : Arr) (d : Device) : (setArr a x d).pins = d.pins := rfl
@[simp] theorem setArr_clk (a : Nat) (x : Arr) (d : Device) : (setArr a x d).clk = d.clk := rfl
@[simp] theorem setArr_pcie (a : Nat) (x : Arr) (d : Device) : (setArr a x d).pcie = d.pcie := rfl
@[simp] theorem setArr_regs (a : Nat) (x : Arr) (d : Device) : (setArr a x d).regs = d.regs := rfl
@[simp] theorem setArr_lockWritten (a : Nat) (x : Arr) (d : Device) : (setArr a x d).lockWritten = d.lockWritten := rfl
@[simp] theorem setArr_frz (a : Nat) (x : Arr) (d : Device) : (setArr a x d).frz = d.frz := rfl
@[simp] theorem setArr_mem (a : Nat) (x : Arr) (d : Device) : (setArr a x d).mem = d.mem := rfl
@[simp] theorem setArr_merr (a : Nat) (x : Arr) (d : Device) : (setArr a x d).merr = d.merr := rfl
@[simp] theorem setArr_hbm (a : Nat) (x : Arr) (d : Device) : (setArr a x d).hbm = d.hbm := rfl
@[simp] theorem setArr_parts (a : Nat) (x : Arr) (d : Device) : (setArr a x d).parts = d.parts := rfl
@[simp] theorem setArr_cmds (a : Nat) (x : Arr) (d : Device) : (setArr a x d).cmds = d.cmds := rfl
@[simp] theorem setArr_nextId (a : Nat) (x : Arr) (d : Device) : (setArr a x d).nextId = d.nextId := rfl
@[simp] theorem setArr_fetchLast (a : Nat) (x : Arr) (d : Device) : (setArr a x d).fetchLast = d.fetchLast := rfl
@[simp] theorem setArr_tiles (a : Nat) (x : Arr) (d : Device) : (setArr a x d).tiles = d.tiles := rfl
@[simp] theorem setArr_subst (a : Nat) (x : Arr) (d : Device) : (setArr a x d).subst = d.subst := rfl
@[simp] theorem setArr_waiting (a : Nat) (x : Arr) (d : Device) : (setArr a x d).waiting = d.waiting := rfl
@[simp] theorem setArr_served (a : Nat) (x : Arr) (d : Device) : (setArr a x d).served = d.served := rfl
@[simp] theorem setArr_scat (a : Nat) (x : Arr) (d : Device) : (setArr a x d).scat = d.scat := rfl
@[simp] theorem setArr_scs (a : Nat) (x : Arr) (d : Device) : (setArr a x d).scs = d.scs := rfl
@[simp] theorem setArr_links (a : Nat) (x : Arr) (d : Device) : (setArr a x d).links = d.links := rfl
@[simp] theorem setArr_align (a : Nat) (x : Arr) (d : Device) : (setArr a x d).align = d.align := rfl
@[simp] theorem setArr_rem (a : Nat) (x : Arr) (d : Device) : (setArr a x d).rem = d.rem := rfl
@[simp] theorem setArr_coll (a : Nat) (x : Arr) (d : Device) : (setArr a x d).coll = d.coll := rfl
@[simp] theorem setArr_pair (a : Nat) (x : Arr) (d : Device) : (setArr a x d).pair = d.pair := rfl
@[simp] theorem setArr_pos (a : Nat) (x : Arr) (d : Device) : (setArr a x d).pos = d.pos := rfl
@[simp] theorem setArr_trigs (a : Nat) (x : Arr) (d : Device) : (setArr a x d).trigs = d.trigs := rfl
@[simp] theorem setArr_trigRecs (a : Nat) (x : Arr) (d : Device) : (setArr a x d).trigRecs = d.trigRecs := rfl
@[simp] theorem setArr_ilk (a : Nat) (x : Arr) (d : Device) : (setArr a x d).ilk = d.ilk := rfl
@[simp] theorem setArr_jnl (a : Nat) (x : Arr) (d : Device) : (setArr a x d).jnl = d.jnl := rfl
@[simp] theorem setArr_trc (a : Nat) (x : Arr) (d : Device) : (setArr a x d).trc = d.trc := rfl
@[simp] theorem setArr_smp (a : Nat) (x : Arr) (d : Device) : (setArr a x d).smp = d.smp := rfl
@[simp] theorem setArr_smpCount (a : Nat) (x : Arr) (d : Device) : (setArr a x d).smpCount = d.smpCount := rfl
@[simp] theorem setArr_free (a : Nat) (x : Arr) (d : Device) : (setArr a x d).free = d.free := rfl
@[simp] theorem setArr_out (a : Nat) (x : Arr) (d : Device) : (setArr a x d).out = d.out := rfl

/-! ### setPart -/

@[simp] theorem setPart_variant (p : Nat) (x : Part) (d : Device) : (setPart p x d).variant = d.variant := rfl
@[simp] theorem setPart_straps (p : Nat) (x : Part) (d : Device) : (setPart p x d).straps = d.straps := rfl
@[simp] theorem setPart_images (p : Nat) (x : Part) (d : Device) : (setPart p x d).images = d.images := rfl
@[simp] theorem setPart_pins (p : Nat) (x : Part) (d : Device) : (setPart p x d).pins = d.pins := rfl
@[simp] theorem setPart_clk (p : Nat) (x : Part) (d : Device) : (setPart p x d).clk = d.clk := rfl
@[simp] theorem setPart_pcie (p : Nat) (x : Part) (d : Device) : (setPart p x d).pcie = d.pcie := rfl
@[simp] theorem setPart_regs (p : Nat) (x : Part) (d : Device) : (setPart p x d).regs = d.regs := rfl
@[simp] theorem setPart_lockWritten (p : Nat) (x : Part) (d : Device) : (setPart p x d).lockWritten = d.lockWritten := rfl
@[simp] theorem setPart_frz (p : Nat) (x : Part) (d : Device) : (setPart p x d).frz = d.frz := rfl
@[simp] theorem setPart_mem (p : Nat) (x : Part) (d : Device) : (setPart p x d).mem = d.mem := rfl
@[simp] theorem setPart_merr (p : Nat) (x : Part) (d : Device) : (setPart p x d).merr = d.merr := rfl
@[simp] theorem setPart_hbm (p : Nat) (x : Part) (d : Device) : (setPart p x d).hbm = d.hbm := rfl
@[simp] theorem setPart_cmds (p : Nat) (x : Part) (d : Device) : (setPart p x d).cmds = d.cmds := rfl
@[simp] theorem setPart_nextId (p : Nat) (x : Part) (d : Device) : (setPart p x d).nextId = d.nextId := rfl
@[simp] theorem setPart_fetchLast (p : Nat) (x : Part) (d : Device) : (setPart p x d).fetchLast = d.fetchLast := rfl
@[simp] theorem setPart_arrs (p : Nat) (x : Part) (d : Device) : (setPart p x d).arrs = d.arrs := rfl
@[simp] theorem setPart_tiles (p : Nat) (x : Part) (d : Device) : (setPart p x d).tiles = d.tiles := rfl
@[simp] theorem setPart_subst (p : Nat) (x : Part) (d : Device) : (setPart p x d).subst = d.subst := rfl
@[simp] theorem setPart_waiting (p : Nat) (x : Part) (d : Device) : (setPart p x d).waiting = d.waiting := rfl
@[simp] theorem setPart_served (p : Nat) (x : Part) (d : Device) : (setPart p x d).served = d.served := rfl
@[simp] theorem setPart_scat (p : Nat) (x : Part) (d : Device) : (setPart p x d).scat = d.scat := rfl
@[simp] theorem setPart_scs (p : Nat) (x : Part) (d : Device) : (setPart p x d).scs = d.scs := rfl
@[simp] theorem setPart_links (p : Nat) (x : Part) (d : Device) : (setPart p x d).links = d.links := rfl
@[simp] theorem setPart_align (p : Nat) (x : Part) (d : Device) : (setPart p x d).align = d.align := rfl
@[simp] theorem setPart_rem (p : Nat) (x : Part) (d : Device) : (setPart p x d).rem = d.rem := rfl
@[simp] theorem setPart_coll (p : Nat) (x : Part) (d : Device) : (setPart p x d).coll = d.coll := rfl
@[simp] theorem setPart_pair (p : Nat) (x : Part) (d : Device) : (setPart p x d).pair = d.pair := rfl
@[simp] theorem setPart_pos (p : Nat) (x : Part) (d : Device) : (setPart p x d).pos = d.pos := rfl
@[simp] theorem setPart_trigs (p : Nat) (x : Part) (d : Device) : (setPart p x d).trigs = d.trigs := rfl
@[simp] theorem setPart_trigRecs (p : Nat) (x : Part) (d : Device) : (setPart p x d).trigRecs = d.trigRecs := rfl
@[simp] theorem setPart_ilk (p : Nat) (x : Part) (d : Device) : (setPart p x d).ilk = d.ilk := rfl
@[simp] theorem setPart_jnl (p : Nat) (x : Part) (d : Device) : (setPart p x d).jnl = d.jnl := rfl
@[simp] theorem setPart_trc (p : Nat) (x : Part) (d : Device) : (setPart p x d).trc = d.trc := rfl
@[simp] theorem setPart_smp (p : Nat) (x : Part) (d : Device) : (setPart p x d).smp = d.smp := rfl
@[simp] theorem setPart_smpCount (p : Nat) (x : Part) (d : Device) : (setPart p x d).smpCount = d.smpCount := rfl
@[simp] theorem setPart_free (p : Nat) (x : Part) (d : Device) : (setPart p x d).free = d.free := rfl
@[simp] theorem setPart_out (p : Nat) (x : Part) (d : Device) : (setPart p x d).out = d.out := rfl

/-! ### setSc -/

@[simp] theorem setSc_variant (ch : Nat) (x : ScRt) (d : Device) : (setSc ch x d).variant = d.variant := rfl
@[simp] theorem setSc_straps (ch : Nat) (x : ScRt) (d : Device) : (setSc ch x d).straps = d.straps := rfl
@[simp] theorem setSc_images (ch : Nat) (x : ScRt) (d : Device) : (setSc ch x d).images = d.images := rfl
@[simp] theorem setSc_pins (ch : Nat) (x : ScRt) (d : Device) : (setSc ch x d).pins = d.pins := rfl
@[simp] theorem setSc_clk (ch : Nat) (x : ScRt) (d : Device) : (setSc ch x d).clk = d.clk := rfl
@[simp] theorem setSc_pcie (ch : Nat) (x : ScRt) (d : Device) : (setSc ch x d).pcie = d.pcie := rfl
@[simp] theorem setSc_regs (ch : Nat) (x : ScRt) (d : Device) : (setSc ch x d).regs = d.regs := rfl
@[simp] theorem setSc_lockWritten (ch : Nat) (x : ScRt) (d : Device) : (setSc ch x d).lockWritten = d.lockWritten := rfl
@[simp] theorem setSc_frz (ch : Nat) (x : ScRt) (d : Device) : (setSc ch x d).frz = d.frz := rfl
@[simp] theorem setSc_mem (ch : Nat) (x : ScRt) (d : Device) : (setSc ch x d).mem = d.mem := rfl
@[simp] theorem setSc_merr (ch : Nat) (x : ScRt) (d : Device) : (setSc ch x d).merr = d.merr := rfl
@[simp] theorem setSc_hbm (ch : Nat) (x : ScRt) (d : Device) : (setSc ch x d).hbm = d.hbm := rfl
@[simp] theorem setSc_parts (ch : Nat) (x : ScRt) (d : Device) : (setSc ch x d).parts = d.parts := rfl
@[simp] theorem setSc_cmds (ch : Nat) (x : ScRt) (d : Device) : (setSc ch x d).cmds = d.cmds := rfl
@[simp] theorem setSc_nextId (ch : Nat) (x : ScRt) (d : Device) : (setSc ch x d).nextId = d.nextId := rfl
@[simp] theorem setSc_fetchLast (ch : Nat) (x : ScRt) (d : Device) : (setSc ch x d).fetchLast = d.fetchLast := rfl
@[simp] theorem setSc_arrs (ch : Nat) (x : ScRt) (d : Device) : (setSc ch x d).arrs = d.arrs := rfl
@[simp] theorem setSc_tiles (ch : Nat) (x : ScRt) (d : Device) : (setSc ch x d).tiles = d.tiles := rfl
@[simp] theorem setSc_subst (ch : Nat) (x : ScRt) (d : Device) : (setSc ch x d).subst = d.subst := rfl
@[simp] theorem setSc_waiting (ch : Nat) (x : ScRt) (d : Device) : (setSc ch x d).waiting = d.waiting := rfl
@[simp] theorem setSc_served (ch : Nat) (x : ScRt) (d : Device) : (setSc ch x d).served = d.served := rfl
@[simp] theorem setSc_scat (ch : Nat) (x : ScRt) (d : Device) : (setSc ch x d).scat = d.scat := rfl
@[simp] theorem setSc_links (ch : Nat) (x : ScRt) (d : Device) : (setSc ch x d).links = d.links := rfl
@[simp] theorem setSc_align (ch : Nat) (x : ScRt) (d : Device) : (setSc ch x d).align = d.align := rfl
@[simp] theorem setSc_rem (ch : Nat) (x : ScRt) (d : Device) : (setSc ch x d).rem = d.rem := rfl
@[simp] theorem setSc_coll (ch : Nat) (x : ScRt) (d : Device) : (setSc ch x d).coll = d.coll := rfl
@[simp] theorem setSc_pair (ch : Nat) (x : ScRt) (d : Device) : (setSc ch x d).pair = d.pair := rfl
@[simp] theorem setSc_pos (ch : Nat) (x : ScRt) (d : Device) : (setSc ch x d).pos = d.pos := rfl
@[simp] theorem setSc_trigs (ch : Nat) (x : ScRt) (d : Device) : (setSc ch x d).trigs = d.trigs := rfl
@[simp] theorem setSc_trigRecs (ch : Nat) (x : ScRt) (d : Device) : (setSc ch x d).trigRecs = d.trigRecs := rfl
@[simp] theorem setSc_ilk (ch : Nat) (x : ScRt) (d : Device) : (setSc ch x d).ilk = d.ilk := rfl
@[simp] theorem setSc_jnl (ch : Nat) (x : ScRt) (d : Device) : (setSc ch x d).jnl = d.jnl := rfl
@[simp] theorem setSc_trc (ch : Nat) (x : ScRt) (d : Device) : (setSc ch x d).trc = d.trc := rfl
@[simp] theorem setSc_smp (ch : Nat) (x : ScRt) (d : Device) : (setSc ch x d).smp = d.smp := rfl
@[simp] theorem setSc_smpCount (ch : Nat) (x : ScRt) (d : Device) : (setSc ch x d).smpCount = d.smpCount := rfl
@[simp] theorem setSc_free (ch : Nat) (x : ScRt) (d : Device) : (setSc ch x d).free = d.free := rfl
@[simp] theorem setSc_out (ch : Nat) (x : ScRt) (d : Device) : (setSc ch x d).out = d.out := rfl

/-! ### setLink -/

@[simp] theorem setLink_variant (l : Nat) (x : Link) (d : Device) : (setLink l x d).variant = d.variant := rfl
@[simp] theorem setLink_straps (l : Nat) (x : Link) (d : Device) : (setLink l x d).straps = d.straps := rfl
@[simp] theorem setLink_images (l : Nat) (x : Link) (d : Device) : (setLink l x d).images = d.images := rfl
@[simp] theorem setLink_pins (l : Nat) (x : Link) (d : Device) : (setLink l x d).pins = d.pins := rfl
@[simp] theorem setLink_clk (l : Nat) (x : Link) (d : Device) : (setLink l x d).clk = d.clk := rfl
@[simp] theorem setLink_pcie (l : Nat) (x : Link) (d : Device) : (setLink l x d).pcie = d.pcie := rfl
@[simp] theorem setLink_regs (l : Nat) (x : Link) (d : Device) : (setLink l x d).regs = d.regs := rfl
@[simp] theorem setLink_lockWritten (l : Nat) (x : Link) (d : Device) : (setLink l x d).lockWritten = d.lockWritten := rfl
@[simp] theorem setLink_frz (l : Nat) (x : Link) (d : Device) : (setLink l x d).frz = d.frz := rfl
@[simp] theorem setLink_mem (l : Nat) (x : Link) (d : Device) : (setLink l x d).mem = d.mem := rfl
@[simp] theorem setLink_merr (l : Nat) (x : Link) (d : Device) : (setLink l x d).merr = d.merr := rfl
@[simp] theorem setLink_hbm (l : Nat) (x : Link) (d : Device) : (setLink l x d).hbm = d.hbm := rfl
@[simp] theorem setLink_parts (l : Nat) (x : Link) (d : Device) : (setLink l x d).parts = d.parts := rfl
@[simp] theorem setLink_cmds (l : Nat) (x : Link) (d : Device) : (setLink l x d).cmds = d.cmds := rfl
@[simp] theorem setLink_nextId (l : Nat) (x : Link) (d : Device) : (setLink l x d).nextId = d.nextId := rfl
@[simp] theorem setLink_fetchLast (l : Nat) (x : Link) (d : Device) : (setLink l x d).fetchLast = d.fetchLast := rfl
@[simp] theorem setLink_arrs (l : Nat) (x : Link) (d : Device) : (setLink l x d).arrs = d.arrs := rfl
@[simp] theorem setLink_tiles (l : Nat) (x : Link) (d : Device) : (setLink l x d).tiles = d.tiles := rfl
@[simp] theorem setLink_subst (l : Nat) (x : Link) (d : Device) : (setLink l x d).subst = d.subst := rfl
@[simp] theorem setLink_waiting (l : Nat) (x : Link) (d : Device) : (setLink l x d).waiting = d.waiting := rfl
@[simp] theorem setLink_served (l : Nat) (x : Link) (d : Device) : (setLink l x d).served = d.served := rfl
@[simp] theorem setLink_scat (l : Nat) (x : Link) (d : Device) : (setLink l x d).scat = d.scat := rfl
@[simp] theorem setLink_scs (l : Nat) (x : Link) (d : Device) : (setLink l x d).scs = d.scs := rfl
@[simp] theorem setLink_align (l : Nat) (x : Link) (d : Device) : (setLink l x d).align = d.align := rfl
@[simp] theorem setLink_rem (l : Nat) (x : Link) (d : Device) : (setLink l x d).rem = d.rem := rfl
@[simp] theorem setLink_coll (l : Nat) (x : Link) (d : Device) : (setLink l x d).coll = d.coll := rfl
@[simp] theorem setLink_pair (l : Nat) (x : Link) (d : Device) : (setLink l x d).pair = d.pair := rfl
@[simp] theorem setLink_pos (l : Nat) (x : Link) (d : Device) : (setLink l x d).pos = d.pos := rfl
@[simp] theorem setLink_trigs (l : Nat) (x : Link) (d : Device) : (setLink l x d).trigs = d.trigs := rfl
@[simp] theorem setLink_trigRecs (l : Nat) (x : Link) (d : Device) : (setLink l x d).trigRecs = d.trigRecs := rfl
@[simp] theorem setLink_ilk (l : Nat) (x : Link) (d : Device) : (setLink l x d).ilk = d.ilk := rfl
@[simp] theorem setLink_jnl (l : Nat) (x : Link) (d : Device) : (setLink l x d).jnl = d.jnl := rfl
@[simp] theorem setLink_trc (l : Nat) (x : Link) (d : Device) : (setLink l x d).trc = d.trc := rfl
@[simp] theorem setLink_smp (l : Nat) (x : Link) (d : Device) : (setLink l x d).smp = d.smp := rfl
@[simp] theorem setLink_smpCount (l : Nat) (x : Link) (d : Device) : (setLink l x d).smpCount = d.smpCount := rfl
@[simp] theorem setLink_free (l : Nat) (x : Link) (d : Device) : (setLink l x d).free = d.free := rfl
@[simp] theorem setLink_out (l : Nat) (x : Link) (d : Device) : (setLink l x d).out = d.out := rfl

/-! ### setTrig -/

@[simp] theorem setTrig_variant (n : Nat) (x : Trig) (d : Device) : (setTrig n x d).variant = d.variant := rfl
@[simp] theorem setTrig_straps (n : Nat) (x : Trig) (d : Device) : (setTrig n x d).straps = d.straps := rfl
@[simp] theorem setTrig_images (n : Nat) (x : Trig) (d : Device) : (setTrig n x d).images = d.images := rfl
@[simp] theorem setTrig_pins (n : Nat) (x : Trig) (d : Device) : (setTrig n x d).pins = d.pins := rfl
@[simp] theorem setTrig_clk (n : Nat) (x : Trig) (d : Device) : (setTrig n x d).clk = d.clk := rfl
@[simp] theorem setTrig_pcie (n : Nat) (x : Trig) (d : Device) : (setTrig n x d).pcie = d.pcie := rfl
@[simp] theorem setTrig_regs (n : Nat) (x : Trig) (d : Device) : (setTrig n x d).regs = d.regs := rfl
@[simp] theorem setTrig_lockWritten (n : Nat) (x : Trig) (d : Device) : (setTrig n x d).lockWritten = d.lockWritten := rfl
@[simp] theorem setTrig_frz (n : Nat) (x : Trig) (d : Device) : (setTrig n x d).frz = d.frz := rfl
@[simp] theorem setTrig_mem (n : Nat) (x : Trig) (d : Device) : (setTrig n x d).mem = d.mem := rfl
@[simp] theorem setTrig_merr (n : Nat) (x : Trig) (d : Device) : (setTrig n x d).merr = d.merr := rfl
@[simp] theorem setTrig_hbm (n : Nat) (x : Trig) (d : Device) : (setTrig n x d).hbm = d.hbm := rfl
@[simp] theorem setTrig_parts (n : Nat) (x : Trig) (d : Device) : (setTrig n x d).parts = d.parts := rfl
@[simp] theorem setTrig_cmds (n : Nat) (x : Trig) (d : Device) : (setTrig n x d).cmds = d.cmds := rfl
@[simp] theorem setTrig_nextId (n : Nat) (x : Trig) (d : Device) : (setTrig n x d).nextId = d.nextId := rfl
@[simp] theorem setTrig_fetchLast (n : Nat) (x : Trig) (d : Device) : (setTrig n x d).fetchLast = d.fetchLast := rfl
@[simp] theorem setTrig_arrs (n : Nat) (x : Trig) (d : Device) : (setTrig n x d).arrs = d.arrs := rfl
@[simp] theorem setTrig_tiles (n : Nat) (x : Trig) (d : Device) : (setTrig n x d).tiles = d.tiles := rfl
@[simp] theorem setTrig_subst (n : Nat) (x : Trig) (d : Device) : (setTrig n x d).subst = d.subst := rfl
@[simp] theorem setTrig_waiting (n : Nat) (x : Trig) (d : Device) : (setTrig n x d).waiting = d.waiting := rfl
@[simp] theorem setTrig_served (n : Nat) (x : Trig) (d : Device) : (setTrig n x d).served = d.served := rfl
@[simp] theorem setTrig_scat (n : Nat) (x : Trig) (d : Device) : (setTrig n x d).scat = d.scat := rfl
@[simp] theorem setTrig_scs (n : Nat) (x : Trig) (d : Device) : (setTrig n x d).scs = d.scs := rfl
@[simp] theorem setTrig_links (n : Nat) (x : Trig) (d : Device) : (setTrig n x d).links = d.links := rfl
@[simp] theorem setTrig_align (n : Nat) (x : Trig) (d : Device) : (setTrig n x d).align = d.align := rfl
@[simp] theorem setTrig_rem (n : Nat) (x : Trig) (d : Device) : (setTrig n x d).rem = d.rem := rfl
@[simp] theorem setTrig_coll (n : Nat) (x : Trig) (d : Device) : (setTrig n x d).coll = d.coll := rfl
@[simp] theorem setTrig_pair (n : Nat) (x : Trig) (d : Device) : (setTrig n x d).pair = d.pair := rfl
@[simp] theorem setTrig_pos (n : Nat) (x : Trig) (d : Device) : (setTrig n x d).pos = d.pos := rfl
@[simp] theorem setTrig_trigRecs (n : Nat) (x : Trig) (d : Device) : (setTrig n x d).trigRecs = d.trigRecs := rfl
@[simp] theorem setTrig_ilk (n : Nat) (x : Trig) (d : Device) : (setTrig n x d).ilk = d.ilk := rfl
@[simp] theorem setTrig_jnl (n : Nat) (x : Trig) (d : Device) : (setTrig n x d).jnl = d.jnl := rfl
@[simp] theorem setTrig_trc (n : Nat) (x : Trig) (d : Device) : (setTrig n x d).trc = d.trc := rfl
@[simp] theorem setTrig_smp (n : Nat) (x : Trig) (d : Device) : (setTrig n x d).smp = d.smp := rfl
@[simp] theorem setTrig_smpCount (n : Nat) (x : Trig) (d : Device) : (setTrig n x d).smpCount = d.smpCount := rfl
@[simp] theorem setTrig_free (n : Nat) (x : Trig) (d : Device) : (setTrig n x d).free = d.free := rfl
@[simp] theorem setTrig_out (n : Nat) (x : Trig) (d : Device) : (setTrig n x d).out = d.out := rfl

/-! ### setCmd -/

@[simp] theorem setCmd_variant (c : Cmd) (d : Device) : (setCmd c d).variant = d.variant := rfl
@[simp] theorem setCmd_straps (c : Cmd) (d : Device) : (setCmd c d).straps = d.straps := rfl
@[simp] theorem setCmd_images (c : Cmd) (d : Device) : (setCmd c d).images = d.images := rfl
@[simp] theorem setCmd_pins (c : Cmd) (d : Device) : (setCmd c d).pins = d.pins := rfl
@[simp] theorem setCmd_clk (c : Cmd) (d : Device) : (setCmd c d).clk = d.clk := rfl
@[simp] theorem setCmd_pcie (c : Cmd) (d : Device) : (setCmd c d).pcie = d.pcie := rfl
@[simp] theorem setCmd_regs (c : Cmd) (d : Device) : (setCmd c d).regs = d.regs := rfl
@[simp] theorem setCmd_lockWritten (c : Cmd) (d : Device) : (setCmd c d).lockWritten = d.lockWritten := rfl
@[simp] theorem setCmd_frz (c : Cmd) (d : Device) : (setCmd c d).frz = d.frz := rfl
@[simp] theorem setCmd_mem (c : Cmd) (d : Device) : (setCmd c d).mem = d.mem := rfl
@[simp] theorem setCmd_merr (c : Cmd) (d : Device) : (setCmd c d).merr = d.merr := rfl
@[simp] theorem setCmd_hbm (c : Cmd) (d : Device) : (setCmd c d).hbm = d.hbm := rfl
@[simp] theorem setCmd_parts (c : Cmd) (d : Device) : (setCmd c d).parts = d.parts := rfl
@[simp] theorem setCmd_nextId (c : Cmd) (d : Device) : (setCmd c d).nextId = d.nextId := rfl
@[simp] theorem setCmd_fetchLast (c : Cmd) (d : Device) : (setCmd c d).fetchLast = d.fetchLast := rfl
@[simp] theorem setCmd_arrs (c : Cmd) (d : Device) : (setCmd c d).arrs = d.arrs := rfl
@[simp] theorem setCmd_tiles (c : Cmd) (d : Device) : (setCmd c d).tiles = d.tiles := rfl
@[simp] theorem setCmd_subst (c : Cmd) (d : Device) : (setCmd c d).subst = d.subst := rfl
@[simp] theorem setCmd_waiting (c : Cmd) (d : Device) : (setCmd c d).waiting = d.waiting := rfl
@[simp] theorem setCmd_served (c : Cmd) (d : Device) : (setCmd c d).served = d.served := rfl
@[simp] theorem setCmd_scat (c : Cmd) (d : Device) : (setCmd c d).scat = d.scat := rfl
@[simp] theorem setCmd_scs (c : Cmd) (d : Device) : (setCmd c d).scs = d.scs := rfl
@[simp] theorem setCmd_links (c : Cmd) (d : Device) : (setCmd c d).links = d.links := rfl
@[simp] theorem setCmd_align (c : Cmd) (d : Device) : (setCmd c d).align = d.align := rfl
@[simp] theorem setCmd_rem (c : Cmd) (d : Device) : (setCmd c d).rem = d.rem := rfl
@[simp] theorem setCmd_coll (c : Cmd) (d : Device) : (setCmd c d).coll = d.coll := rfl
@[simp] theorem setCmd_pair (c : Cmd) (d : Device) : (setCmd c d).pair = d.pair := rfl
@[simp] theorem setCmd_pos (c : Cmd) (d : Device) : (setCmd c d).pos = d.pos := rfl
@[simp] theorem setCmd_trigs (c : Cmd) (d : Device) : (setCmd c d).trigs = d.trigs := rfl
@[simp] theorem setCmd_trigRecs (c : Cmd) (d : Device) : (setCmd c d).trigRecs = d.trigRecs := rfl
@[simp] theorem setCmd_ilk (c : Cmd) (d : Device) : (setCmd c d).ilk = d.ilk := rfl
@[simp] theorem setCmd_jnl (c : Cmd) (d : Device) : (setCmd c d).jnl = d.jnl := rfl
@[simp] theorem setCmd_trc (c : Cmd) (d : Device) : (setCmd c d).trc = d.trc := rfl
@[simp] theorem setCmd_smp (c : Cmd) (d : Device) : (setCmd c d).smp = d.smp := rfl
@[simp] theorem setCmd_smpCount (c : Cmd) (d : Device) : (setCmd c d).smpCount = d.smpCount := rfl
@[simp] theorem setCmd_free (c : Cmd) (d : Device) : (setCmd c d).free = d.free := rfl
@[simp] theorem setCmd_out (c : Cmd) (d : Device) : (setCmd c d).out = d.out := rfl

/-! ### emit -/

@[simp] theorem emit_variant (o : Out) (d : Device) : (emit o d).variant = d.variant := rfl
@[simp] theorem emit_straps (o : Out) (d : Device) : (emit o d).straps = d.straps := rfl
@[simp] theorem emit_images (o : Out) (d : Device) : (emit o d).images = d.images := rfl
@[simp] theorem emit_pins (o : Out) (d : Device) : (emit o d).pins = d.pins := rfl
@[simp] theorem emit_clk (o : Out) (d : Device) : (emit o d).clk = d.clk := rfl
@[simp] theorem emit_pcie (o : Out) (d : Device) : (emit o d).pcie = d.pcie := rfl
@[simp] theorem emit_regs (o : Out) (d : Device) : (emit o d).regs = d.regs := rfl
@[simp] theorem emit_lockWritten (o : Out) (d : Device) : (emit o d).lockWritten = d.lockWritten := rfl
@[simp] theorem emit_frz (o : Out) (d : Device) : (emit o d).frz = d.frz := rfl
@[simp] theorem emit_mem (o : Out) (d : Device) : (emit o d).mem = d.mem := rfl
@[simp] theorem emit_merr (o : Out) (d : Device) : (emit o d).merr = d.merr := rfl
@[simp] theorem emit_hbm (o : Out) (d : Device) : (emit o d).hbm = d.hbm := rfl
@[simp] theorem emit_parts (o : Out) (d : Device) : (emit o d).parts = d.parts := rfl
@[simp] theorem emit_cmds (o : Out) (d : Device) : (emit o d).cmds = d.cmds := rfl
@[simp] theorem emit_nextId (o : Out) (d : Device) : (emit o d).nextId = d.nextId := rfl
@[simp] theorem emit_fetchLast (o : Out) (d : Device) : (emit o d).fetchLast = d.fetchLast := rfl
@[simp] theorem emit_arrs (o : Out) (d : Device) : (emit o d).arrs = d.arrs := rfl
@[simp] theorem emit_tiles (o : Out) (d : Device) : (emit o d).tiles = d.tiles := rfl
@[simp] theorem emit_subst (o : Out) (d : Device) : (emit o d).subst = d.subst := rfl
@[simp] theorem emit_waiting (o : Out) (d : Device) : (emit o d).waiting = d.waiting := rfl
@[simp] theorem emit_served (o : Out) (d : Device) : (emit o d).served = d.served := rfl
@[simp] theorem emit_scat (o : Out) (d : Device) : (emit o d).scat = d.scat := rfl
@[simp] theorem emit_scs (o : Out) (d : Device) : (emit o d).scs = d.scs := rfl
@[simp] theorem emit_links (o : Out) (d : Device) : (emit o d).links = d.links := rfl
@[simp] theorem emit_align (o : Out) (d : Device) : (emit o d).align = d.align := rfl
@[simp] theorem emit_rem (o : Out) (d : Device) : (emit o d).rem = d.rem := rfl
@[simp] theorem emit_coll (o : Out) (d : Device) : (emit o d).coll = d.coll := rfl
@[simp] theorem emit_pair (o : Out) (d : Device) : (emit o d).pair = d.pair := rfl
@[simp] theorem emit_pos (o : Out) (d : Device) : (emit o d).pos = d.pos := rfl
@[simp] theorem emit_trigs (o : Out) (d : Device) : (emit o d).trigs = d.trigs := rfl
@[simp] theorem emit_trigRecs (o : Out) (d : Device) : (emit o d).trigRecs = d.trigRecs := rfl
@[simp] theorem emit_ilk (o : Out) (d : Device) : (emit o d).ilk = d.ilk := rfl
@[simp] theorem emit_jnl (o : Out) (d : Device) : (emit o d).jnl = d.jnl := rfl
@[simp] theorem emit_trc (o : Out) (d : Device) : (emit o d).trc = d.trc := rfl
@[simp] theorem emit_smp (o : Out) (d : Device) : (emit o d).smp = d.smp := rfl
@[simp] theorem emit_smpCount (o : Out) (d : Device) : (emit o d).smpCount = d.smpCount := rfl
@[simp] theorem emit_free (o : Out) (d : Device) : (emit o d).free = d.free := rfl

/-! ### memSet -/

@[simp] theorem memSet_variant (k : Nat) (b : Byte) (d : Device) : (memSet k b d).variant = d.variant := rfl
@[simp] theorem memSet_straps (k : Nat) (b : Byte) (d : Device) : (memSet k b d).straps = d.straps := rfl
@[simp] theorem memSet_images (k : Nat) (b : Byte) (d : Device) : (memSet k b d).images = d.images := rfl
@[simp] theorem memSet_pins (k : Nat) (b : Byte) (d : Device) : (memSet k b d).pins = d.pins := rfl
@[simp] theorem memSet_clk (k : Nat) (b : Byte) (d : Device) : (memSet k b d).clk = d.clk := rfl
@[simp] theorem memSet_pcie (k : Nat) (b : Byte) (d : Device) : (memSet k b d).pcie = d.pcie := rfl
@[simp] theorem memSet_regs (k : Nat) (b : Byte) (d : Device) : (memSet k b d).regs = d.regs := rfl
@[simp] theorem memSet_lockWritten (k : Nat) (b : Byte) (d : Device) : (memSet k b d).lockWritten = d.lockWritten := rfl
@[simp] theorem memSet_frz (k : Nat) (b : Byte) (d : Device) : (memSet k b d).frz = d.frz := rfl
@[simp] theorem memSet_merr (k : Nat) (b : Byte) (d : Device) : (memSet k b d).merr = d.merr := rfl
@[simp] theorem memSet_hbm (k : Nat) (b : Byte) (d : Device) : (memSet k b d).hbm = d.hbm := rfl
@[simp] theorem memSet_parts (k : Nat) (b : Byte) (d : Device) : (memSet k b d).parts = d.parts := rfl
@[simp] theorem memSet_cmds (k : Nat) (b : Byte) (d : Device) : (memSet k b d).cmds = d.cmds := rfl
@[simp] theorem memSet_nextId (k : Nat) (b : Byte) (d : Device) : (memSet k b d).nextId = d.nextId := rfl
@[simp] theorem memSet_fetchLast (k : Nat) (b : Byte) (d : Device) : (memSet k b d).fetchLast = d.fetchLast := rfl
@[simp] theorem memSet_arrs (k : Nat) (b : Byte) (d : Device) : (memSet k b d).arrs = d.arrs := rfl
@[simp] theorem memSet_tiles (k : Nat) (b : Byte) (d : Device) : (memSet k b d).tiles = d.tiles := rfl
@[simp] theorem memSet_subst (k : Nat) (b : Byte) (d : Device) : (memSet k b d).subst = d.subst := rfl
@[simp] theorem memSet_waiting (k : Nat) (b : Byte) (d : Device) : (memSet k b d).waiting = d.waiting := rfl
@[simp] theorem memSet_served (k : Nat) (b : Byte) (d : Device) : (memSet k b d).served = d.served := rfl
@[simp] theorem memSet_scat (k : Nat) (b : Byte) (d : Device) : (memSet k b d).scat = d.scat := rfl
@[simp] theorem memSet_scs (k : Nat) (b : Byte) (d : Device) : (memSet k b d).scs = d.scs := rfl
@[simp] theorem memSet_links (k : Nat) (b : Byte) (d : Device) : (memSet k b d).links = d.links := rfl
@[simp] theorem memSet_align (k : Nat) (b : Byte) (d : Device) : (memSet k b d).align = d.align := rfl
@[simp] theorem memSet_rem (k : Nat) (b : Byte) (d : Device) : (memSet k b d).rem = d.rem := rfl
@[simp] theorem memSet_coll (k : Nat) (b : Byte) (d : Device) : (memSet k b d).coll = d.coll := rfl
@[simp] theorem memSet_pair (k : Nat) (b : Byte) (d : Device) : (memSet k b d).pair = d.pair := rfl
@[simp] theorem memSet_pos (k : Nat) (b : Byte) (d : Device) : (memSet k b d).pos = d.pos := rfl
@[simp] theorem memSet_trigs (k : Nat) (b : Byte) (d : Device) : (memSet k b d).trigs = d.trigs := rfl
@[simp] theorem memSet_trigRecs (k : Nat) (b : Byte) (d : Device) : (memSet k b d).trigRecs = d.trigRecs := rfl
@[simp] theorem memSet_ilk (k : Nat) (b : Byte) (d : Device) : (memSet k b d).ilk = d.ilk := rfl
@[simp] theorem memSet_jnl (k : Nat) (b : Byte) (d : Device) : (memSet k b d).jnl = d.jnl := rfl
@[simp] theorem memSet_trc (k : Nat) (b : Byte) (d : Device) : (memSet k b d).trc = d.trc := rfl
@[simp] theorem memSet_smp (k : Nat) (b : Byte) (d : Device) : (memSet k b d).smp = d.smp := rfl
@[simp] theorem memSet_smpCount (k : Nat) (b : Byte) (d : Device) : (memSet k b d).smpCount = d.smpCount := rfl
@[simp] theorem memSet_free (k : Nat) (b : Byte) (d : Device) : (memSet k b d).free = d.free := rfl
@[simp] theorem memSet_out (k : Nat) (b : Byte) (d : Device) : (memSet k b d).out = d.out := rfl

/-! ### memClear -/

@[simp] theorem memClear_variant (lo n : Nat) (d : Device) : (memClear lo n d).variant = d.variant := rfl
@[simp] theorem memClear_straps (lo n : Nat) (d : Device) : (memClear lo n d).straps = d.straps := rfl
@[simp] theorem memClear_images (lo n : Nat) (d : Device) : (memClear lo n d).images = d.images := rfl
@[simp] theorem memClear_pins (lo n : Nat) (d : Device) : (memClear lo n d).pins = d.pins := rfl
@[simp] theorem memClear_clk (lo n : Nat) (d : Device) : (memClear lo n d).clk = d.clk := rfl
@[simp] theorem memClear_pcie (lo n : Nat) (d : Device) : (memClear lo n d).pcie = d.pcie := rfl
@[simp] theorem memClear_regs (lo n : Nat) (d : Device) : (memClear lo n d).regs = d.regs := rfl
@[simp] theorem memClear_lockWritten (lo n : Nat) (d : Device) : (memClear lo n d).lockWritten = d.lockWritten := rfl
@[simp] theorem memClear_frz (lo n : Nat) (d : Device) : (memClear lo n d).frz = d.frz := rfl
@[simp] theorem memClear_merr (lo n : Nat) (d : Device) : (memClear lo n d).merr = d.merr := rfl
@[simp] theorem memClear_hbm (lo n : Nat) (d : Device) : (memClear lo n d).hbm = d.hbm := rfl
@[simp] theorem memClear_parts (lo n : Nat) (d : Device) : (memClear lo n d).parts = d.parts := rfl
@[simp] theorem memClear_cmds (lo n : Nat) (d : Device) : (memClear lo n d).cmds = d.cmds := rfl
@[simp] theorem memClear_nextId (lo n : Nat) (d : Device) : (memClear lo n d).nextId = d.nextId := rfl
@[simp] theorem memClear_fetchLast (lo n : Nat) (d : Device) : (memClear lo n d).fetchLast = d.fetchLast := rfl
@[simp] theorem memClear_arrs (lo n : Nat) (d : Device) : (memClear lo n d).arrs = d.arrs := rfl
@[simp] theorem memClear_tiles (lo n : Nat) (d : Device) : (memClear lo n d).tiles = d.tiles := rfl
@[simp] theorem memClear_subst (lo n : Nat) (d : Device) : (memClear lo n d).subst = d.subst := rfl
@[simp] theorem memClear_waiting (lo n : Nat) (d : Device) : (memClear lo n d).waiting = d.waiting := rfl
@[simp] theorem memClear_served (lo n : Nat) (d : Device) : (memClear lo n d).served = d.served := rfl
@[simp] theorem memClear_scat (lo n : Nat) (d : Device) : (memClear lo n d).scat = d.scat := rfl
@[simp] theorem memClear_scs (lo n : Nat) (d : Device) : (memClear lo n d).scs = d.scs := rfl
@[simp] theorem memClear_links (lo n : Nat) (d : Device) : (memClear lo n d).links = d.links := rfl
@[simp] theorem memClear_align (lo n : Nat) (d : Device) : (memClear lo n d).align = d.align := rfl
@[simp] theorem memClear_rem (lo n : Nat) (d : Device) : (memClear lo n d).rem = d.rem := rfl
@[simp] theorem memClear_coll (lo n : Nat) (d : Device) : (memClear lo n d).coll = d.coll := rfl
@[simp] theorem memClear_pair (lo n : Nat) (d : Device) : (memClear lo n d).pair = d.pair := rfl
@[simp] theorem memClear_pos (lo n : Nat) (d : Device) : (memClear lo n d).pos = d.pos := rfl
@[simp] theorem memClear_trigs (lo n : Nat) (d : Device) : (memClear lo n d).trigs = d.trigs := rfl
@[simp] theorem memClear_trigRecs (lo n : Nat) (d : Device) : (memClear lo n d).trigRecs = d.trigRecs := rfl
@[simp] theorem memClear_ilk (lo n : Nat) (d : Device) : (memClear lo n d).ilk = d.ilk := rfl
@[simp] theorem memClear_jnl (lo n : Nat) (d : Device) : (memClear lo n d).jnl = d.jnl := rfl
@[simp] theorem memClear_trc (lo n : Nat) (d : Device) : (memClear lo n d).trc = d.trc := rfl
@[simp] theorem memClear_smp (lo n : Nat) (d : Device) : (memClear lo n d).smp = d.smp := rfl
@[simp] theorem memClear_smpCount (lo n : Nat) (d : Device) : (memClear lo n d).smpCount = d.smpCount := rfl
@[simp] theorem memClear_free (lo n : Nat) (d : Device) : (memClear lo n d).free = d.free := rfl
@[simp] theorem memClear_out (lo n : Nat) (d : Device) : (memClear lo n d).out = d.out := rfl

end Sys2Proof.Machine
end

