-- ==== Sys2Proof/Laws/Events.lean ====
section
/-! SUPPORT. What a report of the device can change: registers, the partitions' tables, the trace, the journal and what leaves.
Everything else of the state is as before. -/

namespace Sys2Proof.Machine

/-- e is d but for registers, partitions, trace, journal and outputs of the device. -/
def Reported (d e : Device) : Prop :=
  ∃ r p t j o, e = { d with regs := r, parts := p, trc := t, jnl := j, out := o }

theorem Reported.refl (d : Device) : Reported d d := ⟨d.regs, d.parts, d.trc, d.jnl, d.out, rfl⟩

theorem Reported.trans {d e f : Device} (h : Reported d e) (k : Reported e f) : Reported d f := by
  obtain ⟨_, _, _, _, _, rfl⟩ := h
  obtain ⟨r, p, t, j, o, rfl⟩ := k
  exact ⟨r, p, t, j, o, rfl⟩

theorem Reported.ite {b : Prop} [Decidable b] {d e f : Device} (h : Reported d e) (k : Reported d f) : Reported d (if b then e else f) := by
  split <;> assumption

/-- A fold of reports is a report. -/
theorem Reported.foldl {α : Type} (f : Device → α → Device) (hf : ∀ d x, Reported d (f d x)) (l : List α) (d : Device) :
    Reported d (l.foldl f d) := by
  induction l generalizing d with
  | nil => exact .refl d
  | cons x r ih => exact (hf d x).trans (ih _)

theorem rput_reported (off : Nat) (w : Word) (d : Device) : Reported d (rput off w d) := ⟨_, d.parts, d.trc, d.jnl, d.out, rfl⟩
theorem fput_reported (off : Nat) (f : Fld) (v : Nat) (d : Device) : Reported d (fput off f v d) := rput_reported _ _ d
theorem fsat_reported (off : Nat) (f : Fld) (n : Nat) (d : Device) : Reported d (fsat off f n d) := fput_reported _ _ _ d
theorem fwrap_reported (off : Nat) (f : Fld) (n : Nat) (d : Device) : Reported d (fwrap off f n d) := fput_reported _ _ _ d
theorem setPart_reported (p : Nat) (x : Part) (d : Device) : Reported d (setPart p x d) := ⟨d.regs, _, d.trc, d.jnl, d.out, rfl⟩
theorem emit_reported (o : Out) (d : Device) : Reported d (emit o d) := ⟨d.regs, d.parts, d.trc, d.jnl, _, rfl⟩
theorem jnl_reported (j : Jnl) (d : Device) : Reported d { d with jnl := j } := ⟨d.regs, d.parts, d.trc, j, d.out, rfl⟩
theorem trc_reported (t : Trace) (d : Device) : Reported d { d with trc := t } := ⟨d.regs, d.parts, t, d.jnl, d.out, rfl⟩

/-- A record offered to the journal is a report (R501 to R504). -/
theorem journal_reported (t : Nat) (pl : List Byte) (d : Device) : Reported d (journal t pl d) := by
  unfold journal; split
  · exact (jnl_reported _ d).trans (fwrap_reported _ _ _ _)
  · exact (jnl_reported _ d).trans (fsat_reported _ _ _ _)

/-- A packet offered to the trace is a report (R535). -/
theorem trcPut_reported (s : Nat) (p : TPkt) (d : Device) : Reported d (trcPut s p d) := by
  unfold trcPut; split
  · split
    · exact trc_reported _ d
    · exact (trc_reported _ d).trans (fsat_reported _ _ _ _)
  · exact .refl d

theorem trcOwn_reported (p : TPkt) (d : Device) : Reported d (trcOwn p d) := by
  unfold trcOwn; split
  · exact trc_reported _ d
  · exact .refl d

/-- An interrupt message is a report (R385, R598). -/
theorem msixSend_reported (fn v : Nat) (d : Device) : Reported d (msixSend fn v d) := by
  unfold msixSend
  exact .ite (.refl d) (.ite (rput_reported _ _ d) (emit_reported _ d))

theorem evWrite_reported (p : Nat) (e : EvRec) (d : Device) : Reported d (evWrite p e d) :=
  (((setPart_reported _ _ d).trans (emit_reported _ _)).trans (emit_reported _ _)).trans (msixSend_reported _ _ _)

theorem evDeliver_reported (p : Nat) (e : EvRec) (d : Device) : Reported d (evDeliver p e d) := by
  unfold evDeliver; simp only []; split
  · exact evWrite_reported p e d
  · exact (setPart_reported _ _ d).trans (fsat_reported _ _ _ _)

theorem faultLog_reported (code : Nat) (d : Device) : Reported d (faultLog code d) := by
  unfold faultLog
  exact ((Reported.foldl _ (fun d _ => (rput_reported _ _ d).trans (rput_reported _ _ _)) _ d).trans (rput_reported _ _ _)).trans
    (rput_reported _ _ _)

theorem evJournal_reported (e : EvRec) (d : Device) : Reported d (evJournal e d) := by
  unfold evJournal
  exact .ite (.ite (faultLog_reported _ d) (journal_reported _ _ d)) (.ite (journal_reported _ _ d) (.refl d))

theorem evTrace_reported (e : EvRec) (d : Device) : Reported d (evTrace e d) := by
  unfold evTrace
  exact .ite (.ite (.ite (trc_reported _ d) (.ite (trc_reported _ d) (trc_reported _ d))) (.refl d)) (trcPut_reported _ _ d)

theorem evElsewhere_reported (e : EvRec) (d : Device) : Reported d (evElsewhere e d) :=
  (evTrace_reported e d).trans (evJournal_reported e _)

theorem raiseAt_reported (wide : Bool) (p : Nat) (e : EvRec) (d : Device) : Reported d (raiseAt wide p e d) := by
  unfold raiseAt; simp only []; split
  · exact .ite ((setPart_reported _ _ d).trans (evJournal_reported _ _)) (setPart_reported _ _ d)
  · have k := (setPart_reported p { partOf d p with evOpen := (partOf d p).evOpen ++ [{ e with count := 0 }] } d).trans
      (evDeliver_reported p e _)
    exact .ite (k.trans (evElsewhere_reported e _)) k

/-- Everything that raising an event can change (R389 to R392). -/
theorem raise_reported (p code source a0 a1 st : Nat) (d : Device) : Reported d (raise p code source a0 a1 st d) :=
  raiseAt_reported _ _ _ d

theorem raiseDev_reported (code source a0 a1 : Nat) (d : Device) : Reported d (raiseDev code source a0 a1 d) :=
  raise_reported _ _ _ _ _ _ d

theorem breach_reported (a b n : Nat) (d : Device) : Reported d (breach a b n d) := by
  refine (raiseDev_reported 0x8003 a b n d).trans ?_
  unfold breach; simp only []; split <;> first | exact fsat_reported _ _ _ _ | exact .refl _

/-- Counters that advance change registers alone (R521). -/
theorem perfUnit_reported (n : Nat) (ctl cnt hi : Nat → Nat) (ev : Nat) (part : Option Nat) (k : Nat) (d : Device) :
    Reported d (perfUnit n ctl cnt hi ev part k d) := by
  unfold perfUnit
  refine Reported.foldl _ (fun d i => ?_) _ d
  simp only []
  split
  · split
    · exact ((rput_reported _ _ d).trans (rput_reported _ _ _)).trans (rput_reported _ _ _)
    · exact (rput_reported _ _ d).trans (rput_reported _ _ _)
  · exact .refl d

theorem countParity_reported (l : Nat) (d : Device) : Reported d (countParity l d) := by
  unfold countParity; split <;> first | exact fsat_reported _ _ _ d | exact .refl d

/-! ## The ends of commands -/

/-- A command that ends changes the list of commands, and is otherwise a report (R340, R474). -/
theorem endCmd_reported (c : Cmd) (x : Done) (d : Device) :
    Reported (setCmd { c with phase := .ended, done := x } d) (endCmd c x d) := by
  unfold endCmd; simp only []; split
  · split
    · exact (fsat_reported _ _ _ _).trans (breach_reported _ _ _ _)
    · exact fsat_reported _ _ _ _
  · exact .refl _

/-- Outputs that follow the state change two pin groups alone (R487, R492). -/
theorem outputs_frame (d : Device) : ∃ il tr, outputs d = { d with pins := { d.pins with illum := il, trig := tr } } := ⟨_, _, rfl⟩

/-- ILLUM_ENn after the outputs have followed the state. -/
theorem outputs_trig (d : Device) (h : trigBlocked d = true) : (outputs d).pins.trig = 0 := by simp [outputs, h]

end Sys2Proof.Machine
end

