-- ==== Sys2Proof/Laws/Commands.lean ====
section
/-! SUPPORT. The words in which statements speak of running commands: which command runs, what its end leaves, what a step without
memory errors does. -/

namespace Sys2Proof.Machine

/-- A meaning's answer on a well-formed command, and on any other. -/
theorem run_ok {i : Instr} (f : Device → Device) (s : State) (h : i.wf = true) : run i f s = .next { s with dev := f s.dev } := if_pos h
theorem run_bad {i : Instr} (f : Device → Device) (s : State) (h : i.wf = false) : run i f s = .fault .noSuchUnit := by simp [run, h]

/-- Every meaning goes through run, so a next state has the old queue (log 5). -/
theorem run_cases {i : Instr} {f : Device → Device} {s t : State} (h : run i f s = .next t) :
    i.wf = true ∧ t = { s with dev := f s.dev } := by
  unfold run at h
  split at h
  · cases h; exact ⟨by assumption, rfl⟩
  · cases h

theorem step_front {s : State} {c : Instr} {rest : List Instr} (h : s.pending = c :: rest) :
    step s = exec c { s with pending := rest } := by simp [step, h]

theorem step_empty {s : State} (h : s.pending = []) : step s = .next { s with dev := tick s.dev } := by simp [step, h]

/-- The command found under an id has it. -/
theorem cmdOf_id {d : Device} {id : Nat} {c : Cmd} (h : cmdOf d id = some c) : c.id = id := by
  simpa using List.find?_some h

theorem cmdOf_mem {d : Device} {id : Nat} {c : Cmd} (h : cmdOf d id = some c) : c ∈ d.cmds := List.mem_of_find?_eq_some h

/-- The lookup of a list in which the command with an id has been replaced. -/
theorem cmdOf_setCmd_same {d : Device} {c x : Cmd} (h : cmdOf d c.id = some x) : cmdOf (setCmd c d) c.id = some c := by
  simp only [cmdOf, setCmd] at h ⊢
  revert h
  induction d.cmds with
  | nil => simp
  | cons y r ih =>
    intro h
    simp only [List.map_cons, List.find?_cons]
    by_cases hy : y.id = c.id
    · simp [hy]
    · have : decide (y.id = c.id) = false := by simp [hy]
      simp only [List.find?_cons, this] at h
      simp only [if_neg hy, this]
      exact ih h

theorem cmdOf_setCmd_ne {d : Device} {c : Cmd} {id : Nat} (h : id ≠ c.id) : cmdOf (setCmd c d) id = cmdOf d id := by
  simp only [cmdOf, setCmd]
  induction d.cmds with
  | nil => rfl
  | cons y r ih =>
    simp only [List.map_cons, List.find?_cons]
    by_cases hy : y.id = c.id
    · have h1 : decide (c.id = id) = false := by simp; exact fun e => h e.symm
      have h2 : decide (y.id = id) = false := by rw [hy]; exact h1
      simp [hy, h1, ih]
    · simp [hy, ih]

/-- A command that runs as a statement says is found by its engine. -/
theorem runningAs_of_runs {d : Device} {id op : Nat} {c : Cmd} (h : Runs d id op c) : runningAs d id (· = op) = some c := by
  obtain ⟨h1, h2, h3, h4, h5, h6⟩ := h
  simp [runningAs, h1, h2, h3, waitsDump, h4]

/-- An end that is no missed deadline changes the command alone (R340). -/
theorem endCmd_plain {c : Cmd} {x : Done} {d : Device} (h : x.status ≠ stDeadline) : endCmd c x d = setCmd (endedAs c x) d := by
  simp [endCmd, h, endedAs]

/-- A THROUGHPUT command misses no deadline (R331). -/
theorem deadline_plain {c : Cmd} (h : fixedTime c = false) (b t : Nat) (x : Done) : deadline c b t x = x := by
  simp [deadline, deadlinePll, h]

/-- A step that waits for no bank counts nothing. -/
theorem countWaits_none {x : Circ} (h : NoWaits x) (d : Device) : countWaits x d = d := by
  obtain ⟨h1, h2, h3, h4, h5⟩ := h
  simp [countWaits, h1, h2, h3, h4, h5]

/-- A step that meets no memory error and no wait leaves memory's errors and the counters as they are. -/
theorem applyCirc_none {x : Circ} (h : NoErrors x) (p : Nat) (d : Device) : applyCirc p x d = d := by
  obtain ⟨h1, h2, h3, h4⟩ := h
  simp [applyCirc, h1, h2, h3, countWaits_none h4]

/-- Without memory errors no read fails. -/
theorem readFail_none {d : Device} (h1 : d.merr.poison = []) (h2 : d.merr.parity = []) (l n : Nat) : readFail d l n = none := by
  simp [readFail, firstBad, h1, h2]

/-- Without memory errors a checked write is a store. -/
theorem writeMem_plain {d : Device} (h1 : d.merr.poison = []) (h2 : d.merr.parity = []) (l : Nat) (bs : List Byte) :
    writeMem l bs d = (storeBytes l bs d, none) := by simp [writeMem, h1, h2]

/-- Every command's meaning has the one shape: a change of the device, or the fault of an ill-formed command. -/
theorem exec_is_run (i : Instr) : ∃ f : Device → Device, ∀ s : State, exec i s = run i f s := by
  cases i <;> exact ⟨_, fun _ => rfl⟩

end Sys2Proof.Machine
end

