-- ==== Sys2Proof/Laws/Tab.lean ====
section
/-! SUPPORT. Laws of the sparse tables: what a key reads after a key is set or a range is dropped, and that the canonical form
is kept. -/

namespace Sys2Proof.Machine

variable {α : Type} [DecidableEq α]

theorem tabSet_keys_sub (dflt : α) (k : Nat) (v : α) (t : Tab α) :
    ∀ x ∈ (tabSet dflt k v t).map Prod.fst, x = k ∨ x ∈ t.map Prod.fst := by
  induction t with
  | nil => intro x; simp only [tabSet]; split <;> simp
  | cons e r ih =>
    obtain ⟨k', v'⟩ := e
    intro x
    simp only [tabSet]
    split
    · split <;> simp_all
    · split
      · split <;> simp_all
      · simp only [List.map_cons, List.mem_cons]
        rintro (rfl | h)
        · simp
        · rcases ih x h with h | h <;> simp [h]

theorem tabSet_rising (dflt : α) (k : Nat) (v : α) (t : Tab α) (h : (t.map Prod.fst).Pairwise (· < ·)) :
    ((tabSet dflt k v t).map Prod.fst).Pairwise (· < ·) := by
  induction t with
  | nil => simp only [tabSet]; split <;> simp
  | cons e r ih =>
    obtain ⟨k', v'⟩ := e
    simp only [List.map_cons, List.pairwise_cons] at h
    simp only [tabSet]
    split
    · subst_vars
      split
      · exact h.2
      · simpa using h
    · split
      · split
        · simpa using h
        · simp only [List.map_cons, List.pairwise_cons]
          refine ⟨?_, h.1, h.2⟩
          intro x hx
          rcases List.mem_cons.1 hx with rfl | hx
          · assumption
          · exact Nat.lt_trans (by assumption) (h.1 x hx)
      · simp only [List.map_cons, List.pairwise_cons]
        refine ⟨?_, ih h.2⟩
        intro x hx
        rcases tabSet_keys_sub dflt k v r x hx with rfl | hx
        · omega
        · exact h.1 x hx

theorem tabSet_vals (dflt : α) (k : Nat) (v : α) (t : Tab α) (p : Nat × α → Prop) (h : ∀ e ∈ t, p e) (hv : v ≠ dflt → p (k, v)) :
    ∀ e ∈ tabSet dflt k v t, p e := by
  induction t with
  | nil => simp only [tabSet]; split <;> simp_all
  | cons e r ih =>
    obtain ⟨k', v'⟩ := e
    simp only [tabSet]
    split
    · split <;> simp_all
    · split
      · split <;> simp_all
      · simp_all

theorem tabSet_wf (dflt : α) (k : Nat) (v : α) (t : Tab α) (h : tabWf dflt t) : tabWf dflt (tabSet dflt k v t) :=
  ⟨tabSet_rising dflt k v t h.1, tabSet_vals dflt k v t (fun e => e.2 ≠ dflt) h.2 id⟩

omit [DecidableEq α] in
theorem tabDrop_wf (dflt : α) (lo n : Nat) (t : Tab α) (h : tabWf dflt t) : tabWf dflt (tabDrop lo n t) :=
  ⟨h.1.sublist (List.filter_sublist.map _), fun e he => h.2 e (List.mem_filter.1 he).1⟩

omit [DecidableEq α] in
theorem filter_rising (p : Nat × α → Bool) (t : Tab α) (h : (t.map Prod.fst).Pairwise (· < ·)) :
    ((t.filter p).map Prod.fst).Pairwise (· < ·) := h.sublist (List.filter_sublist.map _)

omit [DecidableEq α] in
theorem tabGet_of_lt (dflt : α) (k : Nat) (t : Tab α) (h : ∀ x ∈ t.map Prod.fst, k < x) : tabGet dflt k t = dflt := by
  induction t with
  | nil => rfl
  | cons e r ih =>
    obtain ⟨k', v'⟩ := e
    simp only [List.map_cons, List.mem_cons, forall_eq_or_imp] at h
    simp only [tabGet]
    rw [if_neg (by omega), ih h.2]

theorem tabGet_tabSet_same (dflt : α) (k : Nat) (v : α) (t : Tab α) (h : (t.map Prod.fst).Pairwise (· < ·)) :
    tabGet dflt k (tabSet dflt k v t) = v := by
  induction t with
  | nil => simp only [tabSet]; split <;> simp_all [tabGet]
  | cons e r ih =>
    obtain ⟨k', v'⟩ := e
    simp only [List.map_cons, List.pairwise_cons] at h
    simp only [tabSet]
    split
    · split
      · subst_vars; exact tabGet_of_lt _ _ _ h.1
      · simp [tabGet]
    · split
      · split
        · subst_vars
          simp only [tabGet]
          rw [if_neg (by assumption)]
          exact tabGet_of_lt _ _ _ fun x hx => Nat.lt_trans (by assumption) (h.1 x hx)
        · simp [tabGet]
      · simp only [tabGet]
        rw [if_neg (by assumption), ih h.2]

/-- A value other than the default reads back whatever the table's form. -/
theorem tabGet_tabSet_val (dflt : α) (k : Nat) (v : α) (t : Tab α) (hv : v ≠ dflt) : tabGet dflt k (tabSet dflt k v t) = v := by
  induction t with
  | nil => simp [tabSet, hv, tabGet]
  | cons e r ih =>
    obtain ⟨k', v'⟩ := e
    simp only [tabSet, hv, if_false]
    split
    · simp [tabGet]
    · split
      · simp [tabGet]
      · simp only [tabGet]; rw [if_neg (by assumption), ih]

theorem tabGet_tabSet_ne (dflt e : α) (k k' : Nat) (v : α) (t : Tab α) (h : k' ≠ k) :
    tabGet e k' (tabSet dflt k v t) = tabGet e k' t := by
  induction t with
  | nil => simp only [tabSet]; split <;> simp [tabGet, h.symm]
  | cons x r ih =>
    obtain ⟨k2, v2⟩ := x
    simp only [tabSet]
    split
    · subst_vars; split <;> simp [tabGet, h.symm]
    · split
      · split <;> simp [tabGet, h.symm]
      · simp only [tabGet]; rw [ih]

/-- Setting a key twice is setting it once. -/
theorem tabSet_tabSet (dflt : α) (k : Nat) (v w : α) (t : Tab α) (h : (t.map Prod.fst).Pairwise (· < ·)) :
    tabSet dflt k w (tabSet dflt k v t) = tabSet dflt k w t := by
  induction t with
  | nil => by_cases hv : v = dflt <;> simp [tabSet, hv]
  | cons e r ih =>
    obtain ⟨k', v'⟩ := e
    simp only [List.map_cons, List.pairwise_cons] at h
    by_cases hk : k' = k
    · subst hk
      by_cases hv : v = dflt
      · simp only [tabSet, hv, if_true]
        cases r with
        | nil => by_cases hw : w = dflt <;> simp [tabSet, hw]
        | cons e' r' =>
          obtain ⟨k2, v2⟩ := e'
          have h2 : k' < k2 := h.1 k2 (by simp)
          by_cases hw : w = dflt <;> simp [tabSet, hw, h2, Nat.ne_of_gt h2]
      · simp [tabSet, hv]
    · by_cases hl : k < k'
      · by_cases hv : v = dflt <;> simp [tabSet, hv, hk, hl]
      · simp [tabSet, hk, hl, ih h.2]

omit [DecidableEq α] in
theorem tabGet_tabDrop_in (dflt : α) (lo n k : Nat) (t : Tab α) (h1 : lo ≤ k) (h2 : k < lo + n) :
    tabGet dflt k (tabDrop lo n t) = dflt := by
  induction t with
  | nil => rfl
  | cons e r ih =>
    obtain ⟨k', v'⟩ := e
    simp only [tabDrop, List.filter_cons] at ih ⊢
    split
    · rename_i hk
      simp only [decide_eq_true_eq] at hk
      simp only [tabGet]
      rw [if_neg (by omega), ih]
    · exact ih

omit [DecidableEq α] in
theorem tabGet_tabDrop_out (dflt : α) (lo n k : Nat) (t : Tab α) (h : k < lo ∨ lo + n ≤ k) :
    tabGet dflt k (tabDrop lo n t) = tabGet dflt k t := by
  induction t with
  | nil => rfl
  | cons e r ih =>
    obtain ⟨k', v'⟩ := e
    simp only [tabDrop, List.filter_cons] at ih ⊢
    split
    · simp only [tabGet]; rw [ih]
    · rename_i hk
      simp only [decide_eq_true_eq] at hk
      simp only [tabGet]
      rw [if_neg (by rintro rfl; exact hk h), ih]

end Sys2Proof.Machine
end

