-- ==== Sys2Proof/Laws/Memory.lean ====
section
/-! SUPPORT. Every operation over memory, registers and the tables of State keeps the canonical form: Memory.wf for the operations
that write memory, Canonical for all. -/

namespace Sys2Proof.Machine

/-! ## What the canonical form depends on -/

/-- A change of the fields that the canonical form does not look at keeps it. -/
theorem Canonical.congr {d e : Device} (h : Canonical d) (h1 : e.mem = d.mem := by rfl) (h2 : e.jnl.flashA = d.jnl.flashA := by rfl)
    (h3 : e.jnl.flashB = d.jnl.flashB := by rfl) (h4 : e.regs = d.regs := by rfl) (h5 : e.parts = d.parts := by rfl)
    (h6 : e.arrs = d.arrs := by rfl) (h7 : e.scs = d.scs := by rfl) (h8 : e.links = d.links := by rfl)
    (h9 : e.trigs = d.trigs := by rfl) : Canonical e := by
  unfold Canonical Memory.wf at *
  rw [h1, h2, h3, h4, h5, h6, h7, h8, h9]
  exact h

/-- A canonical memory in place of the old one. -/
theorem Canonical.mem {d : Device} (h : Canonical d) {m : List Host.Cell} (hm : tabWf (0 : Byte) m) :
    Canonical { d with mem := m } := ⟨hm, h.2⟩

theorem Canonical.regs {d : Device} (h : Canonical d) {r : Tab Word} (hr : Rising r) : Canonical { d with regs := r } :=
  ⟨h.1, h.2.1, h.2.2.1, hr, h.2.2.2.2⟩

/-! ## Memory -/

theorem memSet_wf (k : Nat) (b : Byte) (d : Device) (h : Memory.wf d) : Memory.wf (memSet k b d) := tabSet_wf 0 k b d.mem h

theorem memClear_wf (lo n : Nat) (d : Device) (h : Memory.wf d) : Memory.wf (memClear lo n d) := tabDrop_wf 0 lo n d.mem h

theorem storeBytes_wf (l : Nat) (bs : List Byte) (d : Device) (h : Memory.wf d) : Memory.wf (storeBytes l bs d) := by
  induction bs generalizing l d with
  | nil => exact h
  | cons b r ih => exact ih _ _ (memSet_wf _ _ _ h)

/-- Stores change memory alone. -/
theorem storeBytes_frame (l : Nat) (bs : List Byte) (d : Device) : ∃ m, storeBytes l bs d = { d with mem := m } := by
  induction bs generalizing l d with
  | nil => exact ⟨d.mem, rfl⟩
  | cons b r ih =>
    obtain ⟨m, hm⟩ := ih (l + 1) (memSet (memKey d l) b d)
    exact ⟨m, by rw [storeBytes, hm]; rfl⟩

theorem memSet_canonical (k : Nat) (b : Byte) (d : Device) (h : Canonical d) : Canonical (memSet k b d) :=
  h.mem (memSet_wf k b d h.1)

theorem memClear_canonical (lo n : Nat) (d : Device) (h : Canonical d) : Canonical (memClear lo n d) :=
  h.mem (memClear_wf lo n d h.1)

theorem storeBytes_canonical (l : Nat) (bs : List Byte) (d : Device) (h : Canonical d) : Canonical (storeBytes l bs d) := by
  have hw := storeBytes_wf l bs d h.1
  obtain ⟨m, hm⟩ := storeBytes_frame l bs d
  rw [hm] at hw ⊢
  exact h.mem hw

/-! ## Registers -/

theorem rput_canonical (off : Nat) (w : Word) (d : Device) (h : Canonical d) : Canonical (rput off w d) :=
  h.regs (tabSet_rising _ off w d.regs h.2.2.2.1)

theorem fput_canonical (off : Nat) (f : Fld) (v : Nat) (d : Device) (h : Canonical d) : Canonical (fput off f v d) :=
  rput_canonical _ _ _ h

theorem fsat_canonical (off : Nat) (f : Fld) (n : Nat) (d : Device) (h : Canonical d) : Canonical (fsat off f n d) :=
  fput_canonical _ _ _ _ h

theorem fwrap_canonical (off : Nat) (f : Fld) (n : Nat) (d : Device) (h : Canonical d) : Canonical (fwrap off f n d) :=
  fput_canonical _ _ _ _ h

theorem rreset_canonical (p : Nat → Bool) (d : Device) (h : Canonical d) : Canonical (rreset p d) :=
  h.regs (filter_rising _ _ h.2.2.2.1)

/-! ## The tables of State -/

theorem setArr_canonical (a : Nat) (x : Arr) (d : Device) (h : Canonical d) : Canonical (setArr a x d) :=
  ⟨h.1, h.2.1, h.2.2.1, h.2.2.2.1, h.2.2.2.2.1, tabSet_rising _ a x d.arrs h.2.2.2.2.2.1, h.2.2.2.2.2.2⟩

theorem setSc_canonical (k : Nat) (x : ScRt) (d : Device) (h : Canonical d) : Canonical (setSc k x d) :=
  ⟨h.1, h.2.1, h.2.2.1, h.2.2.2.1, h.2.2.2.2.1, h.2.2.2.2.2.1, tabSet_rising _ k x d.scs h.2.2.2.2.2.2.1, h.2.2.2.2.2.2.2⟩

theorem setLink_canonical (k : Nat) (x : Link) (d : Device) (h : Canonical d) : Canonical (setLink k x d) :=
  ⟨h.1, h.2.1, h.2.2.1, h.2.2.2.1, h.2.2.2.2.1, h.2.2.2.2.2.1, h.2.2.2.2.2.2.1, tabSet_rising _ k x d.links h.2.2.2.2.2.2.2.1,
    h.2.2.2.2.2.2.2.2⟩

theorem setTrig_canonical (k : Nat) (x : Trig) (d : Device) (h : Canonical d) : Canonical (setTrig k x d) :=
  ⟨h.1, h.2.1, h.2.2.1, h.2.2.2.1, h.2.2.2.2.1, h.2.2.2.2.2.1, h.2.2.2.2.2.2.1, h.2.2.2.2.2.2.2.1,
    tabSet_rising _ k x d.trigs h.2.2.2.2.2.2.2.2.1, h.2.2.2.2.2.2.2.2.2⟩

/-- A partition's tables of rings are in rising order. -/
def PartRising (x : Part) : Prop := Rising x.rings ∧ Rising x.cqs

/-- An entry that a table gives for a key is the default or in the table. -/
theorem tabGet_mem {α : Type} (dflt : α) (k : Nat) (t : Tab α) : tabGet dflt k t = dflt ∨ (k, tabGet dflt k t) ∈ t := by
  induction t with
  | nil => exact Or.inl rfl
  | cons e r ih =>
    obtain ⟨k', v⟩ := e
    simp only [tabGet]
    split
    · subst_vars; exact Or.inr (by simp)
    · rcases ih with h | h
      · exact Or.inl h
      · exact Or.inr (List.mem_cons_of_mem _ h)

theorem partOf_rising (p : Nat) (d : Device) (h : Canonical d) : PartRising (partOf d p) := by
  rcases tabGet_mem ({} : Part) p d.parts with e | e
  · rw [partOf, e]; exact ⟨List.Pairwise.nil, List.Pairwise.nil⟩
  · exact h.2.2.2.2.2.2.2.2.2 _ e

theorem setPart_canonical (p : Nat) (x : Part) (d : Device) (h : Canonical d) (hx : PartRising x) : Canonical (setPart p x d) :=
  ⟨h.1, h.2.1, h.2.2.1, h.2.2.2.1, tabSet_rising _ p x d.parts h.2.2.2.2.1, h.2.2.2.2.2.1, h.2.2.2.2.2.2.1, h.2.2.2.2.2.2.2.1,
    h.2.2.2.2.2.2.2.2.1, tabSet_vals ({} : Part) p x d.parts (fun e => PartRising e.2) h.2.2.2.2.2.2.2.2.2 fun _ => hx⟩

theorem setRing_rising (q : Nat) (r : Ring) (x : Part) (h : PartRising x) : PartRising (setRing q r x) :=
  ⟨tabSet_rising _ q r x.rings h.1, h.2⟩

theorem setCq_rising (q : Nat) (r : CqRt) (x : Part) (h : PartRising x) : PartRising (setCq q r x) :=
  ⟨h.1, tabSet_rising _ q r x.cqs h.2⟩

theorem setCmd_canonical (c : Cmd) (d : Device) (h : Canonical d) : Canonical (setCmd c d) := h.congr

theorem emit_canonical (o : Out) (d : Device) (h : Canonical d) : Canonical (emit o d) := h.congr

/-- A fold of operations each of which keeps the canonical form keeps it. -/
theorem foldl_canonical {α : Type} (f : Device → α → Device) (hf : ∀ d x, Canonical d → Canonical (f d x)) (l : List α) (d : Device)
    (h : Canonical d) : Canonical (l.foldl f d) := by
  induction l generalizing d with
  | nil => exact h
  | cons x r ih => exact ih _ (hf _ _ h)

theorem outputs_canonical (d : Device) (h : Canonical d) : Canonical (outputs d) := h.congr

/-! ## Reports: journal intake, trace, events -/

theorem jnlPush_canonical (t : Nat) (pl : List Byte) (d : Device) (h : Canonical d) : Canonical (jnlPush t pl d) :=
  fwrap_canonical _ _ _ _ h.congr

theorem jnlDrop_canonical (t : Nat) (d : Device) (h : Canonical d) : Canonical (jnlDrop t d) :=
  fsat_canonical _ _ _ _ h.congr

theorem journal_canonical (t : Nat) (pl : List Byte) (d : Device) (h : Canonical d) : Canonical (journal t pl d) := by
  unfold journal; split
  · exact jnlPush_canonical _ _ _ h
  · exact jnlDrop_canonical _ _ h

theorem trcPut_canonical (s : Nat) (p : TPkt) (d : Device) (h : Canonical d) : Canonical (trcPut s p d) := by
  unfold trcPut; split
  · split
    · exact h.congr
    · exact fsat_canonical _ _ _ _ h.congr
  · exact h

theorem trcOwn_canonical (p : TPkt) (d : Device) (h : Canonical d) : Canonical (trcOwn p d) := by
  unfold trcOwn; split
  · exact h.congr
  · exact h

theorem msixSend_canonical (fn v : Nat) (d : Device) (h : Canonical d) : Canonical (msixSend fn v d) := by
  unfold msixSend; split
  · exact h
  · split
    · exact rput_canonical _ _ _ h
    · exact emit_canonical _ _ h

theorem evWrite_canonical (p : Nat) (e : EvRec) (d : Device) (h : Canonical d) : Canonical (evWrite p e d) := by
  unfold evWrite
  exact msixSend_canonical _ _ _ (emit_canonical _ _ (emit_canonical _ _ (setPart_canonical _ _ _ h (partOf_rising p d h))))

theorem evDeliver_canonical (p : Nat) (e : EvRec) (d : Device) (h : Canonical d) : Canonical (evDeliver p e d) := by
  unfold evDeliver; simp only []; split
  · exact evWrite_canonical _ _ _ h
  · exact fsat_canonical _ _ _ _ (setPart_canonical _ _ _ h (partOf_rising p d h))

theorem faultLog_canonical (code : Nat) (d : Device) (h : Canonical d) : Canonical (faultLog code d) := by
  unfold faultLog
  exact rput_canonical _ _ _ (rput_canonical _ _ _
    (foldl_canonical _ (fun d _ hd => rput_canonical _ _ _ (rput_canonical _ _ _ hd)) _ _ h))

theorem evJournal_canonical (e : EvRec) (d : Device) (h : Canonical d) : Canonical (evJournal e d) := by
  unfold evJournal
  split
  · split
    · exact faultLog_canonical _ _ h
    · exact journal_canonical _ _ _ h
  · split
    · exact journal_canonical _ _ _ h
    · exact h

theorem evTrace_canonical (e : EvRec) (d : Device) (h : Canonical d) : Canonical (evTrace e d) := by
  unfold evTrace
  split
  · split
    · split
      · exact h.congr
      · split
        · exact h.congr
        · exact h.congr
    · exact h
  · exact trcPut_canonical _ _ _ h

theorem evElsewhere_canonical (e : EvRec) (d : Device) (h : Canonical d) : Canonical (evElsewhere e d) :=
  evJournal_canonical _ _ (evTrace_canonical _ _ h)

theorem raiseAt_canonical (wide : Bool) (p : Nat) (e : EvRec) (d : Device) (h : Canonical d) : Canonical (raiseAt wide p e d) := by
  unfold raiseAt; simp only []; split
  · have k := fun l => setPart_canonical p { partOf d p with evOpen := l } d h (partOf_rising p d h)
    split
    · exact evJournal_canonical _ _ (k _)
    · exact k _
  · have k := evDeliver_canonical p e _ (setPart_canonical p
      { partOf d p with evOpen := (partOf d p).evOpen ++ [{ e with count := 0 }] } d h (partOf_rising p d h))
    split
    · exact evElsewhere_canonical _ _ k
    · exact k

theorem raise_canonical (p code source a0 a1 step : Nat) (d : Device) (h : Canonical d) :
    Canonical (raise p code source a0 a1 step d) := raiseAt_canonical _ _ _ _ h

theorem raiseDev_canonical (code source a0 a1 : Nat) (d : Device) (h : Canonical d) : Canonical (raiseDev code source a0 a1 d) :=
  raise_canonical _ _ _ _ _ _ _ h

theorem breach_canonical (a b n : Nat) (d : Device) (h : Canonical d) : Canonical (breach a b n d) := by
  unfold breach; simp only []; split <;> first | exact fsat_canonical _ _ _ _ (raiseDev_canonical _ _ _ _ _ h) | exact raiseDev_canonical _ _ _ _ _ h

/-! ## Counters, command ends, checked memory -/

theorem perfUnit_canonical (n : Nat) (ctl cnt hi : Nat → Nat) (ev : Nat) (part : Option Nat) (k : Nat) (d : Device) (h : Canonical d) :
    Canonical (perfUnit n ctl cnt hi ev part k d) := by
  unfold perfUnit
  refine foldl_canonical _ (fun d i hd => ?_) _ _ h
  simp only []
  split
  · split
    · exact rput_canonical _ _ _ (rput_canonical _ _ _ (rput_canonical _ _ _ hd))
    · exact rput_canonical _ _ _ (rput_canonical _ _ _ hd)
  · exact hd

theorem perfArr_canonical (a ev : Nat) (part : Option Nat) (k : Nat) (d : Device) (h : Canonical d) :
    Canonical (perfArr a ev part k d) := perfUnit_canonical _ _ _ _ _ _ _ _ h

theorem perfOne_canonical (u ev : Nat) (part : Option Nat) (k : Nat) (d : Device) (h : Canonical d) :
    Canonical (perfOne u ev part k d) := perfUnit_canonical _ _ _ _ _ _ _ _ h

theorem hbmRead_canonical (l n : Nat) (part : Option Nat) (d : Device) (h : Canonical d) : Canonical (hbmRead l n part d) := by
  unfold hbmRead; split
  · exact perfOne_canonical _ _ _ _ _ h
  · exact h

theorem hbmWrite_canonical (l n : Nat) (part : Option Nat) (d : Device) (h : Canonical d) : Canonical (hbmWrite l n part d) := by
  unfold hbmWrite; split
  · exact perfOne_canonical _ _ _ _ _ h
  · exact h

theorem endCmd_canonical (c : Cmd) (x : Done) (d : Device) (h : Canonical d) : Canonical (endCmd c x d) := by
  unfold endCmd; simp only []; split
  · split
    · exact breach_canonical _ _ _ _ (fsat_canonical _ _ _ _ (setCmd_canonical _ _ h))
    · exact fsat_canonical _ _ _ _ (setCmd_canonical _ _ h)
  · exact setCmd_canonical _ _ h

theorem countParity_canonical (l : Nat) (d : Device) (h : Canonical d) : Canonical (countParity l d) := by
  unfold countParity; split <;> first | exact fsat_canonical _ _ _ _ h | exact h

theorem wantRetire_canonical (k page : Nat) (u : Bool) (d : Device) (h : Canonical d) : Canonical (wantRetire k page u d) := by
  unfold wantRetire; split
  · exact h
  · exact h.congr

theorem correctedAt_canonical (l : Nat) (d : Device) (h : Canonical d) : Canonical (correctedAt l d) := by
  unfold correctedAt; simp only []; split
  · exact wantRetire_canonical _ _ _ _ (fsat_canonical _ _ _ _ h).congr
  · exact (fsat_canonical _ _ _ _ h).congr

theorem poisonAt_canonical (p l : Nat) (d : Device) (h : Canonical d) : Canonical (poisonAt p l d) := by
  unfold poisonAt; simp only []; split
  · exact h
  · exact wantRetire_canonical _ _ _ _ (raise_canonical _ _ _ _ _ _ _ (fsat_canonical _ _ _ _ h.congr))

theorem flipAt_canonical (l : Nat) (d : Device) (h : Canonical d) : Canonical (flipAt l d) := by
  unfold flipAt; split
  · exact h.congr
  · exact h

theorem countWaits_canonical (x : Circ) (d : Device) (h : Canonical d) : Canonical (countWaits x d) := by
  unfold countWaits
  have k : ∀ (f : Nat → Nat) (g : Fld) (l : List (Nat × Nat)) (d : Device), Canonical d →
      Canonical (l.foldl (fun d x => fsat (f x.1) g x.2 d) d) := fun f g l d h =>
    foldl_canonical _ (fun d _ hd => fsat_canonical _ _ _ d hd) _ _ h
  exact k _ _ _ _ (k _ _ _ _ (k _ _ _ _ (k _ _ _ _ (k _ _ _ _ h))))

theorem applyCirc_canonical (p : Nat) (x : Circ) (d : Device) (h : Canonical d) : Canonical (applyCirc p x d) := by
  unfold applyCirc
  exact foldl_canonical _ (fun d l hd => flipAt_canonical l d hd) _ _
    (foldl_canonical _ (fun d l hd => poisonAt_canonical p l d hd) _ _
      (foldl_canonical _ (fun d l hd => correctedAt_canonical l d hd) _ _ (countWaits_canonical x d h)))

theorem writeUnit_canonical (l : Nat) (bs : List Byte) (d : Device) (h : Canonical d) : Canonical (writeUnit l bs d).1 := by
  unfold writeUnit; simp only []; split
  · exact (storeBytes_canonical l bs d h).congr
  · split
    · exact countParity_canonical l d h
    · exact storeBytes_canonical l bs d h

theorem writePieces_canonical (ps : List (Nat × Nat)) (bs : List Byte) (d : Device) (h : Canonical d) :
    Canonical (writePieces ps bs d).1 := by
  induction ps generalizing bs d with
  | nil => exact h
  | cons p r ih =>
    obtain ⟨l, n⟩ := p
    have k := writeUnit_canonical l (bs.take n) d h
    simp only [writePieces]
    split
    · rename_i e; rw [e] at k; exact ih _ _ k
    · rename_i e; rw [e] at k; exact ih _ _ k

theorem writeMem_canonical (l : Nat) (bs : List Byte) (d : Device) (h : Canonical d) : Canonical (writeMem l bs d).1 := by
  unfold writeMem; split
  · exact storeBytes_canonical l bs d h
  · exact writePieces_canonical _ _ _ h

theorem put_canonical (l : Nat) (bs : List Byte) (d : Device) (h : Canonical d) : Canonical (put l bs d) := writeMem_canonical l bs d h

theorem putHbm_canonical (l : Nat) (bs : List Byte) (d : Device) (h : Canonical d) : Canonical (putHbm l bs d) := by
  unfold putHbm; split
  · exact put_canonical l bs d h
  · exact h

theorem clearRange_canonical (l n : Nat) (d : Device) (h : Canonical d) : Canonical (clearRange l n d) :=
  (memClear_canonical l n d h).congr

theorem clearArray_canonical (a : Nat) (d : Device) (h : Canonical d) : Canonical (clearArray a d) :=
  clearRange_canonical _ _ _ (clearRange_canonical _ _ _ h)

theorem clearBand_canonical (b : Nat) (d : Device) (h : Canonical d) : Canonical (clearBand b d) := clearRange_canonical _ _ _ h

/-! ## Memory.wf of the checked operations and of reset -/

/-- Memory's canonical form is that of a device whose other tables are in theirs: the checked operations keep it. -/
theorem writeUnit_wf (l : Nat) (bs : List Byte) (d : Device) (h : Memory.wf d) : Memory.wf (writeUnit l bs d).1 := by
  unfold writeUnit; simp only []; split
  · exact storeBytes_wf l bs d h
  · split
    · unfold countParity; split <;> exact h
    · exact storeBytes_wf l bs d h

theorem writePieces_wf (ps : List (Nat × Nat)) (bs : List Byte) (d : Device) (h : Memory.wf d) : Memory.wf (writePieces ps bs d).1 := by
  induction ps generalizing bs d with
  | nil => exact h
  | cons p r ih =>
    obtain ⟨l, n⟩ := p
    have k := writeUnit_wf l (bs.take n) d h
    simp only [writePieces]
    split
    · rename_i e; rw [e] at k; exact ih _ _ k
    · rename_i e; rw [e] at k; exact ih _ _ k

theorem writeMem_wf (l : Nat) (bs : List Byte) (d : Device) (h : Memory.wf d) : Memory.wf (writeMem l bs d).1 := by
  unfold writeMem; split
  · exact storeBytes_wf l bs d h
  · exact writePieces_wf _ _ _ h

theorem put_wf (l : Nat) (bs : List Byte) (d : Device) (h : Memory.wf d) : Memory.wf (put l bs d) := writeMem_wf l bs d h

theorem putHbm_wf (l : Nat) (bs : List Byte) (d : Device) (h : Memory.wf d) : Memory.wf (putHbm l bs d) := by
  unfold putHbm; split
  · exact put_wf l bs d h
  · exact h

theorem clearRange_wf (l n : Nat) (d : Device) (h : Memory.wf d) : Memory.wf (clearRange l n d) := memClear_wf l n d h

theorem reset_memory_wf : Memory.wf State.reset.dev := ⟨List.Pairwise.nil, fun _ h => nomatch h⟩

end Sys2Proof.Machine
end

