-- ==== Sys2Proof/Laws/Regs.lean ====
section
/-! SUPPORT. Laws of bit fields and registers: what a register or a field reads after one is set. -/

namespace Sys2Proof.Machine

/-! ## Bit fields -/

theorem bits_lt (hi lo w : Nat) : bits hi lo w < 2 ^ (hi + 1 - lo) := Nat.mod_lt _ (Nat.two_pow_pos _)

/-- A number cut at a field: what lies below it, the field, and what lies above. -/
theorem split_bits (hi lo w : Nat) (h : lo ≤ hi) :
    w = w % 2 ^ lo + bits hi lo w * 2 ^ lo + (w / 2 ^ (hi + 1)) * 2 ^ (hi + 1) := by
  have e : 2 ^ (hi + 1) = 2 ^ lo * 2 ^ (hi + 1 - lo) := by rw [← Nat.pow_add]; congr 1; omega
  have h1 := Nat.mod_add_div w (2 ^ lo)
  have h2 := Nat.mod_add_div (w / 2 ^ lo) (2 ^ (hi + 1 - lo))
  rw [Nat.div_div_eq_div_mul, ← e] at h2
  simp only [bits]
  rw [e, Nat.mul_comm (w / _) _, Nat.mul_assoc, ← e]
  have h3 : w / 2 ^ lo * 2 ^ lo = ((w / 2 ^ lo) % 2 ^ (hi + 1 - lo) + 2 ^ (hi + 1 - lo) * (w / 2 ^ (hi + 1))) * 2 ^ lo := by rw [h2]
  rw [Nat.add_mul] at h3
  rw [Nat.mul_comm (2 ^ lo) (_ * _), Nat.add_assoc, ← h3, Nat.mul_comm (w / 2 ^ lo)]
  exact h1.symm

theorem setBits_eq (hi lo v w : Nat) (h : lo ≤ hi) :
    setBits hi lo v w = w % 2 ^ lo + (v % 2 ^ (hi + 1 - lo)) * 2 ^ lo + (w / 2 ^ (hi + 1)) * 2 ^ (hi + 1) := by
  have := split_bits hi lo w h
  simp only [setBits]
  omega

/-- The field set reads as set. -/
theorem bits_setBits_same (hi lo v w : Nat) (h : lo ≤ hi) : bits hi lo (setBits hi lo v w) = v % 2 ^ (hi + 1 - lo) := by
  rw [setBits_eq hi lo v w h]
  have e : 2 ^ (hi + 1) = 2 ^ lo * 2 ^ (hi + 1 - lo) := by rw [← Nat.pow_add]; congr 1; omega
  have hp : 0 < 2 ^ lo := Nat.two_pow_pos _
  simp only [bits]
  have : (w % 2 ^ lo + v % 2 ^ (hi + 1 - lo) * 2 ^ lo + w / 2 ^ (hi + 1) * 2 ^ (hi + 1)) / 2 ^ lo =
      v % 2 ^ (hi + 1 - lo) + w / 2 ^ (hi + 1) * 2 ^ (hi + 1 - lo) := by
    rw [e, show w / (2 ^ lo * 2 ^ (hi + 1 - lo)) * (2 ^ lo * 2 ^ (hi + 1 - lo)) =
      (w / (2 ^ lo * 2 ^ (hi + 1 - lo)) * 2 ^ (hi + 1 - lo)) * 2 ^ lo by rw [Nat.mul_comm (2 ^ lo), Nat.mul_assoc]]
    rw [Nat.add_mul_div_right _ _ hp, Nat.add_mul_div_right _ _ hp, Nat.div_eq_of_lt (Nat.mod_lt _ hp), Nat.zero_add]
  rw [this, Nat.add_mul_mod_self_right, Nat.mod_mod]

/-- A field above the one set reads as before. -/
theorem bits_setBits_above (hi lo v w hi' lo' : Nat) (h : lo ≤ hi) (h' : hi < lo') :
    bits hi' lo' (setBits hi lo v w) = bits hi' lo' w := by
  have e : 2 ^ (hi + 1) = 2 ^ lo * 2 ^ (hi + 1 - lo) := by rw [← Nat.pow_add]; congr 1; omega
  have hq : setBits hi lo v w / 2 ^ (hi + 1) = w / 2 ^ (hi + 1) := by
    rw [setBits_eq hi lo v w h, Nat.add_mul_div_right _ _ (Nat.two_pow_pos _), Nat.div_eq_of_lt, Nat.zero_add]
    rw [e]
    have h1 : w % 2 ^ lo < 2 ^ lo := Nat.mod_lt _ (Nat.two_pow_pos _)
    have h2 : v % 2 ^ (hi + 1 - lo) + 1 ≤ 2 ^ (hi + 1 - lo) := Nat.mod_lt _ (Nat.two_pow_pos _)
    calc _ < 2 ^ lo + v % 2 ^ (hi + 1 - lo) * 2 ^ lo := by omega
      _ = (v % 2 ^ (hi + 1 - lo) + 1) * 2 ^ lo := by rw [Nat.add_mul, Nat.one_mul, Nat.add_comm]
      _ ≤ 2 ^ (hi + 1 - lo) * 2 ^ lo := Nat.mul_le_mul_right _ h2
      _ = _ := Nat.mul_comm _ _
  have e2 : 2 ^ lo' = 2 ^ (hi + 1) * 2 ^ (lo' - (hi + 1)) := by rw [← Nat.pow_add]; congr 1; omega
  simp only [bits, e2, ← Nat.div_div_eq_div_mul, hq]

/-- A field below the one set reads as before. -/
theorem bits_setBits_below (hi lo v w hi' lo' : Nat) (h : lo ≤ hi) (h' : hi' < lo) (hl : lo' ≤ hi') :
    bits hi' lo' (setBits hi lo v w) = bits hi' lo' w := by
  have e : 2 ^ (hi + 1) = 2 ^ lo * 2 ^ (hi + 1 - lo) := by rw [← Nat.pow_add]; congr 1; omega
  have hq : setBits hi lo v w % 2 ^ lo = w % 2 ^ lo := by
    rw [setBits_eq hi lo v w h, e, Nat.mul_comm (2 ^ lo) (2 ^ (hi + 1 - lo)), ← Nat.mul_assoc, Nat.add_mul_mod_self_right,
      Nat.add_mul_mod_self_right, Nat.mod_mod]
  have k (x : Nat) : bits hi' lo' x = bits hi' lo' (x % 2 ^ lo) := by
    simp only [bits]
    have e2 : 2 ^ lo = 2 ^ lo' * (2 ^ (hi' + 1 - lo') * 2 ^ (lo - (hi' + 1))) := by
      rw [← Nat.pow_add, ← Nat.pow_add]; congr 1; omega
    rw [e2, Nat.mod_mul_right_div_self, Nat.mod_mul_right_mod]
  rw [k, hq, ← k]

theorem setBits_lt (hi lo v w : Nat) (h : lo ≤ hi) (n : Nat) (hn : hi < n) (hw : w < 2 ^ n) : setBits hi lo v w < 2 ^ n := by
  rw [setBits_eq hi lo v w h]
  have e : 2 ^ (hi + 1) = 2 ^ lo * 2 ^ (hi + 1 - lo) := by rw [← Nat.pow_add]; congr 1; omega
  have e2 : 2 ^ n = 2 ^ (n - (hi + 1)) * 2 ^ (hi + 1) := by rw [← Nat.pow_add]; congr 1; omega
  have h1 : w % 2 ^ lo < 2 ^ lo := Nat.mod_lt _ (Nat.two_pow_pos _)
  have h2 : v % 2 ^ (hi + 1 - lo) + 1 ≤ 2 ^ (hi + 1 - lo) := Nat.mod_lt _ (Nat.two_pow_pos _)
  have h3 : w / 2 ^ (hi + 1) + 1 ≤ 2 ^ (n - (hi + 1)) := by
    rw [Nat.add_one_le_iff, Nat.div_lt_iff_lt_mul (Nat.two_pow_pos _), ← e2]; exact hw
  have h4 : (v % 2 ^ (hi + 1 - lo) + 1) * 2 ^ lo ≤ 2 ^ (hi + 1) := by rw [e, Nat.mul_comm (2 ^ lo)]; exact Nat.mul_le_mul_right _ h2
  have h5 : (w / 2 ^ (hi + 1) + 1) * 2 ^ (hi + 1) ≤ 2 ^ n := by rw [e2]; exact Nat.mul_le_mul_right _ h3
  rw [Nat.add_mul] at h4 h5
  omega

/-! ## Registers -/

@[simp] theorem rst_rput (off o : Nat) (w : Word) (d : Device) : rst (rput off w d) o = rst d o := rfl

/-- A register set reads back. -/
theorem rget_rput_same (off : Nat) (w : Word) (d : Device) (h : Rising d.regs) : rget (rput off w d) off = w :=
  tabGet_tabSet_same _ off w d.regs h

/-- Another register reads as before. -/
theorem rget_rput_ne (off o : Nat) (w : Word) (d : Device) (h : o ≠ off) : rget (rput off w d) o = rget d o :=
  tabGet_tabSet_ne _ _ off o w d.regs h

theorem rput_rising (off : Nat) (w : Word) (d : Device) (h : Rising d.regs) : Rising (rput off w d).regs :=
  tabSet_rising _ off w d.regs h

theorem fput_rising (off : Nat) (f : Fld) (v : Nat) (d : Device) (h : Rising d.regs) : Rising (fput off f v d).regs :=
  rput_rising off _ d h

/-- Setting a register twice is setting it once. -/
theorem rput_rput (off : Nat) (v w : Word) (d : Device) (h : Rising d.regs) : rput off w (rput off v d) = rput off w d := by
  simp only [rput]
  congr 1
  exact tabSet_tabSet _ off v w d.regs h

theorem rget_fput_same (off : Nat) (f : Fld) (v : Nat) (d : Device) (h : Rising d.regs) (hf : f.lo ≤ f.hi) (hi : f.hi < 32) :
    (rget (fput off f v d) off).toNat = setBits f.hi f.lo v (rget d off).toNat := by
  rw [fput, rget_rput_same _ _ _ h, BitVec.toNat_ofNat, Nat.mod_eq_of_lt]
  exact setBits_lt _ _ _ _ hf 32 hi (rget d off).isLt

/-- A field set reads as set. -/
theorem fget_fput_same (off : Nat) (f : Fld) (v : Nat) (d : Device) (h : Rising d.regs) (hf : f.lo ≤ f.hi) (hi : f.hi < 32) :
    fget (fput off f v d) off f = v % 2 ^ (f.hi + 1 - f.lo) := by
  rw [fget, rget_fput_same off f v d h hf hi, bits_setBits_same _ _ _ _ hf]

/-- Another field of the register reads as before. -/
theorem fget_fput_other (off : Nat) (f g : Fld) (v : Nat) (d : Device) (h : Rising d.regs) (hf : f.lo ≤ f.hi) (hi : f.hi < 32)
    (hg : f.hi < g.lo ∨ (g.hi < f.lo ∧ g.lo ≤ g.hi)) : fget (fput off f v d) off g = fget d off g := by
  simp only [fget]
  rw [rget_fput_same off f v d h hf hi]
  rcases hg with hg | ⟨h1, h2⟩
  · exact bits_setBits_above _ _ _ _ _ _ hf hg
  · exact bits_setBits_below _ _ _ _ _ _ hf h1 h2

/-- A field of another register reads as before. -/
theorem fget_fput_ne (off o : Nat) (f g : Fld) (v : Nat) (d : Device) (h : o ≠ off) : fget (fput off f v d) o g = fget d o g := by
  simp only [fget, fput]
  rw [rget_rput_ne _ _ _ _ h]

theorem rget_fput_ne (off o : Nat) (f : Fld) (v : Nat) (d : Device) (h : o ≠ off) : rget (fput off f v d) o = rget d o :=
  rget_rput_ne _ _ _ _ h

/-- Registers depend on the register table, the variant and the straps alone. -/
theorem rget_congr {d e : Device} (h : e.regs = d.regs) (hv : e.variant = d.variant) (hs : e.straps = d.straps) (off : Nat) :
    rget e off = rget d off := by simp only [rget, rst, h, hv, hs]

theorem fget_congr {d e : Device} (h : e.regs = d.regs) (hv : e.variant = d.variant) (hs : e.straps = d.straps) (off : Nat) (f : Fld) :
    fget e off f = fget d off f := by simp only [fget, rget_congr h hv hs]

end Sys2Proof.Machine
end

