-- ==== Sys2Proof/Tests/Slice0.lean ====
section
/-! SUPPORT. Tests of the model, with expected results worked out by hand from the manual, and for every statement of
Certificates/Slice0/Obligations.lean a witness: a concrete state and operands that meet its hypotheses, at the edges of their ranges
where it has several clauses. -/

open Sys2Proof Sys2Proof.Machine

set_option Elab.async false

namespace Sys2Proof.Tests

/-! ## Building small states -/

/-- Registers written one after another. -/
def regs (l : List (Nat × Nat)) (d : Device) : Device := l.foldl (fun d x => rput x.1 (BitVec.ofNat 32 x.2) d) d

/-- Bytes of memory written at a local address. -/
def bytesIn (l : Nat) (bs : List Byte) (d : Device) : Device := storeBytes l bs d

/-- 16 words with some of them set. -/
def words (l : List (Nat × Nat)) : List Word := (List.range 16).map fun k => BitVec.ofNat 32 (((l.find? fun x => decide (x.1 = k)).map Prod.snd).getD 0)

/-- A running command of partition 3, from ring 1, slot 2. -/
def cmd (l : List (Nat × Nat)) : Cmd := { id := 7, part := 3, sq := 1, slot := 2, words := words l, phase := .running }

/-- Partition 3 owns the arrays and the band store of chain 0. -/
def own : Device := regs [(oArrayMask 3 0, 0xFFFF), (oBandOwner, 3)] {}

/-- That device with one command. -/
def withCmd (c : Cmd) (d : Device) : Device := { d with cmds := [c], nextId := 8 }

/-- A state with an empty queue. -/
def st (d : Device) : State := { dev := d }

/-- What a next state shows; none for a fault or a refusal. -/
def see {α : Type} (o : Host.Outcome State Fault Refusal) (f : Device → α) : Option α :=
  match o with | .next s => some (f s.dev) | _ => none

/-- The status with which command 7 has ended. -/
def ended (d : Device) : Option Nat := (cmdOf d 7).bind fun c => if c.phase = .ended then some c.done.status else none

/-- No page of a device is retired whose entries are all clear. -/
theorem retired_none (d : Device) (h : ∀ e ∈ d.regs, e.1 < oRetireEntry 0 0 ∨ bits 31 31 e.2.toNat ≠ 1) (k page : Nat) :
    retiredAt d k page = none := by
  unfold retiredAt
  rw [List.filter_eq_nil_iff.mpr]
  · rfl
  · intro e he hp
    simp only [Bool.and_eq_true, decide_eq_true_eq] at hp
    rcases h e he with h | h
    · have : oRetireEntry 0 0 ≤ oRetireEntry k 0 := by simp only [oRetireEntry]; omega
      omega
    · exact h hp.1.2

/-- HBM without regions and retired pages. -/
theorem plain_hbm (d : Device) (hr : regions d = []) (h : ∀ e ∈ d.regs, e.1 < oRetireEntry 0 0 ∨ bits 31 31 e.2.toNat ≠ 1) : PlainHbm d :=
  ⟨hr, retired_none d h⟩

/-! ## Well-formedness: a term for each check, refused -/

def badCommands : List Instr :=
  [.dispatch 64 0, .dispatch 0 16, .interruptCoalTimeout 64 0, .interruptCoalTimeout 0 16, .doorbellPoll 64 0 (List.replicate 8 0),
   .doorbellPoll 0 2 (List.replicate 8 0), .doorbellPoll 0 0 (List.replicate 7 0), .wakeWrite 64 0, .entryConsume 64 0 (List.replicate 8 0) [] 0 {},
   .entryConsume 0 16 (List.replicate 8 0) [] 0 {}, .entryConsume 0 0 [] [] 0 {}, .abortEntry 64 0 (List.replicate 8 0),
   .abortEntry 0 16 (List.replicate 8 0), .abortEntry 0 0 [0], .abortTakesEffect 64 [] [] {},
   .abortTakesEffect 0 [] [(16, List.replicate 8 0, [])] {}, .abortTakesEffect 0 [] [(0, [], [])] {}, .abortAck 64, .eventMergeTimeout 64 0 0, .functionLevelReset 64, .partReset 64, .partitionEnable 64,
   .partitionDisable 64, .partitionDisableEffect 64, .storeClearDone 64, .registerWrite 64 0 [some 0], .registerWrite 0 0x1000000 [some 0],
   .registerWrite 0 0 [], .registerWrite 0 0 (List.replicate 9 none), .scEnable 1024 0] ++
  [.arrayFault 192 .columnTree 0, .spareMapped 192, .idleTest 192 true, .tileStart 192, .weightSwap 192, .segmentSwap 192, .drainEnd 192 [],
   .scatterRetire 12 0, .scatterRetire 0 64, .tallyIncrement 192 0, .tallyIncrement 0 64, .remoteRequest ⟨4096, 0, 0, 0, 0⟩,
   .remoteRequest ⟨0, 64, 0, 0, 0⟩, .remotePacket ⟨4096, 0, 0, false, 0, 0, .visible 0 0⟩ {},
   .remotePacket ⟨0, 4096, 0, false, 0, 0, .visible 0 0⟩ {}, .remotePacket ⟨0, 0, 64, false, 0, 0, .visible 0 0⟩ {}, .linkEnable 48,
   .linkTrained 48, .ident 48 0 0, .ident 0 4096 0, .ident 0 0 48, .timeExchange 48 (List.replicate 16 (0, 0, 0, 0)) none,
   .timeExchange 0 [] none, .linkReset 48, .flitReceive 48 { header := 0, payload := List.replicate 240 0, crc := 0 } {},
   .flitReceive 0 { header := 0, payload := [], crc := 0 } {}, .nak 48 0, .nak 0 4096, .replayTimeout 48, .laneSpared 48 0, .laneSpared 0 4,
   .linkFail 48, .linkRestored 48, .descReceive 16 ⟨0, 0, 0, 0, 0, 0, 0, false⟩] ++
  [.claim 16, .checkpointApply 2 0 {}, .takeoverDone [(64, 0, 0)], .takeoverDone [(0, 16, 0)], .processorFault 5 0, .processorFault 0 4,
   .encoderEdge 2 true true 1, .encoderIndex 2 true 1, .triggerPulse 16, .triggerPulseEnd 16, .journalIntake 65536 0 [],
   .journalIntake 0 0 (List.replicate 4057 0), .journalRecordWrite [] [true, true, true], .journalRecordWrite [true, true, true] [],
   .journalMediaFault 2 0 0, .tracePacketExpire 4, .dump 0 16, .powerWindow [] 0 0 0, .aclkDivChange 7, .tempUpdate [] 0,
   .tempUpdate (List.replicate 5 []) 0, .powerOnReset { boot := 4 }, .powerOnReset { slot := 16 }, .mainRailsGood { boot := 4 },
   .mainRailsGood { slot := 16 }, .scrubRead 6 {}, .pageRetire 6 0 0, .pageRetire 0 16777216 0, .hbmClassWrite 8 0, .hbmRegionWrite 8 0,
   .pcieLinkTraining 7 16, .pcieLinkTraining 64 3, .lowWordRead (.reg 64 0 4), .lowWordRead (.reg 0 0xFFFFFD 4), .lowWordRead (.reg 1 0x3FFD 4),
   .lowWordRead (.reg 0 0 0), .lowWordRead (.reg 0 0 9), .lowWordRead (.wake 64 0 4), .lowWordRead (.wake 0 0xFFD 4),
   .lowWordRead (.face 1 true .cycle []), .lowWordRead (.face 0 false (.prog 8) []), .lowWordRead (.face 48 false .tiles []),
   .configRequest (.bar4Size 7)]

theorem test_ill_formed_refused : ∀ c ∈ badCommands, c.wf = false := by decide +kernel

theorem test_ill_formed_faults : exec (.scEnable 1024 0) State.reset = .fault .noSuchUnit := rfl

/-! ## The queue, reset, shared operations -/

theorem witness_FrontCommandRuns : ({ pending := [.alive, .rejoin] } : State).pending = Instr.alive :: [.rejoin] := rfl

theorem witness_EmptyQueueTicks :
    let s := State.reset
    s.pending = [] ∧ s.dev.clk.power ≠ .off ∧ fbit s.dev oHyTime fHyTimeAligned = false ∧ s.dev.align.slew = 0 ∧ rget s.dev oTimeTrim = 0 := by
  decide +kernel

theorem witness_WellFormedCommandsAnswer : (Instr.scEnable 1023 0).wf = true ∧ (Instr.scEnable 1024 0).wf = false := by decide

theorem witness_StepKeepsCanonical :
    let s : State := { dev := bytesIn (rowAddr 0 0) [1, 2] own, pending := [.freeze true] }
    Canonical s.dev ∧ ∃ t, step s = .next t := by
  refine ⟨?_, _, rfl⟩
  unfold Canonical
  try dsimp only
  repeat' apply And.intro
  all_goals decide +kernel

theorem witness_QueueOkNeverStops : QueueOk { pending := [.tileStart 191, .linkFail 47] } := by unfold QueueOk; decide

theorem witness_StoresReadBack :
    Canonical own ∧ oArrayMask 3 0 ≠ oBandOwner ∧ 0x6000000000 ≤ rowAddr 191 0x2FFFFE ∧
    (∀ k < 2, mapped (rowAddr 191 0x2FFFFE + k) = true) ∧ mapped (rowAddr 191 0x300000) = false := by
  unfold Canonical
  try dsimp only
  repeat' apply And.intro
  all_goals decide +kernel

theorem witness_HbmInterleaveIsInjective :
    (let d := regs [(oHbmRegion 0, 1 + 1 * 2)] {}
     regions d = [(6, 1)] ∧ (∀ r ∈ regions d, 6 * gib - 1 < r.1 * gib ∨ (r.1 + 6 * r.2) * gib ≤ 6 * gib - 1) ∧
     (∀ r ∈ regions d, 12 * gib < r.1 * gib ∨ (r.1 + 6 * r.2) * gib ≤ 12 * gib)) ∧
    PlainHbm own ∧ isHbm 0x5FFFFFFFFF = true ∧ isHbm 0 = true := by
  refine ⟨?_, plain_hbm own ?_ ?_, ?_⟩ <;> decide +kernel

/-- The worked example after R404: stack 1, stack offset 0x308B91890. -/
theorem test_interleave : hbmMap {} 0x1234567890 = (1, 0x308B91890) := by decide +kernel

/-- R402 and R403 agree on the set of offsets: the first byte of the third sixth of a region at 6 GiB with n = 1 lies in stack 2. -/
theorem test_region : hbmMap (regs [(oHbmRegion 0, 1 + 1 * 2)] {}) (8 * gib) = (2, gib) := by decide +kernel

theorem test_reset_division : rget State.reset.dev oAclkCtrl = 0x44 := by decide +kernel

theorem test_tick_advances_time : see (step State.reset) (fun d => (d.clk.time, d.clk.tick)) = some (40, 1) := by decide +kernel

/-! ## The work of commands -/

/-- A NOP of partition 3 on array 0. -/
def nopCmd : Cmd := cmd []

/-- WAIT_TALLY on tally 0 of array 0 for a target, with a timeout. -/
def waitCmd (target timeout : Nat) : Cmd := cmd [(0, 0x01), (7, target), (8, timeout)]

/-- A MATMUL of one tile on array 0: K = 32, one channel, ten positions in tiles of four, 8-bit signed operands and results, whose
requantisation words are at word 0 of the word store (R278, R318, R319). -/
def matCmd (real : Nat) : Cmd :=
  { cmd [(0, 0x10), (6, 0x30377), (7, 0x27000000), (8, 0x10000), (10, real), (11, 1536 * 8192), (12, 3072), (15, 3 * 2 ^ 20)] with
    prick := words [(0, 1), (1, 32), (2, 32), (3, 1), (8, 10), (9, 1), (11, 1)] }

theorem witness_SimpleCommandsEnd :
    (let d := withCmd nopCmd own
     Runs d 7 0x00 nopCmd ∧ nopCheck d nopCmd = none) ∧
    (let c := cmd [(7, 1)]
     Runs (withCmd c own) 7 0x00 c ∧ nopCheck (withCmd c own) c = some (refusedWith stMalformed)) ∧
    (let c := matCmd 0
     let d := withCmd c own
     Runs d 7 0x10 c ∧ NoErrors {} ∧ c.admitted = false ∧ matmulCheck d c = none ∧ mReal c = 0) ∧
    (let c := waitCmd 0 1
     let d := withCmd c own
     Runs d 7 0x01 c ∧ waitCheck d c = none ∧ firstBad d (wordAddr (wArray c) (4 * (65472 + wTally c))) 4 = none ∧
     heldArray d (wArray c) = false ∧
     serialGe (wWord d c) (wTarget c) = true) ∧
    (let c := waitCmd 1 1
     let d := withCmd c own
     Runs d 7 0x01 c ∧ waitCheck d c = none ∧ firstBad d (wordAddr (wArray c) (4 * (65472 + wTally c))) 4 = none ∧
     heldArray d (wArray c) = false ∧ serialGe (wWord d c) (wTarget c) = false ∧ wTimeout c ≠ 0) := by
  unfold Runs NoErrors NoWaits
  try dsimp only
  repeat' apply And.intro
  all_goals decide +kernel

/-- A target beyond 2^31 behind the tally is reached (R271). -/
theorem test_wait_tally_serial : see (exec (.waitTally 7 {}) (st (withCmd (waitCmd 0x80000001 0) own))) ended = some (some 0) := by decide +kernel

theorem test_nop_reserved_word : see (exec (.nop 7 {}) (st (withCmd (cmd [(7, 1)]) own))) ended = some (some 0x7F) := by decide +kernel

/-- FILL of a row of four s16 elements at row 2 of the row store of array 0 (R347, R348). -/
def fillCmd (v : Nat) : Cmd := cmd [(0, 0x2A), (8, 2 + 2 * 64 + 5 * 2 ^ 25), (9, 4 + 2 ^ 16), (13, v)]

/-- EW2 of s8 rows at rows 0, 1 and 2 of array 0. -/
def ew2Cmd (sub n : Nat) : Cmd :=
  let d (k : Nat) : Nat := 2 + k * 64 + 3 * 2 ^ 25
  cmd [(0, 0x20), (6, d 0), (7, d 1), (8, d 2), (9, n + 2 ^ 16), (10, sub * 2 ^ 24)]

/-- Row stores of array 0 with values in rows 0 and 1. -/
def ew2Dev : Device := bytesIn (rowAddr 0 512) [1, 0x81] (bytesIn (rowAddr 0 0) [0x7F, 0x80] own)

theorem witness_VectorCommandsComplete :
    let c := ew2Cmd 0 2
    let d := withCmd c ew2Dev
    (opOf c, Instr.ew2 7 {}) ∈ vectorRows 7 {} ∧ VectorRuns d 7 {} c ∧ vShares c = [(0, 0, 1)] := by
  unfold VectorRuns RequantTablesOk Runs NoErrors NoWaits Canonical
  try dsimp only
  repeat' apply And.intro
  all_goals decide +kernel

theorem witness_RefusalsAndDeadlines :
    (let c := cmd [(0, 0x2A), (6, 1)]
     let d := withCmd c own
     (opOf c, Instr.fill 7 {}) ∈ vectorRows 7 {} ∧ Runs d 7 (opOf c) c ∧ NoErrors {} ∧ vecHeld d c = false ∧
     vecCheck d c = some (refusedWith stMalformed)) ∧
    (let c := cmd [(0, 0x100)]
     let d := withCmd c (regs [(oEngCtrl 3, 1)] own)
     cmdOf d 7 = some c ∧ c.phase = .running ∧ opOf c = 0x00 ∧ c.stop = none ∧ fixedTime c = true ∧ nopCheck d c = none ∧
     fget d oAclkCtrl fAclkCtrlDiv ≤ c.div ∧ 12800 < ({ took := 12801 } : Circ).took) := by
  unfold Runs NoErrors NoWaits
  try dsimp only
  repeat' apply And.intro
  all_goals decide +kernel

/-- B + 2 µs after the start is in time, one cycle later is a miss of 1 µs (R331, R340). -/
theorem test_deadline :
    let d := withCmd (cmd [(0, 0x100)]) (regs [(oEngCtrl 3, 1)] own)
    see (exec (.nop 7 { took := 12800 }) (st d)) ended = some (some 0) ∧
    see (exec (.nop 7 { took := 12801 }) (st d)) (fun d => ((cmdOf d 7).map fun c => (c.done.status, c.done.detail), rget d (oDeadlineMisses 3))) =
      some (some (0x60, 1), 1) := by
  decide +kernel

theorem witness_VectorIntegerResults :
    (let c := fillCmd 0x8001
     let d := withCmd c own
     opOf c = 0x2A ∧ VectorRuns d 7 {} c ∧ vIsInt (vF c 2) = true ∧ vShares c = [(0, 0, 1)]) ∧
    (let c := ew2Cmd 0 2
     let d := withCmd c ew2Dev
     opOf c = 0x20 ∧ VectorRuns d 7 {} c ∧ vSub c = 0 ∧ vIsInt (vF c 0) = true ∧ vIsInt (vF c 1) = true ∧ vIsInt (vF c 2) = true ∧
     vShares c = [(0, 0, 1)]) := by
  unfold VectorRuns RequantTablesOk Runs NoErrors NoWaits Canonical
  try dsimp only
  repeat' apply And.intro
  all_goals decide +kernel

/-- 127 + 1 and -128 - 127 saturate to the s8 range (R355). -/
theorem test_ew2_saturates :
    see (exec (.ew2 7 {}) (st (withCmd (ew2Cmd 0 2) ew2Dev))) (fun d => (ended d, bytesAt d (rowAddr 0 1024) 2)) =
      some (some 0, [0x7F, 0x80]) := by decide +kernel

theorem test_fill : see (exec (.fill 7 {}) (st (withCmd (fillCmd 0x18001) own))) (fun d => bytesAt d (rowAddr 0 1024) 8) =
    some [0x01, 0x80, 0x01, 0x80, 0x01, 0x80, 0x01, 0x80] := by decide +kernel

/-- A vector command on FP32 rows: SRC0 at row 0, DST at row 2. -/
def f32Cmd (op sub cols p0 p1 : Nat) : Cmd :=
  cmd [(0, op), (6, 2), (8, 2 + 2 * 64), (9, cols + 2 ^ 16), (10, sub * 2 ^ 24), (13, p0), (14, p1)]

/-- A row of FP32 values: 1, -2, 3, 0.5. -/
def f32Row : Device :=
  bytesIn (rowAddr 0 0) (leBytes 4 0x3F800000 ++ leBytes 4 0xC0000000 ++ leBytes 4 0x40400000 ++ leBytes 4 0x3F000000) own

/-- REQUANT of two FP32 elements of row 0 to s8 in row 2, the table at word 0 of array 0 (R362). -/
def requantCmd : Cmd := cmd [(0, 0x29), (6, 2), (8, 2 + 2 * 64 + 3 * 2 ^ 25), (9, 2 + 2 ^ 16)]

theorem witness_RequantTablesOk :
    let c := requantCmd
    let d := withCmd c f32Row
    (opOf c, Instr.requant 7 {}) ∈ vectorRows 7 {} ∧ VectorRuns d 7 {} c := by
  unfold VectorRuns RequantTablesOk Runs NoErrors NoWaits Canonical
  try dsimp only
  repeat' apply And.intro
  all_goals decide +kernel

/-- A command of each row on array 0, its destination in s32 where the operation asks for it (R356). -/
def vectorCmds : List (Cmd × Instr) :=
  let s32 (c : Cmd) : Cmd := { c with words := c.words.set 8 (2 + 2 * 64 + 6 * 2 ^ 25) }
  [(ew2Cmd 0 2, .ew2 7 {}), (f32Cmd 0x21 0 4 0 0, .axpb 7 {}), (f32Cmd 0x22 0 4 0 0, .func 7 {}), (f32Cmd 0x23 0 4 0 0, .reduce 7 {}),
   (f32Cmd 0x24 0 4 0 0, .softmax 7 {}), (f32Cmd 0x25 0 4 0 0, .norm 7 {}), (f32Cmd 0x26 0 4 2 0, .pixnorm 7 {}),
   (f32Cmd 0x27 0 4 0 1, .pool 7 {}), (f32Cmd 0x28 0 4 (1 + 4 * 2 ^ 16) 1, .resize 7 {}), (requantCmd, .requant 7 {}),
   (fillCmd 1, .fill 7 {}), (s32 (f32Cmd 0x2B 0 4 1 0), .topk 7 {}), (s32 (f32Cmd 0x2C 0 8 0 1), .nms 7 {})]

theorem witness_VectorRows :
    vectorCmds.length = 13 ∧ (∀ x ∈ vectorCmds, (opOf x.1, x.2) ∈ vectorRows 7 {}) ∧ ∀ x ∈ vectorCmds, VectorRuns (withCmd x.1 f32Row) 7 {} x.1 := by
  refine ⟨by decide, by decide +kernel, ?_⟩
  simp only [vectorCmds, List.forall_mem_cons]
  unfold VectorRuns RequantTablesOk Runs NoErrors NoWaits Canonical
  try dsimp only
  repeat' apply And.intro
  all_goals first | decide +kernel | (intro x hx; cases hx)

/-- The FP32 words of the first elements of row 2. -/
def outWords (n : Nat) (d : Device) : List Nat := (List.range n).map fun k => leNat (bytesAt d (rowAddr 0 (1024 + 4 * k)) 4)

/-- x × 2 + 1 (R356): 3, -3, 7, 2. -/
theorem test_axpb : see (exec (.axpb 7 {}) (st (withCmd (f32Cmd 0x21 0 4 0x40000000 0x3F800000) f32Row))) (outWords 4) =
    some [0x40400000, 0xC0400000, 0x40E00000, 0x40000000] := by decide +kernel

/-- The sum of the row, 2.5 (R357). -/
theorem test_reduce : see (exec (.reduce 7 {}) (st (withCmd (f32Cmd 0x23 0 4 0 0) f32Row))) (fun d => (ended d, outWords 1 d)) =
    some (some 0, [0x40200000]) := by decide +kernel

/-- COPY of one run of 512 bytes from row 0 of array 0 to row 3 of array 1 (R323, R324). -/
def copyCmd : Cmd :=
  cmd [(0, 0x40), (6, rowAddr 0 0 % 2 ^ 32), (7, rowAddr 0 0 / 2 ^ 32), (8, rowAddr 1 1536 % 2 ^ 32), (9, rowAddr 1 1536 / 2 ^ 32), (10, 512), (11, 1)]

/-- Partition 3 owns every array and band and shares a domain with slots 0 (this device) and 1. -/
def domain : Device :=
  let own5 : Nat := 3 + 3 * 64 + 3 * 2 ^ 12 + 3 * 2 ^ 18 + 3 * 2 ^ 24
  fput (oPartCtrl 3) fPartCtrlDomainMembers 3 (regs ((List.range 6).map (fun k => (oArrayMask 3 k, 0xFFFFFFFF)) ++
    [(oBandOwner, own5), (oBandOwnerHi, own5), (oBandOwnerTop, 3 + 3 * 64)]) {})

/-- The run of copyCmd to HBM of the device in slot 1. -/
def farCopy : Cmd := { copyCmd with words := (copyCmd.words.set 8 0).set 9 0x80080000 }

theorem witness_LocalCopyMovesBytes :
    let c := copyCmd
    let d := withCmd c ew2Dev
    CopyRuns d 7 {} c ∧ tSrcDev d c = none ∧ tDstDev d c = none ∧ (∀ r < tCount c, isHbm (dstAt (withList d c) r).toNat = false) ∧
    tCount (withList d c) = 1 ∧ tTally c = none := by
  unfold CopyRuns Runs NoErrors NoWaits Canonical
  try dsimp only
  repeat' apply And.intro
  all_goals decide +kernel

/-- Two runs that do not meet, each to its own row, and one run to HBM of the device in slot 1 of the domain. -/
theorem witness_LocalCopyMovesBytes_more :
    (let c := { copyCmd with words := ((copyCmd.words.set 11 2).set 13 1024).set 14 1024 }
     let d := withCmd c ew2Dev
     CopyRuns d 7 {} c ∧ tSrcDev d c = none ∧ tDstDev d c = none ∧ (∀ r < tCount c, isHbm (dstAt (withList d c) r).toNat = false) ∧
     tCount (withList d c) = 2) ∧
    (let c := farCopy
     let d := withCmd c domain
     CopyRuns d 7 {} c ∧ tSrcDev d c = none ∧ (tDstDev d c).isSome = true ∧ tNarrow c = 0) := by
  unfold CopyRuns Runs NoErrors NoWaits Canonical
  try dsimp only
  repeat' apply And.intro
  all_goals decide +kernel

theorem test_copy : see (exec (.copy 7 {}) (st (withCmd copyCmd ew2Dev))) (fun d => (ended d, bytesAt d (rowAddr 1 1536) 3)) =
    some (some 0, [0x7F, 0x80, 0x00]) := by decide +kernel

/-- A run that is not a whole row is not aligned for a row store (R292): MALFORMED. -/
theorem test_copy_alignment :
    see (exec (.copy 7 {}) (st (withCmd { copyCmd with words := copyCmd.words.set 10 256 } ew2Dev))) ended = some (some 0x7F) := by decide +kernel

theorem witness_MatmulRunsToItsEnd :
    let c := matCmd 5
    let d := withCmd c own
    Runs d 7 0x10 c ∧ NoErrors {} ∧ c.part < 64 ∧ domainOf c = false ∧ c.member = none ∧ c.shared = [] ∧ (∀ a, heldArray d a = false) ∧
    matmulCheck d c = none ∧ stepFree d c = true ∧ fbit d oSmpCtrl fSmpCtrlSmpEn = false ∧ ∀ a, (arrOf d a).prog = none := by
  refine ⟨?_, ?_, ?_, ?_, ?_, ?_, fun _ => rfl, ?_, ?_, ?_, fun _ => rfl⟩ <;> (try unfold Runs) <;> (try unfold NoErrors) <;>
    (try unfold NoWaits) <;> decide +kernel

/-- A domain command whose own part has ended, while slot 1 still works on its part. -/
theorem witness_MatmulWaitsForMembers :
    let c := { cmd [(0, 0x1010)] with admitted := true, shared := [1] }
    let d := withCmd c domain
    Runs d 7 0x10 c ∧ NoErrors {} ∧ ({} : Circ).unreach = [] ∧ c.admitted = true ∧ c.member = none ∧ ownOver d c = true := by
  unfold Runs NoErrors NoWaits
  try dsimp only
  repeat' apply And.intro
  all_goals decide +kernel

/-- With OUT_ZP 5 and activations of 0, the five real positions become 5 and the masked ones keep what they held (R134, R281, R304). -/
theorem test_matmul_masks :
    see (exec (.matmul 7 {}) (st (withCmd (matCmd 5) (bytesIn (wordAddr 0 0) ((List.replicate 12 0) ++ [0, 0, 5, 0]) own))))
      (fun d => (ended d, bytesAt d (rowAddr 0 (3072 * 512)) 8)) = some (some 0, [5, 5, 5, 5, 5, 0, 0, 0]) := by decide +kernel

/-- ACC_SAVE and ACC_LOAD of array 0: image at row 8, record at word 16 (R187). -/
def accCmd (op : Nat) : Cmd := cmd [(0, op), (6, 8), (7, 16)]

/-- An array with an entry and a kept accumulation. -/
def accDev : Device := { own with arrs := [(0, { active := { ent := [(3, -2)] } })] }

theorem witness_AccumulatorImages :
    (let c := accCmd 0x11
     let d := withCmd c accDev
     Runs d 7 0x11 c ∧ NoErrors {} ∧ Canonical d ∧ d.merr.parity = [] ∧ d.merr.poison = [] ∧ accCheck d c = none ∧
     heldArray d (motifArrays (targetOf c)).1 = false) ∧
    (let c := accCmd 0x12
     let d := withCmd c (bytesIn (rowAddr 0 4108) [0, 0, 0x40, 0] own)
     Runs d 7 0x12 c ∧ NoErrors {} ∧ Canonical d ∧ d.merr.parity = [] ∧ d.merr.poison = [] ∧ accCheck d c = none ∧
     heldArray d (motifArrays (targetOf c)).1 = false ∧
     keptReserved (fun k => wsWord d (motifArrays (targetOf c)).1 (accSt c + k)) = false) := by
  unfold Runs NoErrors NoWaits Canonical
  try dsimp only
  repeat' apply And.intro
  all_goals decide +kernel

/-- A collective on the domain, its DESC sent to slot 1: SRC row 0 of array 0, DST row 4. -/
def collCmd (op n root : Nat) : Cmd :=
  { cmd ([(0, 0x80001000 + op), (11, 9 + root * 2 ^ 16), (12, 1)] ++ if op = 0x4A then [] else
      [(6, rowAddr 0 0 % 2 ^ 32), (7, rowAddr 0 0 / 2 ^ 32), (8, rowAddr 0 2048 % 2 ^ 32), (9, rowAddr 0 2048 / 2 ^ 32), (10, n)]) with
    descTo := [1] }

/-- The device, in slot 0 or 1, with that collective, the DESC of the other slot and n bytes that it has handed over. -/
def collAt (slot n : Nat) (c : Cmd) : Device :=
  let d := withCmd c (bytesIn (rowAddr 0 0) [1, 2, 3] { domain with straps := { slot := slot } })
  let y : Parcel := { src := 1 - slot, part := 3, seq := 0, id := 9, data := List.replicate n 0xA5 }
  { d with coll := { descs := [(1 - slot, descOf d c)], sent := [], inbox := if n = 0 then [] else [y] } }
def collDev (c : Cmd) : Device := collAt 0 0 c

theorem witness_CollectivesComplete :
    (let c := collCmd 0x4A 0 0
     CollectiveReady (collDev c) 7 {} c ∧ (opOf c, Instr.barrier 7 {}) ∈ [(0x48, Instr.chainReduce 7 {}), (0x49, .broadcast 7 {}), (0x4A, .barrier 7 {})]) ∧
    (let c := collCmd 0x49 512 0
     CollectiveReady (collDev c) 7 {} c ∧ opOf c = 0x49 ∧ cRoot c = ownSlot (collDev c) ∧ 0 < cBytes c ∧ cBytes c ≤ 65536 ∧
     isHbm (cDst c) = false) ∧
    (let c := collCmd 0x48 512 0
     let d := collDev c
     CollectiveReady d 7 {} c ∧ opOf c = 0x48 ∧ isLastMember d c = false ∧ cAll c = 0 ∧ collPlace d c = 0 ∧ cBytes c = 512) := by
  unfold CollectiveReady Runs NoErrors NoWaits Canonical
  try dsimp only
  repeat' apply And.intro
  all_goals decide +kernel

theorem witness_BroadcastStoresIncoming :
    (let c := collCmd 0x49 512 1
     let d := collAt 0 512 c
     CollectiveReady d 7 {} c ∧ opOf c = 0x49 ∧ writesDst d c = true ∧ cBytes c = 512 ∧ isHbm (cDst c) = false) ∧
    (let c := { collCmd 0x48 512 0 with descTo := [0] }
     let d := collAt 1 512 c
     CollectiveReady d 7 {} c ∧ opOf c = 0x48 ∧ writesDst d c = true ∧ isLastMember d c = true ∧ collPlace d c = 1) ∧
    (let c := { collCmd 0x48 512 0 with words := (collCmd 0x48 512 0).words.set 11 (9 + 2 ^ 20) }
     let d := collAt 0 512 c
     CollectiveReady d 7 {} c ∧ opOf c = 0x48 ∧ writesDst d c = true ∧ isLastMember d c = false ∧ cAll c = 1) := by
  unfold CollectiveReady Runs NoErrors NoWaits Canonical
  try dsimp only
  repeat' apply And.intro
  all_goals decide +kernel

theorem test_broadcast_root :
    see (exec (.broadcast 7 {}) (st (collDev (collCmd 0x49 32 0)))) ended = some (some 0x7F) ∧
    see (exec (.broadcast 7 {}) (st (collDev (collCmd 0x49 512 0))))
      (fun d => (ended d, d.links.map fun e => (e.1, e.2.waiting.map (·.dst)))) = some (some 0, [(0, [1])]) := by
  decide +kernel

/-- A member with another root in its DESC makes the collective MALFORMED (R444). -/
theorem test_desc_differs :
    let d := collDev (collCmd 0x4A 0 0)
    let x : Desc := { opcode := 0x4A, collId := 9, bytes := 0, fmt := 0, root := 0, all := 0, members := 5, cancel := false }
    see (exec (.barrier 7 {}) (st { d with coll := { descs := [(1, x)] } })) ended = some (some 0x7F) := by decide +kernel

theorem witness_DescriptorsAndTimeout :
    (let c := { collCmd 0x4A 0 0 with descTo := [] }
     let d := collDev c
     Runs d 7 (opOf c) c ∧ isColl (opOf c) = true ∧ cTimeout c ≠ 0 ∧ collCheck d c = none ∧ collReady d c = false) ∧
    (1 < 16 ∧ 1 ≠ ownSlot own ∧ runningColls own = []) := by
  unfold Runs
  try dsimp only
  repeat' apply And.intro
  all_goals decide +kernel

/-! ## Fetching, starting, completing -/

/-- Command 7, queued. -/
def queued (l : List (Nat × Nat)) : Cmd := { cmd l with phase := .queued }

/-- Partition 3 is enabled. -/
def enabled : Device := fput (oPartCtrl 3) fPartCtrlEnable 1 own

theorem witness_CommandStarts :
    (let c := queued [(0, 0x01)]
     let d := withCmd c enabled
     cmdOf d 7 = some c ∧ c.phase = .queued ∧ NoErrors {} ∧ opOf c ∈ [0x00, 0x01, 0x11, 0x12, 0x40] ∧ eventFailed d c = false ∧ canStart d c = true) ∧
    (let c := queued [(0, 0x2D)]
     let d := withCmd c enabled
     cmdOf d 7 = some c ∧ c.phase = .queued ∧ eventFailed d c = false ∧ canStart d c = true ∧ usesVector c = true ∧ isVec c = false) ∧
    (let c := queued [(0, 0x11)]
     let d := withCmd c enabled
     cmdOf d 7 = some c ∧ c.phase = .queued ∧ eventFailed d c = false ∧ canStart d c = true ∧ usesArrays c = true) ∧
    (let c := queued [(0, 0x40), (2, 2 ^ 22 + 33 * 2 ^ 16)]
     let d := withCmd c (regs [(oEventErr 3 1, 2)] own)
     cmdOf d 7 = some c ∧ c.phase = .queued ∧ opOf c ∈ [0x00, 0x01, 0x11, 0x12, 0x40] ∧ eventFailed d c = true) ∧
    (let c := queued [(0, 0x40), (2, 2 ^ 22 + 33 * 2 ^ 16), (4, 1)]
     let d := withCmd c enabled
     cmdOf d 7 = some c ∧ c.phase = .queued ∧ opOf c ∈ [0x00, 0x01, 0x11, 0x12, 0x40] ∧ eventFailed d c = false ∧ canStart d c = false) := by
  unfold NoErrors NoWaits
  decide +kernel

/-- A waiter whose event has failed completes as ABORTED without running (R328). -/
theorem test_start_after_error :
    see (exec (.commandStart 7 {}) (st (withCmd (queued [(2, 2 ^ 22 + 33 * 2 ^ 16)]) (regs [(oEventErr 3 1, 2)] own)))) ended = some (some 1) := by
  decide +kernel

/-- Command 7 with its work ended, its ring's completion ring 2 of four records enabled at host address 0x1000. -/
def doneCmd (sq : Nat) : Cmd := { cmd [(2, 0xBEEF)] with phase := .ended, done := { tilePos := 3, tileCh := 4, detail := 5 }, sq := sq }

def cqDev : Device := fput (oCqCtrl 3 2) fCqCtrlEnable 1 (fput (oCqCtrl 3 2) fCqCtrlLog2size 2 (regs [(oSqCtrl 3 1, 0), (oCqBaseLo 3 2, 0x1000)]
  (fput (oSqCtrl 3 1) fSqCtrlCq 2 own)))

/-- The completion ring that ring 1 names. -/
def cqDone : Device := withCmd (doneCmd 1) (fput (oSqCtrl 3 1) fSqCtrlCq 2 cqDev)

theorem witness_CompletionRecordWritten :
    let c := doneCmd 1
    let d := cqDone
    (cmdOf d 7 = some c ∧ c.phase = .ended ∧ c.dumpIn = [] ∧ c.dumpOut = [] ∧ turnToEnd d c = true ∧ Canonical d ∧ c.member = none ∧
     irqOf c = false ∧ (reported (partOf d c.part) c.done).status = 0) ∧
    (let q := ringCq d c.part c.sq
     cqOpen d c.part q = true ∧ (∀ h ∈ (partOf d c.part).held, h.1 ≠ q) ∧ (cqOf (partOf d c.part) q).irqPending = false) ∧
    (let d := withCmd c own
     cmdOf d 7 = some c ∧ turnToEnd d c = true ∧ Canonical d ∧ cqEn d c.part (ringCq d c.part c.sq) = false ∧
     (partOf d c.part).held.length < 256 ∧ ∀ h ∈ (partOf d c.part).held, h.1 ≠ ringCq d c.part c.sq) ∧
    (let x := { c with words := words [(0, 0x10)] }
     let d := { own with cmds := [{ x with id := 6, phase := .running }, x] }
     cmdOf d 7 = some x ∧ x.phase = .ended ∧ Canonical d ∧ turnToEnd d x = false) ∧
    (let x := { c with member := some (1, 4) }
     let d := withCmd x domain
     cmdOf d 7 = some x ∧ x.phase = .ended ∧ Canonical d ∧ x.member = some (1, 4)) := by
  unfold Canonical
  try dsimp only
  repeat' apply And.intro
  all_goals decide +kernel

/-- The record of a NOP with SEQ 0xBEEF: words 1 to 3, then word 0 with PHASE 1 (R382, R383). -/
theorem test_completion_record : see (exec (.completionWrite 7) (st cqDone)) (fun d => d.out) = some
    [.hostWrite 0x1004 [3, 0, 0, 0, 4, 0, 0, 1, 5, 0, 2, 0], .hostWrite 0x1000 [0, 0x80, 0xEF, 0xBE]] := by decide +kernel

theorem witness_OrderEventSignalled :
    (let c := { cmd [(2, 2 ^ 29 + 63 * 2 ^ 23)] with done := { status := 0x60 } }
     Canonical own ∧ sigEnOf c = true ∧ (c.done.status = 0x00 ∨ c.done.status = 0x60)) ∧
    (let c := { cmd [(2, 2 ^ 29 + 63 * 2 ^ 23)] with done := { status := 0x01 } }
     Canonical own ∧ sigEnOf c = true ∧ c.done.status ≠ 0x00 ∧ c.done.status ≠ 0x60) := by
  unfold Canonical
  try dsimp only
  repeat' apply And.intro
  all_goals decide +kernel

/-- The count wraps modulo 2^32, and a failure sets ERR of event 63 (R329). -/
theorem test_signal :
    let c (x : Nat) : Cmd := { cmd [(2, 2 ^ 29 + 63 * 2 ^ 23)] with done := { status := x } }
    rget (signalEvent (c 0) (regs [(oEvent 3 63, 0xFFFFFFFF)] own)) (oEvent 3 63) = 0 ∧
    rget (signalEvent (c 0x21) own) (oEventErr 3 1) = 0x80000000 := by decide +kernel

/-- Completion ring 2 of partition 3 with a pending interrupt, and a merged event. -/
def irqDev (n : Nat) : Device :=
  let q : CqRt := { written := 1, since := 1, irqPending := true }
  let e : EvRec := { code := 0x11, count := n, source := 5 }
  fput (oCqCoal 3 2) fCqCoalCoalTime 1 (setPart 3 { cqs := [(2, q)], evOpen := [e] } cqDev)

theorem witness_InterruptsAndMergedEvents :
    (let d := irqDev 0
     3 < 64 ∧ 2 < 16 ∧ (cqOf (partOf d 3) 2).irqPending = true ∧ fget d (oCqCoal 3 2) fCqCoalCoalTime ≠ 0 ∧ role d ≠ roleFenced) ∧
    (4 < msixSize own 3 ∧ bit 0 (rget (regs [(msixMask 3 4, 0)] own) (msixMask 3 4)).toNat = false ∧
     bit 0 (rget own (msixMask 3 4)).toNat = true ∧ Canonical own ∧ msixSize own 3 ≤ 32) ∧
    (63 < 64 ∧ (0 : Nat) = 0 ∧ (4 : Nat) ≠ 0) ∧
    ((partOf (irqDev 0) 3).evOpen.find? (fun e => decide (e.code = 0x11) && decide (e.source = 5))).map (·.count) = some 0 ∧
    ((partOf (irqDev 2) 3).evOpen.find? (fun e => decide (e.code = 0x11) && decide (e.source = 5))).map (·.count) = some 2 := by
  unfold Canonical
  try dsimp only
  repeat' apply And.intro
  all_goals decide +kernel

/-- Rings 1 and 0 of partition 3, of 2^4 entries, HEAD 15 in pass 2, with one entry of ring 1 announced. -/
def sqDev (n : Nat) : Device :=
  let d := fput (oPartCtrl 3) fPartCtrlEnable 1 (fput (oSqCtrl 3 1) fSqCtrlEnable 1 (fput (oSqCtrl 3 1) fSqCtrlLog2size 4 own))
  let d := fput (oSqState 3 1) fSqStateHead 15 (fput (oSqState 3 1) fSqStateExpGen 2 d)
  setPart 3 { rings := [(1, { announced := n })] } d

theorem witness_DoorbellAnnouncesEntries :
    let d := sqDev 0
    let ok (i : Nat) (w : DWord) : Bool :=
      let ws : List DWord := (List.range 8).map fun j => if j = i then w else 0
      decide (ws.length = 8) && ringsServed d 3 && sqEn d 3 i && !sqLegacy d 3 i && !bit 32 (ws.getD i 0).toNat &&
      (List.range 16).all (fun j => decide (j = i) || !sqEn d 3 j) && (List.range 16).all (fun j => !cqEn d 3 j) &&
      !fbit d (oEqCtrl 3) fEqCtrlEnable && decide ((partOf d 3).held = []) && decide ((partOf d 3).evHeld = [])
    Canonical d ∧ ok 1 (15 + 3 * 2 ^ 16) = true ∧ ok 1 (0 + 4 * 2 ^ 16) = true ∧ ok 1 (14 + 2 * 2 ^ 16) = true := by
  unfold Canonical
  try dsimp only
  repeat' apply And.intro
  all_goals decide +kernel

/-- The announced count of ring 1 after a poll of block 0. -/
def polled (w : DWord) : Option Nat :=
  see (exec (.doorbellPoll 3 0 [0, w, 0, 0, 0, 0, 0, 0]) (st (sqDev 0))) fun d => (ringOf (partOf d 3) 1).announced

/-- HEAD 15 in pass 2 of 16 entries: TAIL 15 in pass 3 is a full ring, TAIL 0 in pass 4 is 17 ahead and TAIL 14 in pass 2 is 1 behind, both invalid
(R378). -/
theorem test_pending_count : polled (15 + 3 * 2 ^ 16) = some 16 ∧ polled (0 + 4 * 2 ^ 16) = some 0 ∧ polled (14 + 2 * 2 ^ 16) = some 0 := by
  decide +kernel

/-- A list entry of one 64-byte slot in pass g, and an abort entry (R376). -/
def listEntry (g : Nat) : List Word := [0x40, 0, 1, BitVec.ofNat 32 g, 0, 0, 0, 0]
def abortEntryOf (g : Nat) : List Word := [0, 0, 2 ^ 17 + 2 ^ 18, BitVec.ofNat 32 g, 0, 0, 0, 0]

/-- Two NOPs being read, the first one next. -/
def readDev : Device :=
  setPart 3 { rings := [(1, { announced := 1, reading := some { slot := 15, words := words [] ++ words [(2, 1)], broken := false, seq := 0 } })] }
    (sqDev 1)

theorem witness_ListsAreFetched :
    (3 < 64 ∧ 1 < 16 ∧ (listEntry 2).length = 8 ∧ Canonical (sqDev 1) ∧ NoErrors {} ∧ entryTurn (sqDev 1) 3 1 = true ∧ entryTurn (sqDev 0) 3 1 = false ∧
     sqLegacy (sqDev 1) 3 1 = false ∧ entryValid (sqDev 1) 3 1 (listEntry 2) = true ∧ isListEntry false (listEntry 2) = true ∧
     (entryList (sqDev 1) (listEntry 2) (words []) 1).1 ≠ []) ∧
    (entryValid (sqDev 1) 3 1 [0, 0, 0, 2, 0, 0, 0, 0] = true ∧ isListEntry false [0, 0, 0, 2, 0, 0, 0, 0] = false ∧
     isAbortEntry false [0, 0, 0, 2, 0, 0, 0, 0] = false ∧ cqRoom (sqDev 1) 3 (ringCq (sqDev 1) 3 1) = true) ∧
    entryValid (sqDev 1) 3 1 (listEntry 3) = false ∧
    (match (ringOf (partOf readDev 3) 1).reading with
     | none => false
     | some l =>
       match nextCommand (sqLegacy readDev 3 1) (rget readDev (oSqCtrl 3 1)).toNat l with
       | none => false
       | some (ws, bad, rest) =>
         dispatchOk readDev 3 && decide (readDev.clk.power = .run) && decide (rest ≠ []) &&
         decide (queueOf (listCmd readDev 3 1 l ws bad) = some .matrix) &&
         decide ((readDev.cmds.filter fun x => sameQueue x (listCmd readDev 3 1 l ws bad)).length < 64)) = true ∧
    queueOf (listCmd readDev 3 1 { slot := 15, words := words [(0, 0x7E)], broken := false, seq := 0 } (words [(0, 0x7E)]) false) = none := by
  unfold Canonical NoErrors NoWaits
  try dsimp only
  repeat' apply And.intro
  all_goals decide +kernel

/-- An entry of a wrong generation is counted and not taken (R379). -/
theorem test_stale_entry :
    see (exec (.entryConsume 3 1 (listEntry 3) (words []) 1 {}) (st (sqDev 1))) (fun d => (rget d (oStaleEntries 3), headOf d 3 1)) =
      some (1, 15) := by decide +kernel

/-- The abort entry of the ring's last slot: HEAD wraps to 0 and the pass advances (R380, R386). -/
theorem test_abort_entry :
    see (exec (.abortEntry 3 1 (abortEntryOf 2)) (st (sqDev 1))) (fun d => ((partOf d 3).abort, headOf d 3 1, expGen d 3 1)) =
      some (.requested 1 15, 0, 3) := by decide +kernel

/-- A partition whose abort has been requested, or has taken effect, with a queued command of its own or of another partition. -/
def abortDev (a : AbortSt) (p : Nat) : Device := withCmd { queued [] with part := p } (setPart 3 { abort := a } own)

theorem witness_AbortsTakeEffect :
    (Canonical (sqDev 1) ∧ entryTurn (sqDev 1) 3 1 = true ∧ isAbortEntry (sqLegacy (sqDev 1) 3 1) (abortEntryOf 2) = true ∧
     entryValid (sqDev 1) 3 1 (abortEntryOf 2) = true ∧ (partOf (sqDev 1) 3).abort = .none) ∧
    (let d := abortDev (.effective 1 15) 2
     (partOf d 3).abort = .effective 1 15 ∧ (∀ c ∈ d.cmds, c.part ≠ 3) ∧ cqRoom d 3 (ringCq d 3 1) = true) ∧
    (∃ c ∈ (abortDev (.effective 1 15) 3).cmds, c.part = 3) ∧
    (let d := abortDev (.requested 1 15) 3
     Canonical d ∧ NoErrors {} ∧ (partOf d 3).abort = .requested 1 15 ∧ (∀ r < 16, (ringOf (partOf d 3) r).reading = none) ∧
     (d.cmds.map (·.id)).Nodup ∧ ∀ c ∈ d.cmds, c.part = 3 → c.phase = .running → 0x02 ≤ opOf c → c.runs = [] ∧ c.shared = []) := by
  unfold Canonical NoErrors NoWaits
  try dsimp only
  repeat' apply And.intro
  all_goals decide +kernel

/-! ## Partitions, resets and the host -/

theorem witness_PartitionResetRestores :
    3 < 64 ∧ Canonical (bytesIn (rowAddr 0 0x2FFFFF) [1] own) ∧ inMask (bytesIn (rowAddr 0 0x2FFFFF) [1] own) 3 0 = true := by
  unfold Canonical
  try dsimp only
  repeat' apply And.intro
  all_goals decide +kernel

theorem test_part_reset : see (exec (.partReset 3) (st (bytesIn (rowAddr 0 0x2FFFFF) [1] (regs [(oEvent 3 63, 5)] own))))
    (fun d => (byteAt d (rowAddr 0 0x2FFFFF), rget d (oEvent 3 63), inMask d 3 0)) = some (0, 0, true) := by decide +kernel

/-- The window stands at the scratch aperture. -/
def winDev : Device := regs [(oWinBase 0, rowAddr 0 0 / 2 ^ 30)] own

theorem witness_Bar4ReachesMemory :
    (let l (d : Device) (off : Nat) : Nat := fget d (oWinBase 0) fWinBaseBase * 2 ^ 30 + off
     Canonical own ∧ own.clk.power = .run ∧ own.merr.parity = [] ∧ own.merr.poison = [] ∧ NoErrors {} ∧
     heldRange own (l own 0xFFFFFFFFE) 2 = false ∧ rangeMapped (l own 0xFFFFFFFFE) 2 = true ∧ inBar4 own 0xFFFFFFFFE 2 = true ∧
     inBar4 own 0xFFFFFFFFE 3 = false ∧ rangeMapped (l own 0x5FFFFFFFFE) 3 = false ∧
     heldRange winDev (l winDev 0) 1 = false ∧ rangeMapped (l winDev 0) 1 = true ∧ inBar4 winDev 0 1 = true ∧ isHbm (l winDev 0) = false) ∧
    (let d := setPart 3 { clrArrays := [0] } winDev
     Canonical d ∧ d.clk.power = .run ∧ bar4Held (.read 0 4) d = true) := by
  unfold Canonical
  try dsimp only
  repeat' apply And.intro
  all_goals decide +kernel

theorem test_bar4_write_read :
    see (exec (.bar4Access (.write (rowAddr 0 3 % 2 ^ 30) [1, 2]) {}) (st winDev)) (fun d => bytesAt d (rowAddr 0 2) 4) = some [0, 1, 2, 0] ∧
    see (exec (.bar4Access (.read 0xFFFFFFFFF 2) {}) (st own)) (·.out) = some [.unsupported] := by decide +kernel

/-- An access to a store that is being cleared waits, and is served when the clearing ends (R254). -/
theorem test_bar4_held :
    let d := setPart 3 { clrArrays := [0] } winDev
    see (exec (.bar4Access (.write (rowAddr 0 3 % 2 ^ 30) [1]) {}) (st d)) (fun d => (byteAt d (rowAddr 0 3), byteAt (storeClearDone 3 d) (rowAddr 0 3))) =
      some (0, 1) := by decide +kernel

theorem witness_HostSetsUpDevice :
    (own.pcie.held = false ∧ own.clk.power = .run) ∧ ({ own with clk := { own.clk with power := .waking } } : Device).pcie.held = false ∧
    ({ own with pcie := { held := true } } : Device).pcie.held = true ∧ (∀ k, (.bar4Size 6 : CfgReq) = .bar4Size k → k ≤ 6) ∧
    (16 ∈ [2, 5, 8, 16, 32, 64] ∧ 16 ∈ [1, 2, 4, 8, 16] ∧ 8 < 16) ∧ (8 ∈ [2, 5, 8, 16, 32, 64] ∧ (8 ≤ 8 ∨ 16 < 16)) ∧
    fbit own oDeviceId fDeviceIdDomainSet = false ∧ Canonical own ∧ fbit (fput oDeviceId fDeviceIdDomainSet 1 own) oDeviceId fDeviceIdDomainSet = true := by
  unfold Canonical
  try dsimp only
  repeat' apply And.intro
  all_goals first | (intro k hk; cases hk; decide) | decide +kernel

theorem test_domain_write : see (exec (.domainWrite 0xABCD) (st own)) (fun d => (fget d oDeviceId fDeviceIdDomain, fbit d oDeviceId fDeviceIdDomainSet)) =
    some (0xBC, true) := by decide +kernel

/-- Partition 2 enabled with array 15. -/
def overlapDev : Device := fput (oPartCtrl 2) fPartCtrlEnable 1 (regs [(oArrayMask 2 0, 0x8000)] own)

theorem witness_PartitionEnableRules :
    (partEn overlapDev 3 = false ∧ overlaps overlapDev 3 = true) ∧
    (partEn own 3 = false ∧ overlaps own 3 = false ∧ holdsRetired own 3 = false ∧ clearingFor own 3 = false) ∧
    (let d := setPart 9 { clrArrays := [0] } own
     partEn d 3 = false ∧ overlaps d 3 = false ∧ holdsRetired d 3 = false ∧ clearingFor d 3 = true) ∧
    (partEn (sqDev 0) 3 = true ∧ partBusy (withCmd nopCmd (sqDev 0)) 3 = true ∧ partEn (withCmd nopCmd (sqDev 0)) 3 = true ∧
     partBusy (sqDev 0) 3 = false) := by
  decide +kernel

theorem test_overlap : see (exec (.partitionEnable 3) (st overlapDev)) (fun d => (fget d (oPartCtrl 3) fPartCtrlOverlapErr, partEn d 3)) =
    some (1, false) := by decide +kernel

theorem witness_DisableClearsStores :
    (let d := setPart 3 { disabling := true } (bytesIn (rowAddr 15 0x2FFFFF) [1] (sqDev 0))
     3 < 64 ∧ Canonical d ∧ (partOf d 3).disabling = true ∧ partBusy d 3 = false ∧ inMask d 3 15 = true) ∧
    (let d := setPart 3 { clrArrays := [15] } own
     Canonical d ∧ d.waiting = [] ∧ ∀ o < 64, (partOf d o).enabling = false) ∧
    (let d : Device := { setPart 3 { clrArrays := [15] } own with waiting := [.bar4 (.read 0 4) {}] }
     Canonical d ∧ d.waiting = [.bar4 (.read 0 4) {}] ∧ NoErrors {} ∧ ∀ o < 64, (partOf d o).enabling = false) ∧
    (let d := setPart 3 { clrArrays := [15], enabling := true } own
     Canonical d ∧ d.waiting = [] ∧ ∀ o < 64, (partOf d o).enabling = decide (o = 3)) ∧
    (partOf own 3).disabling = false := by
  unfold Canonical
  try dsimp only
  repeat' apply And.intro
  all_goals decide +kernel

theorem witness_RegisterAccess :
    own.clk.power = .run ∧ (1 < 2 ∧ rget own (oEncScale 1) ≠ 0x12345) ∧ oSleepTimer < 0x1000000 ∧ tabGet 0 oTimeLo own.frz.high = 0 ∧
    (7 < 2 ^ 32 ∧ tabGet 0 oTimeHi ({ own with frz := { high := tabSet 0 oTimeHi 8 [] } } : Device).frz.high = 7 + 1) ∧
    (0 < 63 ∧ 63 < 64 ∧ 0x480 ≤ 0xFFF ∧ 0xFFF < 0x1000) ∧ (1 ≤ 8 ∧ 0xFF8 + 8 ≤ 0x1000) ∧ (∀ n, FaceCtr.prog 5 = .prog n → n < 6) := by
  refine ⟨?_, ?_, ?_, ?_, ?_, ?_, ?_, ?_⟩
  all_goals first | (intro n hn; cases hn; decide) | decide +kernel

/-- A read of TIME_LO gives the low word and keeps the high one for TIME_HI (R523). -/
theorem test_read_time :
    let d : Device := { own with clk := { time := 0x500000007 } }
    (see (exec (.lowWordRead (.reg 0 oTimeLo 4)) (st d)) (·.out)) = some [.regData [7, 0, 0, 0]] ∧
    (see (exec (.lowWordRead (.reg 0 oTimeLo 4)) (st d)) fun d => see (exec (.lowWordRead (.reg 0 oTimeHi 4)) (st { d with clk := {} })) (·.out)) =
      some (some [.regData [7, 0, 0, 0], .regData [5, 0, 0, 0]]) := by decide +kernel

/-- The face of quad 2 of band 1 sums the tiles of its arrays 24 to 27, the sum of counts beside them left out (R21). -/
theorem test_quad_face :
    let d : Device := { own with tiles := [(23, 100), (24, 1), (27, 2), (28, 50)] }
    see (exec (.lowWordRead (.face (0x2000 + 16 + 8) false .tiles [])) (st d)) (·.out) = some [.count 3] := by decide +kernel

/-- A change of ENC_SCALE is journalled; bytes that do not cover the register change nothing (R12, R604). -/
theorem test_register_write :
    see (exec (.registerWrite 0 (oEncScale 1) ((leBytes 4 0x12345).map some)) (st own)) (fun d => (rget d (oEncScale 1), d.jnl.queue.length)) =
      some (0x12345, 1) ∧
    see (exec (.registerWrite 0 (oEncScale 1) [some 1, some 2]) (st own)) (fun d => rget d (oEncScale 1)) = some (rget own (oEncScale 1)) := by
  decide +kernel

/-! ## Scale channels and arrays -/

theorem witness_ScaleChannelInitialised :
    1023 < 1024 ∧ Canonical own ∧ bit 0 (7 : Word).toNat = true ∧ bits 2 1 (7 : Word).toNat = 3 ∧ fbit own (oScCtrl 1023) fScCtrlEnable = false ∧
    bit 0 (6 : Word).toNat = false := by
  unfold Canonical
  try dsimp only
  repeat' apply And.intro
  all_goals decide +kernel

theorem test_sc_enable :
    see (exec (.scEnable 1023 1) (st (regs [(oScInit 1023, 0x3C00), (oScClipped 1023, 9)] {})))
      (fun d => ((List.range 16).all fun k => decide (scHist d 1023 k = 0x3C00), rget d (oScClipped 1023))) = some (true, 0) := by decide +kernel

/-- A die whose four spares have failed. -/
def noSpares : Device := regs ((List.range 4).map fun n => (oSpareMap 3 n, 0x40)) own

theorem witness_SparesTakeOver :
    ((arrOf own 191).failing = false ∧ avail own 191 = true ∧ (arrOf own 191).prog = none ∧ freeSpare own (dieOf 191) = some 0 ∧
     arrayHeld own 191 = false) ∧
    (let d := { setArr 191 { failing := true } own with subst := [191] }
     (arrOf d 191).failing = true ∧ substNow d (dieOf 191) = some 191 ∧ d.waiting = [] ∧ freeSpare d (dieOf 191) = some 0) ∧
    (let d := spareMapIn 191 0 own
     Canonical d ∧ spareOf d 191 = some 0 ∧ (1 : Nat) ≠ 0) ∧
    ((arrOf noSpares 191).failing = false ∧ avail noSpares 191 = true ∧ (arrOf noSpares 191).prog = none ∧ arrayHeld noSpares 191 = false ∧
     freeSpare noSpares (dieOf 191) = none ∧ substNow noSpares (dieOf 191) = none) ∧
    (Canonical own ∧ bit 2 (fget own (oCpStatus 4) fCpStatusActive) = true ∧ bit 3 (fget own (oCpStatus 4) fCpStatusActive) = false ∧
     fbit own (oCpStatus 4) fCpStatusSpareUsed = false) := by
  unfold Canonical
  try dsimp only
  repeat' apply And.intro
  all_goals decide +kernel

theorem test_spare_mapped :
    see (exec (.spareMapped 191) (st { setArr 191 { failing := true } own with subst := [190, 191] })) (fun d => rget d (oSpareMap 3 0)) = some 0 ∧
    see (exec (.spareMapped 191) (st { setArr 191 { failing := true } own with subst := [191] })) (fun d => (rget d (oSpareMap 3 0), avail d 191)) =
      some (47 + 0x80, true) := by decide +kernel

theorem test_array_retired :
    see (exec (.arrayFault 191 .columnTree 0) (st noSpares)) (fun d => (avail d 191, avail d 190)) = some (false, true) := by decide +kernel

theorem test_processor_fault : see (exec (.processorFault 4 2) (st own)) (fun d => fget d (oCpStatus 4) fCpStatusActive) = some 0xB := by decide +kernel

/-- A MATMUL of five passes on array 0, admitted, at work as `p` says. -/
def jobCmd : Cmd :=
  { matCmd 10 with prick := words [(0, 1), (1, 2560), (2, 2560), (3, 1), (8, 10), (9, 1), (11, 1)], admitted := true }
def jobDev (p : Prog) : Device := setArr 0 { prog := some p } (withCmd jobCmd own)
def fivePasses : List Pass := (List.range 5).map (planPass jobCmd)

/-- A condition on what array 0 works at. -/
def job (p : Prog) (f : Device → Cmd → List Share → Share → Prog → Bool) : Bool :=
  match jobAt (jobDev p) 0 with
  | some (c, ss, sh, q) => f (jobDev p) c ss sh q
  | none => false

theorem witness_ArraySteps :
    (∀ p : Prog, ∀ x ∈ (jobDev p).cmds, opOf x = 0x10 → x.admitted = true) ∧
    job { id := 7, group := 0, passes := [], closed := true } (fun _ c _ sh p => p.closed && decide (p.next < groupsOf c sh)) = true ∧
    job { id := 7, group := 0, passes := fivePasses, pass := 3, seg := 3 } (fun d c _ sh p =>
      !p.closed && decide (p.seg < interval c) &&
      match p.passes[p.pass]? with
      | none => false
      | some q => decide (feedFaults d c 0 sh p.group p.snap q = []) &&
        match p.passes[p.pass + 1]? with
        | none => false
        | some r => decide ((loadOf d c 0 sh p.group p.snap r).2.2 = [])) = true ∧
    job { id := 7, group := 0, passes := fivePasses, pass := 4, seg := 4 } (fun _ c _ _ p => segmentEnds c p) = true ∧
    job { id := 7, group := 0, passes := fivePasses, pass := 5, seg := 1 } (fun _ c _ _ p => segmentEnds c p) = true ∧
    job { id := 7, group := 0, passes := fivePasses, pass := 4,
          drain := some { group := 0, fin := false, mask := 0, tags := [], snap := {}, fetch := 0, div := 4 } } (fun d _ _ _ p =>
      match p.drain with | some dr => !dr.fin && decide (d.merr.parity = []) | none => false) = true := by
  refine ⟨fun p x hx _ => ?_, ?_, ?_, ?_, ?_, ?_⟩
  · have : x = jobCmd := by simpa [jobDev, withCmd, setArr] using hx
    rw [this]; rfl
  all_goals decide +kernel

/-- Four passes fill a segment of 8-bit activations; the fifth alone is the group's last (R157, R80). -/
theorem test_segment_swap :
    see (exec (.segmentSwap 0) (st (jobDev { id := 7, group := 0, passes := fivePasses, pass := 4, seg := 4, mask := 5 })))
      (fun d => ((arrOf d 0).prog.map fun p => (p.mask, p.closed, p.segs))) = some (some (6, false, 1)) := by decide +kernel

/-- A MATMUL divided along K over the four arrays of row 0 of chain 0, whose arrays 0 and 1 hold their partials. -/
def hopCmd : Cmd :=
  { matCmd 10 with words := (matCmd 10).words.set 0 0x20000010 |>.set 5 2,
                   prick := words [(0, 1), (1, 2048), (2, 2048), (3, 1), (8, 10), (9, 1), (11, 1)], admitted := true }
def hopDev : Device :=
  let dr : Drain := { group := 0, fin := true, mask := 0, tags := [], snap := {}, fetch := 0, div := 4 }
  let x : Arr := { prog := some { id := 7, group := 0, passes := [], closed := true, slot := some dr } }
  (List.range 4).foldl (fun d a => setArr a x d) (withCmd hopCmd own)

theorem witness_ChainHopAddsPartials :
    Runs hopDev 7 0x10 hopCmd ∧ hopDev.merr.parity = [] ∧
    (match hopReady hopDev hopCmd (shares hopDev hopCmd) 0 with
     | some (_, sy, _, _, _) =>
       (chainHops (shares hopDev hopCmd) sy).1.any fun h =>
         (List.range 8).all fun k => decide ((allHops (shares hopDev hopCmd))[k]? ≠ some h) || (decide (k ≠ 0) && decide (k ∉ hopCmd.hops))
     | none => false) = true ∧ (allHops (shares hopDev hopCmd)).length ≤ 8 := by
  unfold Runs
  try dsimp only
  repeat' apply And.intro
  all_goals decide +kernel

/-- A line of a scatter bank with one addition that saturates. -/
def bankDev : Device :=
  setBank 11 63 [{ line := 0x7FFFF, adds := [(15, 100)], array := 191, tile := (0, 0) }]
    (bytesIn (bandAddr 11 (64 * 0x7FFFF + 60)) [0xF0, 0xFF, 0xFF, 0x7F] own)

theorem witness_BanksAndTallies :
    (11 < 12 ∧ 63 < 64 ∧ Canonical bankDev ∧ Rising bankDev.scat ∧ bankDev.merr.parity = [] ∧ bankDev.merr.poison = [] ∧
     (bankOf bankDev 11 63).map (fun x => (x.adds, decide (x.line < 0x80000))) = [([(15, 100)], true)] ∧ 15 < 16) ∧
    (let d := setArr 191 { held := [63] } own
     191 < 192 ∧ 63 < 64 ∧ Canonical d ∧ d.merr.parity = [] ∧ d.merr.poison = [] ∧ (arrOf d 191).failing = false ∧ 63 ∈ (arrOf d 191).held) := by
  unfold Canonical
  try dsimp only
  repeat' apply And.intro
  all_goals decide +kernel

theorem test_scatter_saturates :
    see (exec (.scatterRetire 11 63) (st bankDev)) (fun d => (bytesAt d (bandAddr 11 (64 * 0x7FFFF + 60)) 4, bankOf d 11 63)) =
      some ([0xFF, 0xFF, 0xFF, 0x7F], []) := by decide +kernel

theorem test_tally_wraps :
    see (exec (.tallyIncrement 191 63) (st (setArr 191 { held := [63] } (bytesIn (wordAddr 191 (4 * 65535)) [0xFF, 0xFF, 0xFF, 0xFF] own))))
      (fun d => (bytesAt d (wordAddr 191 (4 * 65535)) 4, (arrOf d 191).held)) = some ([0, 0, 0, 0], []) := by decide +kernel

/-! ## Remote access and links -/

/-- A remote write of a whole row of array 0 of partition 3 by slot 1 of the domain. -/
def remReq : RemReq := { src := 1, part := 3, id := 5, lo := rowAddr 0 0, hi := rowAddr 0 511 }

/-- The sending device of a remote COPY with runs 2 and 4 to come: DST on device 1. -/
def farRuns (runs : List Nat) : Cmd :=
  { cmd [(0, 0x40), (6, rowAddr 0 0 % 2 ^ 32), (7, rowAddr 0 0 / 2 ^ 32), (8, rowAddr 1 0 % 2 ^ 32), (9, 0x80000000 + 2 ^ 19 + rowAddr 1 0 / 2 ^ 32),
        (10, 512), (11, 8)] with runs := runs }

theorem witness_RemoteTransfersAnswered :
    (remReq.src < 4096 ∧ remReq.part < 64 ∧ domain.clk.power = .run ∧
     (!sideBad remReq.lo (remReq.hi + 1 - remReq.lo) && rangeOwned domain 3 remReq.lo remReq.hi && sourceOk domain 3 remReq.src) = true) ∧
    sourceOk domain 3 2 = false ∧ sideBad remReq.lo (remReq.hi - remReq.lo) = true ∧
    (let c := farRuns [2, 4]
     let d := withCmd c own
     Runs d 7 0x40 c ∧ 4 ∈ c.runs ∧ (tDstDev d c).isSome = true ∧ tSrcDev d c = none ∧ c.runs.erase 4 ≠ []) ∧
    (let c := farRuns [4]
     let d := withCmd c own
     Runs d 7 0x40 c ∧ 4 ∈ c.runs ∧ (tDstDev d c).isSome = true ∧ tSrcDev d c = none ∧ c.runs.erase 4 = [] ∧ c.done.status ≠ stDeadline) ∧
    (let c := { copyCmd with runs := [0] }
     Runs (withCmd c own) 7 0x40 c ∧ 0 ∈ c.runs ∧ (tDstDev (withCmd c own) c).isSome = false) ∧
    (let c := collCmd 0x4A 0 0
     let d := collDev c
     Runs d 7 (opOf c) c ∧ isColl (opOf c) = true ∧ domainOf c = true ∧ 1 ≠ ownSlot d ∧ 1 ∈ members d c.part) ∧
    (let c := { cmd [(0, 0x1010)] with admitted := true, shared := [0, 1, 2], ends := [(0, {})] }
     let d := withCmd c domain
     Runs d 7 0x10 c ∧ 1 ≠ ownSlot d ∧ 1 ∈ awaited c ∧ (∀ e ∈ c.ends, e.2.status = stOk) ∧
     awaited { c with ends := c.ends ++ [(1, { status := stRemote, detail := 0x8001 })] } = [2]) ∧
    (let c := { cmd [(0, 0x1010)] with admitted := true, shared := [0, 1], ends := [(0, {})] }
     let d := withCmd c domain
     Runs d 7 0x10 c ∧ 1 ∈ awaited c ∧ awaited { c with ends := c.ends ++ [(1, { status := stRemote, detail := 0x8001 })] } = []) := by
  unfold Runs
  try dsimp only
  repeat' apply And.intro
  all_goals decide +kernel

/-- TILE_POS of a remote timeout is the lowest pending run (R432). -/
theorem test_remote_timeout :
    see (exec (.remoteTimeout 7 4) (st (withCmd (farRuns [2, 4]) own))) (fun d => (cmdOf d 7).map fun c => (c.done.status, c.done.tilePos)) =
      some (some (0x50, 2)) := by decide +kernel

/-- A packet of that write, and the target that has accepted it. -/
def packet (n : Nat) : Packet :=
  { src := 1, dst := 0, part := 3, resp := false, pseq := BitVec.ofNat 32 n, hop := 0, load := .write 5 (rowAddr 0 0) [1, 2] 0 true true none }
def remDev (n : Nat) : Device :=
  { domain with rem := { accepted := [remReq], rxSeq := tabSet 0 (packetKey (packet n)) n [] } }

theorem witness_RemoteWritesInOrder :
    (let d := remDev 7
     let p := packet 7
     p.load = .write 5 (rowAddr 0 0) [1, 2] 0 true true none ∧ p.src < 4096 ∧ p.part < 64 ∧ p.dst < 4096 ∧ p.dst = ownDev d ∧ d.clk.power = .run ∧
     d.rem.ahead = [] ∧ isAccepted d p.src p.part 5 = true ∧ Canonical d ∧ Rising d.rem.rxSeq ∧ d.merr.parity = [] ∧ d.merr.poison = [] ∧
     (∀ k < 2, mapped (rowAddr 0 0 + k) = true) ∧ isHbm (rowAddr 0 0) = false ∧ p.pseq.toNat = tabGet 0 (packetKey p) d.rem.rxSeq ∧
     NoErrors {} ∧ packetHeld d p = false) ∧
    (let d := remDev 7
     let p := { packet 7 with load := .read 5 (rowAddr 0 0) 512 0 0 none true }
     p.dst = ownDev d ∧ isAccepted d p.src p.part 5 = true ∧ p.pseq.toNat = tabGet 0 (packetKey p) d.rem.rxSeq ∧ packetHeld d p = false) ∧
    (let d := setPart 3 { clrArrays := [0] } (remDev 7)
     Canonical d ∧ packetHeld d (packet 7) = true ∧ d.waiting = [] ∧ (packet 7).pseq.toNat = tabGet 0 (packetKey (packet 7)) d.rem.rxSeq) ∧
    (packet 8).pseq.toNat = tabGet 0 (packetKey (packet 8)) (remDev 7).rem.rxSeq + 1 ∧
    (packet 6).pseq.toNat + 1 = tabGet 0 (packetKey (packet 6)) (remDev 7).rem.rxSeq ∧ (7 : Nat) < 2 ^ 32 := by
  unfold Canonical NoErrors NoWaits
  try dsimp only
  repeat' apply And.intro
  all_goals decide +kernel

theorem test_packet_order :
    see (exec (.remotePacket (packet 7) {}) (st (remDev 7)))
      (fun d => (bytesAt d (rowAddr 0 0) 2, d.links.map fun e => (e.1, e.2.waiting.map (·.load)))) = some ([1, 2], [(0, [.visible 5 0])]) ∧
    see (exec (.remotePacket (packet 8) {}) (st (remDev 7))) (fun d => (bytesAt d (rowAddr 0 0) 2, d.rem.ahead.length)) = some ([0, 0], 1) := by
  decide +kernel

/-- Link 0 in a state, with its domain number set. -/
def linkDev (v : Nat) : Device := fput oDeviceId fDeviceIdDomainSet 1 (setState 0 v {})

theorem witness_LinksComeUp :
    Canonical (linkDev 0) ∧ fbit own oDeviceId fDeviceIdDomainSet = false ∧ fbit (linkDev 0) oDeviceId fDeviceIdDomainSet = true ∧
    fbit (linkDev 0) (oLinkCtrl 47) fLinkCtrlEnable = false ∧ linkState (linkDev lkTraining) 0 = lkTraining ∧
    (4095 < 4096 ∧ 47 < 48 ∧ linkState (linkDev lkAligning) 0 = lkAligning ∧ farEnd (linkDev lkAligning) 0 = some (1, 28)) ∧
    (let d := setLink 0 { identOk := true } (linkDev lkAligning)
     (List.replicate 16 ((0 : Int), (0 : Int), (0 : Int), (0 : Int))).length = 16 ∧ Canonical d ∧ linkState d 0 = lkAligning ∧ (linkOf d 0).identOk = true ∧
     d.rem.routes = [] ∧ ∀ e ∈ d.links, e.2.waiting = []) ∧
    (let d := fput (oLinkCtrl 0) fLinkCtrlEnable 1 (linkDev lkFailed)
     Canonical d ∧ fbit d oDeviceId fDeviceIdDomainSet = true ∧ fbit d (oLinkCtrl 0) fLinkCtrlEnable = true ∧ linkState d 0 ≠ lkUp) ∧
    (let d := fput (oLinkCtrl 0) fLinkCtrlEnable 1 (linkDev lkUp)
     Canonical d ∧ fbit d (oLinkCtrl 0) fLinkCtrlEnable = true ∧ linkState d 0 = lkUp) ∧
    (let d := { fput (oLinkCtrl 0) fLinkCtrlEnable 1 (linkDev lkFailed) with rem := { routes := [(0, 1)] } }
     Canonical d ∧ linkState d 0 = lkFailed ∧ fbit d (oLinkCtrl 0) fLinkCtrlEnable = true ∧ d.rem.routes = [(0, 1)] ∧
     ∀ e ∈ d.links, e.2.waiting = []) := by
  unfold Canonical
  try dsimp only
  repeat' apply And.intro
  all_goals decide +kernel

/-- L0 of slot 0 reaches L28 of slot 1, and L29 of slot 15 is reached by L28 + 1 of the last pair (R420). -/
theorem test_far_ends : farEnd {} 0 = some (1, 28) ∧ farEnd {} 29 = some (15, 1) ∧ farEnd {} 30 = none ∧ farEnd {} 31 = some (16, 30) := by
  decide +kernel

theorem test_miscabled :
    see (exec (.ident 0 1 28) (st (linkDev lkAligning))) (fun d => ((linkOf d 0).identOk, linkState d 0)) = some (true, lkAligning) ∧
    see (exec (.ident 0 1 29) (st (linkDev lkAligning))) (fun d => linkState d 0) = some lkMiscabled := by decide +kernel

/-- Sixteen exchanges with an offset of o quarters of a nanosecond and a delay of 10. -/
def exchanges (o : Int) : List (Int × Int × Int × Int) := List.replicate 16 (0, o + 5, o + 5, 10)

/-- Link 0 up. -/
def upDev (x : Link) : Device := setLink 0 x (setState 0 lkUp {})

/-- Slot 1's device, whose time master is slot 0 over link 28; stepped says that TIME has been aligned before. -/
def timeDev (stepped : Bool) : Device :=
  let d := fput oDeviceId fDeviceIdSlot 1 (fput oHyCtrl fHyCtrlSlots 3 (setState 28 lkUp {}))
  { d with align := { stepped := stepped }, clk := { time := 1000 } }

theorem witness_TimeFollowsMaster :
    (let d := timeDev false
     let z : Int := d.clk.time * 2 ^ 32 + d.clk.frac + bestOffset (exchanges 6) * 2 ^ 30
     28 < 30 ∧ (exchanges 6).length = 16 ∧ Canonical d ∧ linkState d 28 = lkUp ∧ masterOf d.free d (some 28) = some (0, 1) ∧
     28 ∈ domainLinks d 0 ∧ d.align.stepped = false ∧ 0 ≤ z ∧ z < 2 ^ 96) ∧
    (let d := timeDev true
     Canonical d ∧ linkState d 28 = lkUp ∧ masterOf d.free d (some 28) = some (0, 1) ∧ 28 ∈ domainLinks d 0 ∧ d.align.stepped = true) ∧
    (let d := fput oHyCtrl fHyCtrlSlots 3 (upDev {})
     Canonical d ∧ linkState d 0 = lkUp ∧ masterOf d.free d (some 0) = some (0, 0)) := by
  unfold Canonical
  try dsimp only
  repeat' apply And.intro
  all_goals decide +kernel

/-- An offset of 1.5 ns steps TIME to 1001.5 ns, and slews it later (R425, R426). -/
theorem test_time_exchange :
    see (exec (.timeExchange 28 (exchanges 6) none) (st (timeDev false))) (fun d => (d.clk.time, d.clk.frac, d.align.slew)) =
      some (1001, 2 ^ 31, 0) ∧
    see (exec (.timeExchange 28 (exchanges 6) none) (st (timeDev true))) (fun d => (d.clk.time, d.align.slew)) = some (1000, 6) := by
  decide +kernel

/-- The check value of CRC-32 for the digits 1 to 9. -/
theorem test_crc32 : crc32 ((List.range 9).map fun k => BitVec.ofNat 8 (49 + k)) = 0xCBF43926 := by decide +kernel

/-- A flit of 240 zeros with a header, its CRC right or not; IDLE flits by their LSEQ, and the flit of a packet with LSEQ 4095. -/
def flitOf (h : BitVec 96) (ok : Bool) (load : Option Payload) : Flit :=
  let c := BitVec.ofNat 32 (crc32 (leBytes 12 h.toNat ++ List.replicate 240 0))
  { header := h, payload := List.replicate 240 0, crc := if ok then c else ~~~c, corrected := 1, load := load }
def flit (seq : Nat) (ok : Bool) : Flit := flitOf (BitVec.ofNat 96 (seq * 2 ^ 4)) ok none
def packetFlit (p : Packet) : Flit := flitOf (header p 4095 0 false true) true (some p.load)
def sentLink (tries : Nat) : Link := { replay := [(4095, 1, packet 0)], tries := tries }

theorem witness_FlitsAcknowledged :
    (let d := upDev { rxNext := 4095 }
     let ok (f : Flit) : Bool := !flitFailed f && decide (flitLseq f = (linkOf d 0).rxNext) && !flitNakBit f && decide (f.payload.length = 240)
     Canonical d ∧ linkState d 0 = lkUp ∧ (linkOf d 0).waiting = [] ∧ flitFailed (flit 4095 false) = true ∧
     (flitFailed (flit 0 true) = false ∧ flitLseq (flit 0 true) ≠ (linkOf d 0).rxNext) ∧ (ok (flit 4095 true) = true ∧ flitType (flit 4095 true) = 0) ∧
     (ok (packetFlit (packet 7)) = true ∧ flitType (packetFlit (packet 7)) = 1 ∧ flitLast (packetFlit (packet 7)) = true ∧
      flitPacket (packetFlit (packet 7)) (packet 7).load = packet 7 ∧ (packet 7).dst = ownDev d) ∧
     ok (flitOf (header (packet 7) 4095 0 false false) true none) = true ∧ ok (packetFlit { packet 7 with dst := 2 }) = true) ∧
    (let d := upDev (sentLink 7)
     Canonical d ∧ linkState d 0 = lkUp ∧ (linkOf d 0).waiting = [] ∧ (ackUpTo 4095 (linkOf d 0)).replay = [] ∧
     (linkOf d 0).replay = [(4095, 1, packet 0)] ∧ (linkOf d 0).tries < 8) ∧
    (let d := upDev (sentLink 8)
     Canonical d ∧ linkState d 0 = lkUp ∧ (linkOf d 0).waiting = [] ∧ (linkOf d 0).replay ≠ [] ∧ 8 ≤ (linkOf d 0).tries) := by
  unfold Canonical
  try dsimp only
  repeat' apply And.intro
  all_goals decide +kernel

theorem test_flit_taken :
    see (exec (.flitReceive 0 (flit 4095 true) {}) (st (upDev { rxNext := 4095 }))) (fun d => (linkOf d 0).rxNext) = some 0 ∧
    see (exec (.flitReceive 0 (flit 4095 false) {}) (st (upDev { rxNext := 4095 }))) (fun d => (d.out, (linkOf d 0).rxNext)) =
      some ([.flitNak 0 4094], 4095) := by decide +kernel

theorem witness_LinkFailuresReroute :
    (let d := fput (oLinkStatus 0) fLinkStatusLaneOut 7 (upDev {})
     Canonical d ∧ linkState d 0 = lkUp ∧ fget d (oLinkStatus 0) fLinkStatusLaneOut = 7 ∧ d.rem.routes = [] ∧ (linkOf d 0).waiting = [] ∧
     (linkOf d 0).replay = []) ∧
    (let d := fput (oLinkStatus 0) fLinkStatusLaneOut 3 (upDev {})
     Canonical d ∧ linkState d 0 = lkUp ∧ fget d (oLinkStatus 0) fLinkStatusLaneOut ≠ 7) := by
  unfold Canonical
  try dsimp only
  repeat' apply And.intro
  all_goals decide +kernel

/-! ## Active/standby pairs and control processors -/

/-- A device in a pair, in a role, with both lines alive or not. -/
def pairDev (r : Nat) (hb links : Bool) : Device :=
  fput oPairStatus fPairStatusHbOk (if hb then 1 else 0) (fput oPairStatus fPairStatusLinksOk (if links then 1 else 0)
    (fput oPairCtrl fPairCtrlPairEn 1 (setRole r {})))

/-- A device in a stage of a takeover. -/
def staged (x : Stage) (d : Device) : Device := setStage x d

theorem witness_RolesDecideOutputs : Canonical (pairDev roleStandby true true) := by
  unfold Canonical
  try dsimp only
  repeat' apply And.intro
  all_goals decide +kernel

theorem witness_PairRolesChange :
    (fbit own oLock fLockSafetyLock = false ∧ pairEn own = false ∧ bit 0 (1 : Word).toNat = true ∧ bits 6 5 (1 : Word).toNat = 0 ∧ own.pins.fenceIn = false) ∧
    (fbit (pairDev roleActive true true) oLock fLockSafetyLock = false ∧ pairEn (pairDev roleActive true true) = true ∧ bit 0 (2 : Word).toNat = false ∧
     bits 6 5 (2 : Word).toNat = 0) ∧
    fbit (fput oLock fLockSafetyLock 1 own) oLock fLockSafetyLock = true ∧
    ({ own with pair := { holdoff := true } } : Device).pair.holdoff = true ∧ own.pair.holdoff = false ∧ own.pins.claim = false ∧
    (15 < 16 ∧ ({ own with pins := { claim := true } } : Device).pins.claim = true) ∧
    (role (pairDev roleFenced true true) = roleFenced ∧ (pairDev roleFenced true true).pins.fenceIn = false) ∧
    (let d := fput oPairCtrl fPairCtrlRejoin 1 { pairDev roleFenced true true with pins := { fenceIn := true } }
     role d = roleFenced ∧ d.pins.fenceIn = true ∧ fbit d oPairCtrl fPairCtrlRejoin = true) ∧
    role (pairDev roleStandby true true) ≠ roleFenced ∧ fbit own oPairCtrl fPairCtrlRejoin = false ∧
    (Canonical (pairDev roleActive true true) ∧ role (pairDev roleActive true true) = roleActive) ∧
    (Canonical (pairDev roleStandby true true) ∧ role (pairDev roleStandby true true) = roleStandby ∧ (pairDev roleStandby true true).pair.stage = .none) := by
  unfold Canonical
  try dsimp only
  repeat' apply And.intro
  all_goals decide +kernel

/-- REJOIN written while FENCE_IN is asserted waits for its release (R12, R470). -/
theorem test_rejoin_waits :
    let d : Device := { pairDev roleFenced true true with pins := { fenceIn := true } }
    see (exec .rejoin (st d)) (fun d => (role d, fbit d oPairCtrl fPairCtrlRejoin,
      see (exec (.fenceIn false) (st d)) (fun e => (role e, fbit e oPairCtrl fPairCtrlRejoin)))) =
      some (roleFenced, true, some (roleStandby, false)) := by decide +kernel

/-- Of two claims the higher slot yields: slot 5 keeps its role against 6 and gives way to 4 (R461). -/
theorem test_claims :
    let d := fput oDeviceId fDeviceIdSlot 5 { pairDev roleActive true true with pins := { claim := true } }
    see (exec (.claim 6) (st d)) role = some roleActive ∧ see (exec (.claim 4) (st d)) role = some roleStandby := by decide +kernel

theorem test_fence : see (exec (.fenceIn true) (st { pairDev roleActive true true with pins := { illum := 1, trig := 2, claim := true } }))
    (fun d => (role d, d.pins.illum, d.pins.trig, d.pins.claim)) = some (roleFenced, 0, 0, false) := by decide +kernel

theorem witness_PairDetectsLoss :
    (let d := pairDev roleActive true true
     role d = roleActive ∧ d.pair.hubOk = true ∧ d.clk.power = .run ∧ pairEn d = true ∧ Canonical d) ∧
    (({ pairDev roleActive true true with pair := { hubOk := false } } : Device).pair.hubOk = false) ∧
    (let d := pairDev roleStandby true true
     Canonical d ∧ pairEn d = true ∧ role d = roleStandby ∧ linksOk d = true ∧ hbOk d = true) ∧
    (let d := pairDev roleStandby false false
     Canonical d ∧ pairEn d = true ∧ role d = roleStandby ∧ linksOk d = false ∧ hbOk d = false ∧ d.pair.stage = .none) ∧
    (let d := pairDev roleActive true true
     Canonical d ∧ pairEn d = true ∧ role d ≠ roleStandby) ∧
    (let d : Device := { pairDev roleStandby true true with pair := { queryOpen := true } }
     Canonical d ∧ role d = roleStandby ∧ d.pair.queryOpen = true) := by
  unfold Canonical
  try dsimp only
  repeat' apply And.intro
  all_goals decide +kernel

theorem test_heartbeat_missing :
    see (exec .heartbeatMissing (st (pairDev roleStandby true true))) (fun d => (d.out, d.pins.fenceOut)) = some ([.pairQuery], false) ∧
    see (exec .heartbeatMissing (st (pairDev roleStandby true false))) (fun d => (d.out, d.pins.fenceOut)) = some ([], true) := by
  decide +kernel

/-- A standby device that holds the checkpoint that an active one has sent as generation 4. -/
def ckptBytes : List Byte := checkpoint (pairDev roleActive true true) 4
def ckptDev : Device :=
  bytesIn (ckptSlot (pairDev roleStandby true true) 0) (ckptBytes ++ commitLine 4 ckptBytes) (pairDev roleStandby true true)

theorem witness_TakeoverAndCheckpoints :
    (let d := pairDev roleStandby false false
     hbOk d = false ∧ linksOk d = false ∧ role d = roleStandby ∧ d.pair.stage = .none) ∧
    (staged .fencing (pairDev roleStandby false false)).pair.stage = .fencing ∧ (staged .blocked (pairDev roleStandby false false)).pair.stage = .blocked ∧
    (let d := staged .loading { pairDev roleStandby false false with pair := { applied := ckptBytes } }
     (∀ x ∈ [(63, 15, 1)], x.1 < 64 ∧ x.2.1 < 16) ∧ d.pair.stage = .loading ∧ d.pair.applied ≠ []) ∧
    (let d := staged .loading (pairDev roleStandby false false)
     d.pair.stage = .loading ∧ d.pair.applied = []) ∧
    (hbOk (pairDev roleStandby true false) = true ∧ linksOk (pairDev roleStandby false true) = true ∧ NoErrors {} ∧
     role (pairDev roleActive true true) ≠ roleStandby) ∧
    (Canonical (pairDev roleActive true true) ∧ role (pairDev roleActive true true) = roleActive ∧ (pairDev roleActive true true).clk.power = .run) ∧
    (Canonical (pairDev roleStandby true true) ∧ goodCheckpoint (pairDev roleStandby true true) 1 = none) ∧
    goodCheckpoint ckptDev 0 = some ckptBytes := by
  unfold Canonical NoErrors NoWaits
  try dsimp only
  repeat' apply And.intro
  all_goals decide +kernel

/-! ## Position, triggers, interlock -/

/-- Encoder 0 leads and is enabled, with ENC_SCALE 0x18000, one and a half position units an edge. -/
def encDev : Device := fput oPosCtrl fPosCtrlEn0 1 (fput oPosCtrl fPosCtrlLead 0 (regs [(oEncScale 0, 0x18000)] {}))

theorem witness_PositionCounts :
    (0 < 3 ∧ filt encDev = 4 ∧ seenOf encDev 0 + 3 < filt encDev ∧ seenOf encDev 1 + 3 < filt encDev ∧ seenOf encDev 0 = seenOf encDev 1) ∧
    (encDev.pos.z0 = false ∧ filt encDev ≤ seenOf encDev 2 + 4 ∧ encOn encDev 0 = true ∧ ¬ filt encDev ≤ seenOf encDev 2 + 3) ∧
    (filt encDev ≤ 4 ∧ leadEnc encDev = 0 ∧ encOn encDev 0 = true ∧ Canonical encDev ∧ (∀ n < 16, fbit encDev (oTrigCfg n) fTrigCfgEn = false) ∧
     ¬(encDev.pos.a0 ≠ true ∧ encDev.pos.b0 ≠ false) ∧ encDev.clk.accumulating = false ∧ encDev.pos.a0 ≠ true ∧ encDev.pos.b0 ≠ true) ∧
    (let d := fput oWakeCfg fWakeCfgWakeEn 0 { encDev with clk := { accumulating := true, power := .sleep } }
     d.clk.accumulating = true ∧ (d.pos.acc + quadEdge d.pos.a0 d.pos.b0 true false).natAbs ≤ 32767 ∧ d.clk.power = .sleep ∧ Canonical d ∧
     encOn d 0 = true ∧ fbit d oWakeCfg fWakeCfgWakeEn = false) ∧
    (let d := fput oWakeCfg fWakeCfgWakeEn 1 (fput oWakeCfg fWakeCfgWakeEdges 1 { encDev with clk := { accumulating := true, power := .sleep } })
     fbit d oWakeCfg fWakeCfgWakeEn = true ∧ fget d oWakeCfg fWakeCfgWakeEdges ≤ (d.pos.acc + quadEdge d.pos.a0 d.pos.b0 true false).natAbs) ∧
    encOn (fput oPosCtrl fPosCtrlEn1 1 encDev) 1 = true ∧
    (let d := fput oPosLoadHi fPosLoadHiLoad 1 encDev
     Canonical d ∧ (∀ n < 16, fbit d (oTrigCfg n) fTrigCfgEn = false) ∧ fbit d oPosLoadHi fPosLoadHiLoad = true) ∧
    ({ encDev with pos := { acc := -3, handover := true } } : Device).pos.handover = true := by
  unfold Canonical
  try dsimp only
  repeat' apply And.intro
  all_goals decide +kernel

/-- A full quadrature cycle is four edges of 1.5 units, 6 units; the reverse edge takes 1.5 back (R476, R477). -/
theorem test_encoder_cycle :
    (see (exec (.encoderEdge 0 true false 4) (st encDev)) (·.pos.ctr)).map Int.natAbs = some 0x18000 ∧
    see (exec (.encoderEdge 0 true true 4) (st encDev)) (fun d => (d.pos.ctr, fget d oPosStatus fPosStatusEncErrors)) = some (0, 1) ∧
    (see (exec (.encoderEdge 0 true false 4) (st encDev)) (·.pos.ctr)).map (fun z => -z) = see (exec (.encoderEdge 0 false true 4) (st encDev)) (·.pos.ctr) := by
  decide +kernel

/-- Three samples of a level change nothing, the fourth in a row does, and a sample of the old level begins the count again (R475). -/
theorem test_filter :
    let two (a : Bool) (n m : Nat) : Option (Option Bool) :=
      see (exec (.encoderEdge 0 true false n) (st encDev)) fun d => see (exec (.encoderEdge 0 a false m) (st d)) (·.pos.a0)
    two true 3 1 = some (some true) ∧ two false 3 1 = some (some false) ∧
    (see (exec (.encoderEdge 0 true false 3) (st encDev)) fun d => see (exec (.encoderEdge 0 false false 1) (st d)) fun d =>
      see (exec (.encoderEdge 0 true false 3) (st d)) (·.pos.a0)) = some (some (some false)) := by decide +kernel

/-- A load of -1 sets every bit of the position (R478). -/
theorem test_position_load :
    see (exec .positionLoad (st (fput oPosLoadHi fPosLoadHiLoad 1 (fput oPosLoadHi fPosLoadHiLoadPos 0xFFFF (regs [(oPosLoadLo, 0xFFFFFFFF)] encDev)))))
      (fun d => (position d, fbit d oPosLoadHi fPosLoadHiLoad)) = some (-1, false) := by decide +kernel

/-- Both encoders enabled, the window's increments given in 2^-16 units, SLIP_ABS 4 and SLIP_PM 0. -/
def slipDev (d0 d1 : Int) : Device :=
  { fput oPosCtrl fPosCtrlEn1 1 (fput oSlipCfg fSlipCfgSlipAbs 4 (fput oSlipCfg fSlipCfgSlipPm 0 encDev)) with pos := { d0 := d0, d1 := d1 } }

/-- Ten past positions of 0 and a position of p. -/
def speedDev (p : Int) : Device :=
  fput oSpeedGate fSpeedGateOnTh 100 (fput oSpeedGate fSpeedGateOffTh 50 { encDev with pos := { ctr := p * 65536, hist := List.replicate 10 0 } })

theorem witness_SpeedAndSlip :
    (let ok (p : Int) : Prop := Canonical (speedDev p) ∧ (speedDev p).pos.hist.length = 10
     ok 100 ∧ ok (-49) ∧ ok 50) ∧
    (let s (d : Device) : Bool := encOn d 0 && encOn d 1 && decide (max (fget d oSlipCfg fSlipCfgSlipAbs * 65536 * 1024)
       (d.pos.d0.natAbs * fget d oSlipCfg fSlipCfgSlipPm) < (d.pos.d0 - d.pos.d1).natAbs * 1024)
     s (slipDev (4 * 65536) 0) = false ∧ s (slipDev (4 * 65536 + 1) 0) = true ∧ leadEnc (slipDev 0 0) = 0 ∧ Canonical (slipDev 0 0) ∧
     (slipDev 0 0).clk.accumulating = false) := by
  unfold Canonical
  try dsimp only
  repeat' apply And.intro
  all_goals decide +kernel

/-- The gate opens at ON_TH and closes below OFF_TH (R493); SPEED is the change over the last ten updates (R480). -/
theorem test_speed :
    see (exec .speedUpdate (st (speedDev (-100)))) (fun d => (rget d oSpeed, d.ilk.gate)) = some (0xFFFFFF9C, true) ∧
    see (exec .speedUpdate (st { speedDev 49 with ilk := { gate := true } })) (·.ilk.gate) = some false ∧
    see (exec .speedUpdate (st { speedDev 50 with ilk := { gate := true } })) (·.ilk.gate) = some true := by decide +kernel

/-- A difference of exactly SLIP_ABS is no slip (R481). -/
theorem test_slip :
    see (exec .slipWindow (st (slipDev (4 * 65536) 0))) (fun d => fget d oPosStatus fPosStatusSlipCount) = some 0 ∧
    see (exec .slipWindow (st (slipDev (4 * 65536 + 1) 0))) (fun d => (fget d oPosStatus fPosStatusSlipCount, d.jnl.queue.length)) = some (1, 1) := by
  decide +kernel

/-- Output 15 with a pulse. -/
def trigDev (p : Pulse) (held : Option (Nat × Int)) : Device :=
  setTrig 15 { pulse := p, held := held } (regs [(oTrigTime 15, 3)] { clk := { tick := 9 } })

theorem witness_TriggersPulse :
    (let d := trigDev (.pending 9 5 false) none
     15 < 16 ∧ (trigOf d 15).pulse = .pending 9 5 false ∧ trigBlocked d = false ∧ 9 ≤ d.clk.tick ∧ fget d (oTrigLine 15) fTrigLineLine ≠ 0xFFFFFFFF) ∧
    (let d := setRole roleStandby (trigDev (.pending 9 5 false) none)
     (trigOf d 15).pulse = .pending 9 5 false ∧ trigBlocked d = true) ∧
    (let d := trigDev (.high 9) none
     (trigOf d 15).pulse = .high 9 ∧ 9 ≤ d.clk.tick ∧ (trigOf d 15).held = none) ∧
    (let d := trigDev (.high 9) (some (7, 1))
     (trigOf d 15).pulse = .high 9 ∧ (trigOf d 15).held = some (7, 1)) ∧
    (let d : Device := { trigDev .idle none with trigRecs := [⟨1, -1, 15, false, 40⟩] }
     d.trigRecs = [⟨1, -1, 15, false, 40⟩] ∧ Canonical d ∧ regions d = [] ∧ (∀ e ∈ d.regs, e.1 < oRetireEntry 0 0 ∨ bits 31 31 e.2.toNat ≠ 1) ∧
     d.merr.parity = [] ∧ d.merr.poison = [] ∧
     isHbm ((rget d oTrigRecBaseLo).toNat + 2 ^ 32 * fget d oTrigRecBaseHi fTrigRecBaseHiAddr + 31) = true) := by
  unfold Canonical
  try dsimp only
  repeat' apply And.intro
  all_goals decide +kernel

theorem test_trigger_pulse :
    see (exec (.triggerPulse 15) (st (trigDev (.pending 9 5 false) none))) (fun d => (d.pins.trig, fget d (oTrigLine 15) fTrigLineLine, d.trigRecs.length)) =
      some (0x8000, 1, 1) := by decide +kernel

/-- The interlock in a state with a count, its channels at a and b, DISC 1 µs. -/
def ilkDev (x : IlkState) (a b : Bool) (n : Nat) (fromSafe : Bool) : Device :=
  { ({} : Device) with ilk := { st := x, count := n, a := a, b := b, disc := 1, fromSafe := fromSafe } }

theorem witness_InterlockGuardsIllumination :
    (let d := ilkDev .safe false true 0 false
     d.ilk.seenA + 249 < 250 ∧ d.ilk.seenB + 249 < 250 ∧ d.ilk.seenA = d.ilk.seenB ∧ (250 : Nat) ≤ 250) ∧
    (let d := ilkDev .safe false true 0 false
     ¬(true = d.ilk.a ∧ true = d.ilk.b) ∧ d.ilk.st ∈ [.safe, .active, .hold] ∧ 0 < d.ilk.disc) ∧
    (let d := ilkDev .disagree true true 24 true
     ¬(false = d.ilk.a ∧ true = d.ilk.b) ∧ ¬(true = d.ilk.a ∧ false = d.ilk.b) ∧ d.ilk.st = .disagree ∧ d.ilk.count < 25 * d.ilk.disc) ∧
    (let d := ilkDev .disagree true true 25 true
     ¬(false = d.ilk.a ∧ true = d.ilk.b) ∧ d.ilk.st = .disagree ∧ 25 * d.ilk.disc ≤ d.ilk.count) ∧
    (ilkDev .latched false true 0 false).ilk.st = .latched := by
  decide +kernel

/-- In DISAGREE both channels become active: ACTIVE from SAFE, HOLD otherwise, and LATCHED in the tick in which the count reaches 25 × DISC (R488). -/
theorem test_interlock :
    let f (n : Nat) (b : Bool) : Option IlkState := see (exec (.interlockChange true false 250) (st (ilkDev .disagree true true n b))) (·.ilk.st)
    f 24 true = some .active ∧ f 24 false = some .hold ∧ f 25 true = some .latched := by decide +kernel

theorem test_latch_clear :
    see (exec .latchClear (st (ilkDev .latched false true 0 false))) (·.ilk.st) = some .safe ∧
    see (exec .latchClear (st (ilkDev .latched true true 0 false))) (·.ilk.st) = some .latched := by decide +kernel

/-! ## The journal -/

/-- A device with one record queued and the write point inside a sector, both flashes usable. -/
def jnlDev : Device :=
  { ({} : Device) with jnl := { queue := [{ type := 0x1000, seq := 1, time := 2, pos := 3, payload := [7] }], wp := 0x1000400, erased := 7 } }

theorem witness_JournalTakesRecords :
    (bits 15 0 (0x0001 : Word).toNat < 0x1000) ∧
    (let v : Word := 0x0FD81000
     0x1000 ≤ bits 15 0 v.toNat ∧ bits 15 0 v.toNat ≤ 0x7FFF ∧ bits 27 16 v.toNat ≤ 4056 ∧ jnlTakes ({} : Device) false = true) ∧
    4056 < bits 27 16 (0x0FD91000 : Word).toNat ∧ jnlTakes ({ ({} : Device) with jnl := { prio := true } } : Device) false = false ∧
    (0x0011 ∈ deviceTypes ∧ (List.replicate 4056 (0 : Byte)).length ≤ 4056 ∧ jnlTakes ({} : Device) (jnlPrio 0x0011 []) = true) ∧
    (Canonical {} ∧ jnlDead {} = false ∧ ({} : Device).jnl.drops = [] ∧ ({} : Device).jnl.queue.length < 256 ∧ flashUp {} 0 = true) := by
  unfold Canonical
  try dsimp only
  repeat' apply And.intro
  all_goals decide +kernel

theorem test_post_too_long : see (exec (.journalPost 0x0FD91000) State.reset) (fun d => (fbit d oJnlStatus fJnlStatusPostErr, d.jnl.queue.length)) =
    some (true, 0) := by decide +kernel

theorem witness_JournalReachesFlash :
    (let d := jnlDev
     let r : JRec := { type := 0x1000, seq := 1, time := 2, pos := 3, payload := [7] }
     Canonical d ∧ flashUp d 0 = true ∧ flashUp d 1 = true ∧ d.jnl.prio = false ∧ d.jnl.queue = [r] ∧ d.jnl.drops = [] ∧ d.jnl.wp % 65536 ≠ 0 ∧
     d.jnl.wp % 65536 + recLen r.payload.length ≤ 65536 ∧ d.jnl.erased < 8) ∧
    (let d := fput oJnlStatus fJnlStatusRescan 1 {}
     Canonical d ∧ fbit d oJnlStatus fJnlStatusRescan = true ∧ d.jnl.flashA = [] ∧ d.jnl.flashB = []) := by
  unfold Canonical
  try dsimp only
  repeat' apply And.intro
  all_goals decide +kernel

/-- COMMIT is the record's last byte (R500, R505). -/
theorem test_record_commit :
    see (exec (.journalRecordWrite [true, true, true] [true, true, true]) (st jnlDev)) (fun d =>
      (flashAt d.jnl.flashA (0x1000400 + recLen 1 - 1), d.jnl.queue.length)) = some (0x5A, 0) := by decide +kernel

/-! ## Observability -/

theorem witness_FreezesCaptureCounters :
    (frozen {} = false ∧ fbit {} oObsCtrl fObsCtrlDomainFreeze = false ∧ 0 < ({ ({} : Device) with clk := { time := 1 } } : Device).clk.time ∧
     ({} : Device).frz.due = none ∧ ({} : Device).clk.time ≤ 0) ∧
    (let d := fput oObsCtrl fObsCtrlDomainFreeze 1 {}
     frozen d = false ∧ fbit d oObsCtrl fObsCtrlDomainFreeze = true ∧ d.frz.due = none) ∧
    (let d : Device := { ({} : Device) with frz := { due := some 5 }, clk := { time := 5 } }
     frozen d = false ∧ d.frz.due = some 5 ∧ 5 ≤ d.clk.time) ∧ Canonical {} := by
  unfold Canonical
  try dsimp only
  repeat' apply And.intro
  all_goals decide +kernel

/-- The trace port on with every source, and the sources' FIFOs. -/
def trcDev (x : Trace) : Device := { regs [(oTrcCtrl, 0xFFFFFFFF)] {} with trc := x, clk := { time := 8000000 } }
def tpkt (t : Nat) : TPkt := { type := t, stamp := 1, payload := [2], since := 7620000 }

theorem witness_TracePortSends :
    (trcSrc (trcDev {}) 0 = true ∧ fifoBytes (trcDev {}).trc.fifo0 + 24 ≤ 65536) ∧
    (trcOn (trcDev { alarms := [tpkt 4] }) = true ∧ (tpkt 4).type ≠ 1 ∧ (trcDev { alarms := [tpkt 4] }).trc.alarms = [tpkt 4]) ∧
    (let d := trcDev { fifo0 := [tpkt 8] }
     trcOn d = true ∧ (tpkt 8).type ≠ 1 ∧ d.trc.alarms = [] ∧ d.trc.own = [] ∧ d.trc.fifo0 = [tpkt 8] ∧ tabGet 0 0 d.trc.lostPk = 0) ∧
    (let d := trcDev { fifo1 := [tpkt 4] }
     d.trc.fifo1 = [tpkt 4] ∧ (tpkt 4).since + 380000 ≤ d.clk.time ∧ trcOn d = true ∧ d.trc.lastSync + 8000000 ≤ d.clk.time) ∧
    ((trcDev { alarmOpen := [{ code := 0x8001, count := 0, source := 3 }] }).trc.alarmOpen.find? fun e => decide (e.code = 0x8001) && decide (e.source = 3)) =
      some { code := 0x8001, count := 0, source := 3 } ∧
    ((trcDev { alarmOpen := [{ code := 0x8001, count := 2, source := 3 }] }).trc.alarmOpen.find? fun e => decide (e.code = 0x8001) && decide (e.source = 3)) =
      some { code := 0x8001, count := 2, source := 3 } := by
  decide +kernel

theorem test_smp_seed : see (exec (.smpSeedWrite 0) State.reset) (fun d => rget d oSmpSeed) = some 1 := by decide +kernel

/-- Watch 15 of a NOP whose output dump is due, into a buffer of the smallest size in HBM. -/
def dumpCmd : Cmd := { cmd [] with phase := .ended, dumpOut := [15] }
def dumpDev : Device := withCmd dumpCmd own

theorem witness_DumpReachesBuffer :
    let d := dumpDev
    let c' := { dumpCmd with dumpTime := d.clk.time }
    let bs := dumpRecord d c' 15 false (reported (partOf d dumpCmd.part) dumpCmd.done).status d.clk.time
    let o := (rget d oDumpWr).toNat % dumpSize d
    cmdOf d 7 = some dumpCmd ∧ dumpCmd.phase = .ended ∧ dumpCmd.dumpIn = [] ∧ dumpCmd.dumpAt = 0 ∧ fbit d (oWatchCtl 15) fWatchCtlDest = false ∧
    Canonical d ∧ regions d = [] ∧ (∀ e ∈ d.regs, e.1 < oRetireEntry 0 0 ∨ bits 31 31 e.2.toNat ≠ 1) ∧ d.merr.parity = [] ∧ d.merr.poison = [] ∧
    dumpRoom d bs.length = true ∧ o + bs.length ≤ dumpSize d ∧
    isHbm ((rget d oDumpBaseLo).toNat + 2 ^ 32 * fget d oDumpBaseHi fDumpBaseHiAddr + o + bs.length - 1) = true := by
  unfold Canonical
  try dsimp only
  repeat' apply And.intro
  all_goals decide +kernel

/-! ## Clocks, power, reset -/

theorem witness_PowerStatesChange :
    (let d : Device := { ({} : Device) with clk := { time := 10 ^ 9 } }
     d.cmds = [] ∧ d.clk.power = .run ∧ anyFixedTime d = false ∧ d.clk.busyAt + fget d oPwrState fPwrStateIdleUs * 1000 ≤ d.clk.time) ∧
    (let d : Device := { ({} : Device) with clk := { standbyWanted := true } }
     d.cmds = [] ∧ powered d = true ∧ d.clk.standbyWanted = true ∧ sleepRefused d = false ∧ trcOn d = false) ∧
    sleepRefused (sqDev 0) = true ∧ ({} : Device).clk.power ≠ .idle ∧
    (let d : Device := regs [(oSleepTimer, 1)] { ({} : Device) with clk := { power := .sleep, sleepAt := 5, time := 1000000005 } }
     d.clk.power = .sleep ∧ (rget d oSleepTimer).toNat ≠ 0 ∧ d.clk.sleepAt + (rget d oSleepTimer).toNat * 1000000000 ≤ d.clk.time) := by
  decide +kernel

theorem witness_PowerAndTemperature :
    (Canonical {} ∧ ([1, 2, 3, 4, 5] : List Nat).length = 5 ∧ (5 : Nat) ≤ fget {} oPwrCap fPwrCapCapW * 1000 ∧ ({} : Device).clk.hot = [] ∧
     ({} : Device).clk.capUnder = 0 ∧ fget {} oPwrCap fPwrCapCapW * 1000 < 10000000) ∧
    (let d : Device := { ({} : Device) with clk := { delayTiles := true, capOver := 1 } }
     d.clk.delayTiles = true ∧ 1 ≤ d.clk.capOver ∧ slower (divNow d) ≠ divNow d) ∧
    (8 ∈ [4, 5, 6, 8] ∧ ({ ({} : Device) with clk := { divWanted := some 8 } } : Device).clk.divWanted = some 8) ∧
    (let trip : Int := fget {} oThermCfg fThermCfgTripC
     let cold : List (List Int) := List.replicate 5 (List.replicate 8 (trip * 16 - 1))
     let hot : List (List Int) := cold.set 4 (List.replicate 8 (trip * 16))
     cold.length = 5 ∧ (∀ x ∈ cold, x.length = 8) ∧ (∀ x ∈ cold, hottest x < trip * 16) ∧ (∀ x ∈ hot, x.length = 8) ∧
     (∃ x ∈ hot, trip * 16 ≤ hottest x) ∧ powered {} = true) := by
  unfold Canonical
  try dsimp only
  repeat' apply And.intro
  all_goals decide +kernel

theorem witness_ResetsRestart :
    (Canonical {} ∧ ({} : Device).clk.power = .run ∧ ({} : Device).cmds = [] ∧ ({} : Device).straps.boot ≠ 1 ∧ ({} : Device).images.slotA = true) ∧
    (let p : PowerOn := { boot := 3, slot := 15 }
     p.boot < 4 ∧ p.slot < 16 ∧ p.boot ≠ 1 ∧ p.slotA = true) ∧
    ({ ({} : Device) with clk := { power := .mainLost } } : Device).clk.power ∈ [.mainLost, .tripped, .waking] ∧
    (let d : Device := { ({} : Device) with clk := { power := .awaitImage } }
     Canonical d ∧ d.clk.power = .awaitImage ∧ d.clk.warmWanted = false ∧ bit 0 (1 : Word).toNat = true ∧ NoErrors {} ∧
     firstBad d 0 (bytesAt d 0 (64 * bits 31 8 (0x101 : Word).toNat)).length = none ∧
     (firstBad { d with merr := { poison := [32] } } 0 (bytesAt d 0 (64 * bits 31 8 (0x101 : Word).toNat)).length).isSome = true) := by
  unfold Canonical NoErrors NoWaits
  try dsimp only
  repeat' apply And.intro
  all_goals decide +kernel

theorem test_warm_reset :
    see (exec (.warmReset true) (st { bytesIn 64 [9] {} with pos := { ctr := 5 } })) (fun d => (byteAt d 64, d.pos.ctr, fget d oResetCause fResetCauseCause)) =
      some (9, 5, 1) := by decide +kernel

theorem test_vcc_aux_loss : see (exec .vccAuxLoss (st jnlDev)) (fun d => (d.clk.power, d.jnl.queue)) = some (.off, []) := by decide +kernel

/-! ## HBM -/

theorem witness_HbmMaintained :
    (5 < 6 ∧ fbit (fput oHbmCtrl fHbmCtrlScrubEn 1 {}) oHbmCtrl fHbmCtrlScrubEn = true) ∧
    (63 < 64 ∧ isHbm 0x5FFFFFFFFF = true ∧ memKey {} 0x5FFFFFFFFF - memKey {} 0x5FFFFFFFFF % 32 ∉ ({} : Device).merr.poison) ∧
    (let d : Device := { ({} : Device) with hbm := { retiring := [(5, 16777215, true)] } }
     5 < 6 ∧ 16777215 < 16777216 ∧ Canonical d ∧ d.hbm.retiring = [(5, 16777215, true)] ∧ freeEntry d 5 = some 0 ∧ retiredAt d 5 16777215 = none ∧
     regions d = [] ∧ d.mem = []) ∧
    (7200 < rateSum {} 7 7201 ∧ bits 12 0 (7200 : Word).toNat = 7200 ∧ bits 12 0 (7201 : Word).toNat = 7201) ∧
    (let d := regs [(oHbmRegion 0, 1 + 1 * 2)] {}
     Canonical d ∧ fbit d (oHbmRegion 0) fHbmRegionEnable = true ∧ fbit d (oHbmRegion 7) fHbmRegionEnable = false ∧
     regionRefused d 7 (bits 6 1 (bits 12 0 (3 : Word).toNat)) (bits 12 7 (bits 12 0 (3 : Word).toNat)) = true ∧
     regionRefused d 7 (bits 6 1 (bits 12 0 (5 : Word).toNat)) (bits 12 7 (bits 12 0 (5 : Word).toNat)) = false) := by
  unfold Canonical
  try dsimp only
  repeat' apply And.intro
  all_goals decide +kernel

/-- A region beside another is enabled, one that meets it is not (R404). -/
theorem test_regions :
    let d := regs [(oHbmRegion 0, 1 + 1 * 2)] {}
    see (exec (.hbmRegionWrite 7 5) (st d)) (fun d => fbit d (oHbmRegion 7) fHbmRegionEnable) = some true ∧
    see (exec (.hbmRegionWrite 7 3) (st d)) (fun d => (fbit d (oHbmRegion 7) fHbmRegionEnable, fbit d oHbmCtrl fHbmCtrlRegionErr)) = some (false, true) := by
  decide +kernel

end Sys2Proof.Tests
end

section
/-! Links come up: what the operations over a link's state, routes and TIME leave of the links' own registers, and O40. -/

namespace Sys2Proof.Machine

/-! ## The registers of the links -/

/-- LINK_CTRL, LINK_STATUS and the error counts of the 48 links, memory and the commands are in e as in d; registers that were in
order still are. -/
structure LinkRegsKept (d e : Device) : Prop where
  regs : ∀ o, 0x12400 ≤ o → o < 0x12700 → rget e o = rget d o
  rising : Rising d.regs → Rising e.regs
  mem : e.mem = d.mem
  cmds : e.cmds = d.cmds

/-- Beside that, nothing leaves the device and no link's traffic changes. -/
structure LinksQuiet (d e : Device) : Prop extends LinkRegsKept d e where
  out : e.out = d.out
  links : e.links = d.links

theorem LinkRegsKept.refl (d : Device) : LinkRegsKept d d := ⟨fun _ _ _ => rfl, id, rfl, rfl⟩

theorem LinkRegsKept.trans {d e f : Device} (h : LinkRegsKept d e) (k : LinkRegsKept e f) : LinkRegsKept d f :=
  ⟨fun o h1 h2 => (k.regs o h1 h2).trans (h.regs o h1 h2), k.rising ∘ h.rising, k.mem.trans h.mem, k.cmds.trans h.cmds⟩

theorem LinkRegsKept.ite {b : Prop} [Decidable b] {d e f : Device} (h : LinkRegsKept d e) (k : LinkRegsKept d f) :
    LinkRegsKept d (if b then e else f) := by split <;> assumption

theorem LinkRegsKept.foldl {α : Type} (f : Device → α → Device) (hf : ∀ d x, LinkRegsKept d (f d x)) (l : List α) (d : Device) :
    LinkRegsKept d (l.foldl f d) := by
  induction l generalizing d with
  | nil => exact .refl d
  | cons x r ih => exact (hf d x).trans (ih _)

theorem LinksQuiet.refl (d : Device) : LinksQuiet d d := ⟨.refl d, rfl, rfl⟩

theorem LinksQuiet.trans {d e f : Device} (h : LinksQuiet d e) (k : LinksQuiet e f) : LinksQuiet d f :=
  ⟨h.toLinkRegsKept.trans k.toLinkRegsKept, k.out.trans h.out, k.links.trans h.links⟩

theorem LinksQuiet.ite {b : Prop} [Decidable b] {d e f : Device} (h : LinksQuiet d e) (k : LinksQuiet d f) :
    LinksQuiet d (if b then e else f) := by split <;> assumption

/-- A change that leaves registers, variant, straps, memory and commands. -/
theorem LinkRegsKept.congr {d e : Device} (h1 : e.regs = d.regs := by rfl) (h2 : e.variant = d.variant := by rfl)
    (h3 : e.straps = d.straps := by rfl) (h4 : e.mem = d.mem := by rfl) (h5 : e.cmds = d.cmds := by rfl) : LinkRegsKept d e :=
  ⟨fun o _ _ => rget_congr h1 h2 h3 o, fun h => h1 ▸ h, h4, h5⟩

theorem rput_linksQuiet (off : Nat) (w : Word) (d : Device) (h : off < 0x12400 ∨ 0x12700 ≤ off) : LinksQuiet d (rput off w d) :=
  ⟨⟨fun o _ _ => rget_rput_ne _ _ _ _ (by omega), rput_rising off w d, rfl, rfl⟩, rfl, rfl⟩

theorem fput_linksQuiet (off : Nat) (f : Fld) (v : Nat) (d : Device) (h : off < 0x12400 ∨ 0x12700 ≤ off) :
    LinksQuiet d (fput off f v d) := rput_linksQuiet _ _ d h

theorem rem_linksQuiet (r : Remote) (d : Device) : LinksQuiet d { d with rem := r } := ⟨.congr, rfl, rfl⟩
theorem jnl_linksQuiet (j : Jnl) (d : Device) : LinksQuiet d { d with jnl := j } := ⟨.congr, rfl, rfl⟩
theorem drawFree_linksQuiet (d : Device) : LinksQuiet d (drawFree d).2 := ⟨.congr, rfl, rfl⟩
theorem setLink_linkRegsKept (l : Nat) (x : Link) (d : Device) : LinkRegsKept d (setLink l x d) := .congr
theorem emit_linkRegsKept (o : Out) (d : Device) : LinkRegsKept d (emit o d) := .congr

/-! ## The state of a link -/

/-- A link's registers read the same in both. -/
theorem LinkRegsKept.linkState {d e : Device} (h : LinkRegsKept d e) {l : Nat} (hl : l < 48) : linkState e l = linkState d l := by
  simp only [Machine.linkState, fget, h.regs (oLinkStatus l) (by unfold oLinkStatus; omega) (by unfold oLinkStatus; omega)]

theorem LinkRegsKept.linkCtrl {d e : Device} (h : LinkRegsKept d e) {l : Nat} (hl : l < 48) (f : Fld) :
    fget e (oLinkCtrl l) f = fget d (oLinkCtrl l) f := by
  simp only [fget, h.regs (oLinkCtrl l) (by unfold oLinkCtrl; omega) (by unfold oLinkCtrl; omega)]

theorem linkState_setState_same {l v : Nat} {d : Device} (h : Rising d.regs) (hv : v < 8) : linkState (setState l v d) l = v :=
  (fget_fput_same _ fLinkStatusState v d h (by decide) (by decide)).trans (Nat.mod_eq_of_lt hv)

theorem linkState_setState_ne {l k : Nat} (v : Nat) (d : Device) (h : k ≠ l) : linkState (setState l v d) k = linkState d k :=
  fget_fput_ne _ _ _ _ _ _ (by unfold oLinkStatus; omega)

theorem linkCtrl_setState (l k v : Nat) (f : Fld) (d : Device) : fget (setState l v d) (oLinkCtrl k) f = fget d (oLinkCtrl k) f :=
  fget_fput_ne _ _ _ _ _ _ (by unfold oLinkStatus oLinkCtrl; omega)

theorem linkState_fput_linkCtrl (l k : Nat) (f : Fld) (v : Nat) (d : Device) :
    linkState (fput (oLinkCtrl l) f v d) k = linkState d k := fget_fput_ne _ _ _ _ _ _ (by unfold oLinkStatus oLinkCtrl; omega)

theorem freshLink_linkRegsKept (l : Nat) (d : Device) : LinkRegsKept d (freshLink l d) := setLink_linkRegsKept _ _ d

/-! ## The journal and TIME -/

theorem journal_linksQuiet (t : Nat) (bs : List Byte) (d : Device) : LinksQuiet d (journal t bs d) := by
  unfold journal; split
  · exact (jnl_linksQuiet _ d).trans (fput_linksQuiet oJnlNextSeq _ _ _ (by decide))
  · exact (jnl_linksQuiet _ d).trans (fput_linksQuiet oJnlDrops _ _ _ (by decide))

theorem journal_rem (t : Nat) (bs : List Byte) (d : Device) : (journal t bs d).rem = d.rem := by
  unfold journal; split <;> rfl

/-- A field set with its CONFIG record is, to the links, the field set. -/
theorem fputConfig_linksQuiet (base off : Nat) (f : Fld) (v : Nat) (d : Device) :
    LinksQuiet (fput off f v d) (fputConfig base off f v d) := by
  unfold fputConfig
  exact .ite (.refl _) (journal_linksQuiet _ _ _)

theorem hyTime_linksQuiet (aligned m hops : Nat) (d : Device) :
    LinksQuiet d (fput oHyTime fHyTimeAligned aligned (fput oHyTime fHyTimeMaster m (fput oHyTime fHyTimeHops hops d))) :=
  have h (f : Fld) (v : Nat) (d : Device) := fput_linksQuiet oHyTime f v d (by decide)
  ((h fHyTimeHops hops d).trans (h fHyTimeMaster m _)).trans (h fHyTimeAligned aligned _)

theorem alignTo_linksQuiet (m hops : Nat) (z : Int) (d : Device) : LinksQuiet d (alignTo m hops z d) := by
  refine (hyTime_linksQuiet 1 m hops d).trans ?_
  unfold alignTo
  exact .ite ⟨.congr, rfl, rfl⟩ ⟨.congr, rfl, rfl⟩

/-- The alignment of TIME leaves links and their traffic (R424 to R426). -/
theorem alignBy_linksQuiet (l : Nat) (xs : List (Int × Int × Int × Int)) (b : Option Int) (d : Device) :
    LinksQuiet d (alignBy l xs b d) := by
  unfold alignBy
  refine .ite (.refl d) ((drawFree_linksQuiet d).trans ?_)
  simp only []
  split
  · exact hyTime_linksQuiet 0 _ 0 _
  · exact .ite (alignTo_linksQuiet _ _ _ _) (.refl _)
  · exact alignTo_linksQuiet _ _ _ _
  · exact .refl _

theorem alignTo_rem (m hops : Nat) (z : Int) (d : Device) : (alignTo m hops z d).rem = d.rem := by
  unfold alignTo; simp only []; split <;> rfl

theorem alignBy_rem (l : Nat) (xs : List (Int × Int × Int × Int)) (b : Option Int) (d : Device) :
    (alignBy l xs b d).rem = d.rem := by
  unfold alignBy
  simp only []
  split
  · rfl
  · split
    · rfl
    · split
      · exact alignTo_rem _ _ _ _
      · rfl
    · exact alignTo_rem _ _ _ _
    · rfl

/-! ## UP -/

theorem standIns_linksQuiet (d : Device) : LinksQuiet d (standIns d) :=
  (fput_linksQuiet (oSpareCfg 0) _ _ d (by decide)).trans (fput_linksQuiet (oSpareCfg 1) _ _ _ (by decide))

theorem setRoute_linksQuiet (l k : Nat) (d : Device) : LinksQuiet d (setRoute l k d) :=
  (rem_linksQuiet _ d).trans (standIns_linksQuiet _)

/-- Without moved traffic and waiting packets there is nothing to route anew. -/
theorem flushLinks_routesAnew_none {d : Device} (hr : d.rem.routes = []) (hw : ∀ e ∈ d.links, e.2.waiting = []) :
    flushLinks (routesAnew d) = d := by
  have hd : routesAnew d = d := by simp [routesAnew, hr]
  rw [hd, flushLinks, List.filter_eq_nil_iff.mpr fun e he => by simp [hw e he]]
  rfl

/-- A link that comes UP and leaves no traffic moved, while no packet waits, changes nothing of the links beyond its own state
(R422, R437). -/
theorem goUp_linksQuiet {l : Nat} {d : Device} (hr : tabSet 49 l 49 d.rem.routes = []) (hw : ∀ e ∈ d.links, e.2.waiting = []) :
    LinksQuiet (setState l lkUp d) (goUp l d) ∧ (goUp l d).rem.routes = [] := by
  have hset := setRoute_linksQuiet l 49 (setState l lkUp d)
  have hrs : (setRoute l 49 (setState l lkUp d)).rem.routes = [] := hr
  unfold goUp
  simp only []
  split
  · have hj := hset.trans (journal_linksQuiet 0x0013 (leBytes 4 (tabGet 49 l (setState l lkUp d).rem.routes) ++ leBytes 4 l) _)
    rw [flushLinks_routesAnew_none (by rw [journal_rem, hrs]) (by rw [hj.links]; exact hw)]
    exact ⟨hj, by rw [journal_rem, hrs]⟩
  · rw [flushLinks_routesAnew_none hrs hw]
    exact ⟨hset, hrs⟩

/-! ## Traffic that takes another way -/

theorem perfUnit_linkRegsKept (n : Nat) (ctl cnt hi : Nat → Nat) (ev : Nat) (part : Option Nat) (k : Nat) (d : Device)
    (hctl : ∀ i, 0x12700 ≤ ctl i) (hcnt : ∀ i, 0x12700 ≤ cnt i) (hhi : ∀ i, 0x12700 ≤ hi i) :
    LinkRegsKept d (perfUnit n ctl cnt hi ev part k d) := by
  have hput (o : Nat) (w : Word) (d : Device) (h : 0x12700 ≤ o) := (rput_linksQuiet o w d (.inr h)).toLinkRegsKept
  unfold perfUnit
  refine .foldl _ (fun d i => ?_) _ d
  refine .ite (LinkRegsKept.trans ?_ (.ite (hput _ _ _ (hctl i)) (.refl _))) (.refl d)
  exact (hput _ _ d (hhi i)).trans (hput _ _ _ (hcnt i))

theorem perfOne_linkRegsKept (u ev : Nat) (part : Option Nat) (k : Nat) (d : Device) : LinkRegsKept d (perfOne u ev part k d) :=
  perfUnit_linkRegsKept _ _ _ _ _ _ _ _ (fun i => by unfold oUnitCtl; omega) (fun i => by unfold oUnitCnt; omega)
    (fun i => by unfold oUnitCntHi; omega)

theorem transmit_linkRegsKept (l : Nat) (p : Packet) (d : Device) : LinkRegsKept d (transmit l p d) := by
  unfold transmit
  exact .ite (((setLink_linkRegsKept _ _ d).trans (emit_linkRegsKept _ _)).trans (perfOne_linkRegsKept _ _ _ _ _))
    (setLink_linkRegsKept _ _ d)

theorem routeSend_linkRegsKept (p : Packet) (d : Device) : LinkRegsKept d (routeSend p d) := by
  unfold routeSend
  split
  · exact transmit_linkRegsKept _ _ _
  · split
    · exact setLink_linkRegsKept _ _ d
    · exact .refl d

theorem flushWaiting_linkRegsKept (l : Nat) (d : Device) : LinkRegsKept d (flushWaiting l d) :=
  (setLink_linkRegsKept _ _ d).trans (.foldl _ (fun d p => routeSend_linkRegsKept p d) _ _)

theorem divert_linkRegsKept (l : Nat) (d : Device) : LinkRegsKept d (divert l d) :=
  (setLink_linkRegsKept _ _ d).trans (flushWaiting_linkRegsKept l _)

theorem alignLost_linkRegsKept (d : Device) : LinkRegsKept d (alignLost d) := by
  unfold alignLost
  refine .ite ((drawFree_linksQuiet d).toLinkRegsKept.trans ?_) (.refl d)
  simp only []
  split
  · exact (hyTime_linksQuiet _ _ _ _).toLinkRegsKept
  · exact (fput_linksQuiet oHyTime _ _ _ (by decide)).toLinkRegsKept

/-- A new route without an event. -/
theorem rerouteOne_linkRegsKept (l : Nat) (d : Device) : LinkRegsKept d (rerouteOne false l d) := by
  unfold rerouteOne
  simp only [Bool.false_eq_true, if_false]
  exact ((drawFree_linksQuiet d).trans (setRoute_linksQuiet l _ _)).toLinkRegsKept

/-- Traffic that takes new routes without an event leaves the links' states (R437). -/
theorem reroute_linkRegsKept (l : Nat) (d : Device) : LinkRegsKept d (reroute false l d) := by
  have h1 : LinkRegsKept d (if 46 ≤ l then d else rerouteOne false l d) := .ite (.refl d) (rerouteOne_linkRegsKept l d)
  have h2 := LinkRegsKept.foldl _ (fun d k => rerouteOne_linkRegsKept k d) (carried d l) (if 46 ≤ l then d else rerouteOne false l d)
  exact ((h1.trans h2).trans (alignLost_linkRegsKept _)).trans (divert_linkRegsKept l _)

/-! ## The commands of training (R421 to R423, R437) -/

/-- ENABLE of a link that is off: it trains, with RESET at 0, and nothing leaves (R422, R423). -/
theorem linkEnable_trains {l : Nat} {d : Device} (hl : l < 48) (hr : Rising d.regs)
    (hset : fbit d oDeviceId fDeviceIdDomainSet = true) (hoff : fbit d (oLinkCtrl l) fLinkCtrlEnable = false) :
    let e := linkEnable l d
    linkState e l = lkTraining ∧ fbit e (oLinkCtrl l) fLinkCtrlEnable = true ∧ fbit e (oLinkCtrl l) fLinkCtrlReset = false ∧
      (∀ k < 48, k ≠ l → linkState e k = linkState d k) ∧ e.mem = d.mem ∧ e.cmds = d.cmds ∧ e.out = d.out := by
  obtain ⟨d2, hq, he⟩ : ∃ d2, LinksQuiet (fput (oLinkCtrl l) fLinkCtrlEnable 1 d) d2 ∧
      linkEnable l d = setState l lkTraining (freshLink l (fput (oLinkCtrl l) fLinkCtrlReset 0 d2)) :=
    ⟨_, fputConfig_linksQuiet 0x12000 _ _ _ _, by simp [linkEnable, hset, hoff]⟩
  have h2 : Rising d2.regs := hq.rising (fput_rising _ _ _ d hr)
  rw [he]
  refine ⟨linkState_setState_same (fput_rising (oLinkCtrl l) fLinkCtrlReset 0 d2 h2) (by decide), ?_, ?_, fun k hk hne => ?_, hq.mem,
    hq.cmds, hq.out⟩
  · have hen : fget (fput (oLinkCtrl l) fLinkCtrlReset 0 d2) (oLinkCtrl l) fLinkCtrlEnable = 1 :=
      calc _ = fget d2 (oLinkCtrl l) fLinkCtrlEnable := fget_fput_other _ _ _ _ _ h2 (by decide) (by decide) (by decide)
        _ = fget (fput (oLinkCtrl l) fLinkCtrlEnable 1 d) (oLinkCtrl l) fLinkCtrlEnable := hq.linkCtrl hl _
        _ = 1 := fget_fput_same _ fLinkCtrlEnable 1 d hr (by decide) (by decide)
    exact decide_eq_true ((linkCtrl_setState _ _ _ _ _).trans hen)
  · have hre : fget (freshLink l (fput (oLinkCtrl l) fLinkCtrlReset 0 d2)) (oLinkCtrl l) fLinkCtrlReset = 0 :=
      fget_fput_same _ fLinkCtrlReset 0 d2 h2 (by decide) (by decide)
    rw [fbit, linkCtrl_setState, hre]
    rfl
  · calc _ = linkState (fput (oLinkCtrl l) fLinkCtrlReset 0 d2) k := linkState_setState_ne _ _ hne
      _ = linkState d2 k := linkState_fput_linkCtrl _ _ _ _ _
      _ = linkState (fput (oLinkCtrl l) fLinkCtrlEnable 1 d) k := hq.linkState hk
      _ = linkState d k := linkState_fput_linkCtrl _ _ _ _ _

theorem farEnd_fput_linkStatus {l : Nat} (hl : l < 48) (k : Nat) (f : Fld) (v : Nat) (d : Device) :
    farEnd (fput (oLinkStatus k) f v d) l = farEnd d l := by
  have h1 (g : Fld) : fget (fput (oLinkStatus k) f v d) oDeviceId g = fget d oDeviceId g :=
    fget_fput_ne _ _ _ _ _ _ (by unfold oLinkStatus oDeviceId; omega)
  have h2 (g : Fld) : fget (fput (oLinkStatus k) f v d) (oSpareCfg (l - 46)) g = fget d (oSpareCfg (l - 46)) g :=
    fget_fput_ne _ _ _ _ _ _ (by unfold oLinkStatus oSpareCfg; omega)
  rw [farEnd, farEnd, ownDev, h1, h1, h2, h2]
  rfl

/-- An identity that R420 gives the link is noted, any other makes it MISCABLED (R421). -/
theorem ident_aligning {l : Nat} {d : Device} (hl : l < 48) (dev k : Nat) (h : linkState d l = lkAligning) :
    ident l dev k d =
      let e := fput (oLinkStatus l) fLinkStatusPeerDev dev (fput (oLinkStatus l) fLinkStatusPeerLink k d)
      if farEnd d l = some (dev, k) then setLink l { linkOf d l with identOk := true } e else setState l lkMiscabled e := by
  simp only [ident, h, if_true, farEnd_fput_linkStatus hl]
  rfl

/-- A link that comes UP so is UP, the others keep their states, and nothing leaves (R422, R437). -/
theorem goUp_result {l : Nat} {d : Device} (hl : l < 48) (hd : Rising d.regs) (hr : tabSet 49 l 49 d.rem.routes = [])
    (hw : ∀ e ∈ d.links, e.2.waiting = []) :
    let e := goUp l d
    linkState e l = lkUp ∧ (∀ k < 48, k ≠ l → linkState e k = linkState d k) ∧ e.rem.routes = [] ∧ e.mem = d.mem ∧ e.cmds = d.cmds ∧
      e.out = d.out := by
  obtain ⟨hq, hroutes⟩ := goUp_linksQuiet hr hw
  exact ⟨(hq.linkState hl).trans (linkState_setState_same hd (by decide)),
    fun k hk hne => (hq.linkState hk).trans (linkState_setState_ne _ _ hne), hroutes, hq.mem, hq.cmds, hq.out⟩

/-- The exchanges of an identified link bring it UP (R422, R425). -/
theorem timeExchange_up {l : Nat} {d : Device} (xs : List (Int × Int × Int × Int)) (b : Option Int) (hl : l < 48) (hd : Rising d.regs)
    (hst : linkState d l = lkAligning) (hid : (linkOf d l).identOk = true) (hr : d.rem.routes = [])
    (hw : ∀ e ∈ d.links, e.2.waiting = []) :
    let e := timeExchange l xs b d
    linkState e l = lkUp ∧ (∀ k < 48, k ≠ l → linkState e k = linkState d k) ∧ e.mem = d.mem ∧ e.cmds = d.cmds ∧ e.out = d.out := by
  have hq := alignBy_linksQuiet l xs b d
  have he : timeExchange l xs b d = goUp l (alignBy l xs b d) := by simp [timeExchange, hst, hid]
  obtain ⟨hup, hothers, -, hmem, hcmds, hout⟩ := goUp_result hl (hq.rising hd)
    (by rw [alignBy_rem, hr]; simp [tabSet]) (by rw [hq.links]; exact hw)
  rw [he]
  exact ⟨hup, fun k hk hne => (hothers k hk hne).trans (hq.linkState hk), hmem.trans hq.mem, hcmds.trans hq.cmds, hout.trans hq.out⟩

/-- RESET of a link that is UP: its traffic goes another way, and it trains (R437). -/
theorem linkReset_up {l : Nat} {d : Device} (hl : l < 48) (hd : Rising d.regs) (hen : fbit d (oLinkCtrl l) fLinkCtrlEnable = true)
    (hup : linkState d l = lkUp) :
    let e := linkReset l d
    linkState e l = lkTraining ∧ e.mem = d.mem ∧ e.cmds = d.cmds := by
  have he : linkReset l d = freshLink l (reroute false l (setState l lkTraining d)) := by simp [linkReset, hen, hup]
  have hk : LinkRegsKept (setState l lkTraining d) (freshLink l (reroute false l (setState l lkTraining d))) :=
    (reroute_linkRegsKept l _).trans (freshLink_linkRegsKept l _)
  rw [he]
  exact ⟨(hk.linkState hl).trans (linkState_setState_same hd (by decide)), hk.mem, hk.cmds⟩

/-- Settles O40: each command of a link's way up does what its own lemma above says; that a reset of a link that is UP leaves its state
rests on reroute_linkRegsKept, and that traffic comes back on goUp_linksQuiet. -/
theorem linksComeUp : Obligations.LinksComeUp := by
  intro s l hl hc
  have hd : Rising s.dev.regs := hc.2.2.2.1
  have hok : linkOk l = true := decide_eq_true hl
  have enable : exec (.linkEnable l) s = .next { s with dev := linkEnable l s.dev } := run_ok _ s hok
  have reset : exec (.linkReset l) s = .next { s with dev := linkReset l s.dev } := run_ok _ s hok
  refine ⟨fun hset => ?_, fun hset hoff => ?_, fun hset hon => ?_, fun htr => ?_, fun dev k hdev hk hal => ?_,
    fun xs b hxs hal hid hr hw => ?_, fun hon hne => ?_, fun hon hup => ?_, fun hoff => ?_, fun k hk hfail hon hr hw => ?_⟩
  · rw [enable, linkEnable, hset]; rfl
  · obtain ⟨hst, hen, hre, hothers, hmem, hcmds, hout⟩ := linkEnable_trains hl hd hset hoff
    exact ⟨_, enable, rfl, hst, hen, hre, hothers, hmem, hcmds, hout⟩
  · rw [enable, linkEnable, hset, hon]; rfl
  · have h : exec (.linkTrained l) s = .next { s with dev := linkTrained l s.dev } := run_ok _ s hok
    rw [h, linkTrained, if_pos htr]
  · have h : exec (.ident l dev k) s = .next { s with dev := ident l dev k s.dev } :=
      run_ok _ s (by simp [Instr.wf, linkOk, devOk, hl, hdev, hk])
    rw [h, ident_aligning hl dev k hal]
    exact ⟨fun hfar => by rw [if_pos hfar], fun hfar => by rw [if_neg hfar]⟩
  · have h : exec (.timeExchange l xs b) s = .next { s with dev := timeExchange l xs b s.dev } :=
      run_ok _ s (by simp [Instr.wf, linkOk, hl, hxs])
    obtain ⟨hup, hothers, hmem, hcmds, hout⟩ := timeExchange_up xs b hl hd hal hid hr hw
    exact ⟨_, h, rfl, hup, hothers, hmem, hcmds, hout⟩
  · rw [reset, linkReset, if_pos hon]
    simp [hne]
  · obtain ⟨hst, hmem, hcmds⟩ := linkReset_up hl hd hon hup
    exact ⟨_, reset, rfl, hst, hmem, hcmds⟩
  · rw [reset, linkReset, hoff]; rfl
  · have h : exec (.linkRestored l) s = .next { s with dev := linkRestored l s.dev } := run_ok _ s hok
    have he : linkRestored l s.dev = goUp l s.dev := if_pos ⟨hfail, hon⟩
    obtain ⟨hup, -, hroutes, hmem, hcmds, hout⟩ := goUp_result hl hd (by rw [hr]; simp [tabSet]) hw
    exact ⟨_, h, rfl, he ▸ hup, he ▸ hroutes, he ▸ hmem, he ▸ hcmds, he ▸ hout⟩

end Sys2Proof.Machine
end

section
/-! Scale channels: what a channel reads once it is initialised, and O33. -/

namespace Sys2Proof.Machine

/-! ## History entries (R142) -/

/-- Words put into the first n history registers: each reads back, and every other register is as before. -/
theorem rget_foldl_scHist (ch : Nat) (w : Nat → Word) (d : Device) (h : Rising d.regs) (n : Nat) :
    let e := (List.range n).foldl (fun d k => rput (oScHist ch k) (w k) d) d
    Rising e.regs ∧ (∀ k < n, rget e (oScHist ch k) = w k) ∧ ∀ off, (∀ k < n, off ≠ oScHist ch k) → rget e off = rget d off := by
  induction n with
  | zero => exact ⟨h, fun k hk => absurd hk (by omega), fun _ _ => rfl⟩
  | succ n ih =>
    obtain ⟨hr, hin, hout⟩ := ih
    simp only [List.range_succ, List.foldl_append, List.foldl_cons, List.foldl_nil]
    refine ⟨rput_rising _ _ _ hr, fun k hk => ?_, fun off ho => ?_⟩
    · rcases Nat.lt_succ_iff_lt_or_eq.1 hk with hlt | rfl
      · rw [rget_rput_ne _ _ _ _ (by unfold oScHist; omega), hin k hlt]
      · exact rget_rput_same _ _ _ hr
    · rw [rget_rput_ne _ _ _ _ (ho n (by omega)), hout off fun k hk => ho k (by omega)]

theorem setHist_rising (ch : Nat) (l : List Nat) (d : Device) (h : Rising d.regs) : Rising (setHist ch l d).regs :=
  (rget_foldl_scHist ch _ d h 8).1

/-- A register that is no history register of the channel is left by them. -/
theorem rget_setHist_ne (ch : Nat) (l : List Nat) (d : Device) (h : Rising d.regs) {off : Nat} (ho : ∀ k < 8, off ≠ oScHist ch k) :
    rget (setHist ch l d) off = rget d off := (rget_foldl_scHist ch _ d h 8).2.2 off ho

/-- The two halves of a register of two history entries. -/
theorem bits_of_halves {a b : Nat} (ha : a < 2 ^ 16) (hb : b < 2 ^ 16) :
    bits 15 0 (BitVec.ofNat 32 (a + 2 ^ 16 * b)).toNat = a ∧ bits 31 16 (BitVec.ofNat 32 (a + 2 ^ 16 * b)).toNat = b := by
  rw [BitVec.toNat_ofNat]
  simp only [bits]
  omega

/-- The entries set read as set: entry k is half k mod 2 of register k / 2. -/
theorem scHist_setHist (ch : Nat) (l : List Nat) (d : Device) (h : Rising d.regs) (hl : ∀ k, l.getD k 0 < 2 ^ 16) {k : Nat}
    (hk : k < 16) : scHist (setHist ch l d) ch k = l.getD k 0 := by
  obtain ⟨hlo, hhi⟩ := bits_of_halves (hl (2 * (k / 2))) (hl (2 * (k / 2) + 1))
  rw [scHist, show rget (setHist ch l d) (oScHist ch (k / 2)) = _ from (rget_foldl_scHist ch _ d h 8).2.1 (k / 2) (by omega)]
  rcases Nat.mod_two_eq_zero_or_one k with he | he
  · rw [he]
    exact hlo.trans (by rw [show 2 * (k / 2) = k by omega])
  · rw [he]
    exact hhi.trans (by rw [show 2 * (k / 2) + 1 = k by omega])

/-- They change registers alone. -/
theorem setHist_frame (ch : Nat) (l : List Nat) (d : Device) : ∃ r, setHist ch l d = { d with regs := r } := by
  unfold setHist
  induction List.range 8 generalizing d with
  | nil => exact ⟨d.regs, rfl⟩
  | cons k ks ih =>
    obtain ⟨r, hr⟩ := ih (rput (oScHist ch k) _ d)
    exact ⟨r, hr⟩

/-! ## The initialised channel (R141, R142) -/

/-- What ENABLE from 0 to 1 does beside the write of SC_CTRL; scEnable_eq ties it to the model. -/
def initChan (ch : Nat) (d : Device) : Device :=
  setSc ch {} (fput (oScStatus ch) fScStatusUnderRun 0 (fput (oScState ch) fScStateCurMax 0 (rput (oScClipped ch) 0
    (rput (oScEvents ch) 0 (setHist ch (List.replicate 16 (fget d (oScInit ch) fScInitInitMax)) d)))))

/-- SC_CTRL as a write of v leaves it: a POLICY of 3 leaves that field (R12). -/
def ctrlWord (d : Device) (ch : Nat) (v : Word) : Word :=
  let pol := if bits 2 1 v.toNat = 3 then fget d (oScCtrl ch) fScCtrlPolicy else bits 2 1 v.toNat
  BitVec.ofNat 32 (setBits 2 1 pol (bits 16 0 v.toNat))

theorem scEnable_eq (ch : Nat) (v : Word) (d : Device) :
    scEnable ch v d = if (bit 0 v.toNat && !fbit d (oScCtrl ch) fScCtrlEnable) = true
      then initChan ch (rput (oScCtrl ch) (ctrlWord d ch v) d) else rput (oScCtrl ch) (ctrlWord d ch v) d := rfl

theorem initChan_frame (ch : Nat) (d : Device) : ∃ r x, initChan ch d = { d with regs := r, scs := x } := by
  obtain ⟨r, hr⟩ := setHist_frame ch (List.replicate 16 (fget d (oScInit ch) fScInitInitMax)) d
  exact ⟨_, _, by rw [initChan, hr]; rfl⟩

theorem rget_setSc (k off : Nat) (x : ScRt) (d : Device) : rget (setSc k x d) off = rget d off := rfl

section
variable (ch : Nat) (d : Device) (h : Rising d.regs)
include h

/-- SC_CTRL and every register outside the channel are left. -/
theorem rget_initChan_ne {off : Nat} (ho : off ≤ oScCtrl ch ∨ oScCtrl (ch + 1) ≤ off) : rget (initChan ch d) off = rget d off := by
  have hhist : ∀ k < 8, off ≠ oScHist ch k := by
    simp only [oScCtrl, oScHist] at *
    omega
  have hne : off ≠ oScStatus ch ∧ off ≠ oScState ch ∧ off ≠ oScClipped ch ∧ off ≠ oScEvents ch := by
    simp only [oScCtrl, oScStatus, oScState, oScClipped, oScEvents] at *
    omega
  obtain ⟨h1, h2, h3, h4⟩ := hne
  rw [initChan, rget_setSc, rget_fput_ne _ _ _ _ _ h1, rget_fput_ne _ _ _ _ _ h2, rget_rput_ne _ _ _ _ h3, rget_rput_ne _ _ _ _ h4,
    rget_setHist_ne ch _ d h hhist]

theorem scHist_initChan {k : Nat} (hk : k < 16) : scHist (initChan ch d) ch k = fget d (oScInit ch) fScInitInitMax := by
  have hm (j : Nat) : (List.replicate 16 (fget d (oScInit ch) fScInitInitMax)).getD j 0 =
      if j < 16 then fget d (oScInit ch) fScInitInitMax else 0 := by
    rw [List.getD_eq_getElem?_getD, List.getElem?_replicate]
    split <;> rfl
  have hlt : fget d (oScInit ch) fScInitInitMax < 2 ^ 16 := bits_lt _ _ _
  have he : scHist (initChan ch d) ch k = scHist (setHist ch (List.replicate 16 (fget d (oScInit ch) fScInitInitMax)) d) ch k := by
    unfold scHist initChan
    rw [rget_setSc, rget_fput_ne, rget_fput_ne, rget_rput_ne, rget_rput_ne] <;>
      (simp only [oScHist, oScStatus, oScState, oScClipped, oScEvents]; omega)
  rw [he, scHist_setHist ch _ d h (fun j => by rw [hm]; split <;> omega) hk, hm, if_pos hk]

/-- The registers that it clears. -/
theorem initChan_cleared :
    fget (initChan ch d) (oScState ch) fScStateCurMax = 0 ∧ rget (initChan ch d) (oScClipped ch) = 0 ∧
      rget (initChan ch d) (oScEvents ch) = 0 ∧ fget (initChan ch d) (oScStatus ch) fScStatusUnderRun = 0 := by
  have h1 := setHist_rising ch (List.replicate 16 (fget d (oScInit ch) fScInitInitMax)) d h
  have h2 := rput_rising (oScEvents ch) 0 _ h1
  have h3 := rput_rising (oScClipped ch) 0 _ h2
  have h4 := fput_rising (oScState ch) fScStateCurMax 0 _ h3
  have hne1 : oScState ch ≠ oScStatus ch := by simp only [oScState, oScStatus]; omega
  have hne2 : oScClipped ch ≠ oScStatus ch ∧ oScClipped ch ≠ oScState ch := by simp only [oScClipped, oScState, oScStatus]; omega
  have hne3 : oScEvents ch ≠ oScStatus ch ∧ oScEvents ch ≠ oScState ch ∧ oScEvents ch ≠ oScClipped ch := by
    simp only [oScEvents, oScClipped, oScState, oScStatus]; omega
  unfold initChan
  refine ⟨?_, ?_, ?_, ?_⟩
  · rw [fget, rget_setSc, rget_fput_ne _ _ _ _ _ hne1]
    exact fget_fput_same _ fScStateCurMax 0 _ h3 (by decide) (by decide)
  · rw [rget_setSc, rget_fput_ne _ _ _ _ _ hne2.1, rget_fput_ne _ _ _ _ _ hne2.2, rget_rput_same _ _ _ h2]
  · rw [rget_setSc, rget_fput_ne _ _ _ _ _ hne3.1, rget_fput_ne _ _ _ _ _ hne3.2.1, rget_rput_ne _ _ _ _ hne3.2.2,
      rget_rput_same _ _ _ h1]
  · rw [fget, rget_setSc]
    exact fget_fput_same _ fScStatusUnderRun 0 _ h4 (by decide) (by decide)

end

theorem scs_initChan (ch : Nat) (d : Device) : (initChan ch d).scs = tabSet {} ch {} d.scs := by
  obtain ⟨r, hr⟩ := setHist_frame ch (List.replicate 16 (fget d (oScInit ch) fScInitInitMax)) d
  rw [initChan, hr]
  rfl

/-- No step of the channel is open, and the other channels' steps are as they were. -/
theorem scOf_initChan (ch : Nat) (d : Device) (h : Rising d.scs) :
    scOf (initChan ch d) ch = {} ∧ ∀ k, k ≠ ch → scOf (initChan ch d) k = scOf d k := by
  simp only [scOf, scs_initChan]
  exact ⟨tabGet_tabSet_same _ _ _ _ h, fun k hk => tabGet_tabSet_ne _ _ _ _ _ _ hk⟩

/-- Settles O33: a write that enables is initChan after the write of SC_CTRL (scEnable_eq), whose registers and step the lemmas above
give; any other is the write of SC_CTRL. -/
theorem scaleChannelInitialised : Obligations.ScaleChannelInitialised := by
  intro s ch v hch hc
  have hr : Rising s.dev.regs := hc.2.2.2.1
  have hs : Rising s.dev.scs := hc.2.2.2.2.2.2.1
  have hex : exec (.scEnable ch v) s = .next { s with dev := scEnable ch v s.dev } := run_ok _ s (decide_eq_true hch)
  refine ⟨fun hon hoff => ?_, fun hno => ?_⟩
  · let d := rput (oScCtrl ch) (ctrlWord s.dev ch v) s.dev
    have hd : Rising d.regs := rput_rising _ _ _ hr
    have he : scEnable ch v s.dev = initChan ch d := by rw [scEnable_eq, hon, hoff]; rfl
    have hne (o : Nat) (ho : o ≠ oScCtrl ch) : rget d o = rget s.dev o := rget_rput_ne _ _ _ _ ho
    have hinit : fget d (oScInit ch) fScInitInitMax = fget s.dev (oScInit ch) fScInitInitMax := by
      rw [fget, hne _ (by simp only [oScInit, oScCtrl]; omega)]; rfl
    obtain ⟨r, x, hf⟩ := initChan_frame ch d
    have hf' : initChan ch d = { s.dev with regs := r, scs := x } := hf
    obtain ⟨hcur, hclip, hev, hrun⟩ := initChan_cleared ch d hd
    obtain ⟨hsame, hother⟩ := scOf_initChan ch d hs
    refine ⟨r, x, by rw [hex, he, hf'], ?_⟩
    rw [← hf']
    refine ⟨?_, fun k hk => (scHist_initChan ch d hd hk).trans hinit, hcur, hclip, hev, hrun, hsame, hother, fun off ho => ?_⟩
    · rw [rget_initChan_ne ch d hd (.inl (Nat.le_refl _))]
      exact rget_rput_same _ _ _ hr
    · rw [rget_initChan_ne ch d hd (ho.imp_left Nat.le_of_lt), hne off (by simp only [oScCtrl] at ho ⊢; omega)]
  · have he : (bit 0 v.toNat && !fbit s.dev (oScCtrl ch) fScCtrlEnable) = false := by
      rcases hno with h | h <;> simp [h]
    rw [hex, scEnable_eq, he]
    rfl

end Sys2Proof.Machine
end

section
/-! Active/standby pairs: what a pair packet and a write of PAIR_CTRL leave, and O45. -/

namespace Sys2Proof.Machine

/-! ## A pair packet arrives (R467) -/

@[simp] theorem pairHeard_pins (d : Device) : (pairHeard d).pins = d.pins := by unfold pairHeard; split <;> rfl
@[simp] theorem pairHeard_pair (d : Device) : (pairHeard d).pair = d.pair := by unfold pairHeard; split <;> rfl
@[simp] theorem pairHeard_out (d : Device) : (pairHeard d).out = d.out := by unfold pairHeard; split <;> rfl
@[simp] theorem pairHeard_mem (d : Device) : (pairHeard d).mem = d.mem := by unfold pairHeard; split <;> rfl

@[simp] theorem ownSlot_pairHeard (d : Device) : ownSlot (pairHeard d) = ownSlot d := by
  unfold pairHeard; split
  · exact fget_fput_ne _ _ _ _ _ _ (by decide)
  · rfl

/-- It sets LINKS_OK beside ROLE. -/
theorem role_pairHeard {d : Device} (h : Rising d.regs) : role (pairHeard d) = role d := by
  unfold pairHeard; split
  · exact fget_fput_other _ _ _ _ _ h (by decide) (by decide) (by decide)
  · rfl

/-! ## A write of PAIR_CTRL (R461, R603) -/

/-- A register set with its CONFIG record is a report. -/
theorem rputConfig_reported (base off : Nat) (w : Word) (d : Device) : Reported d (rputConfig base off w d) :=
  .ite (.refl d) ((rput_reported off w d).trans (journal_reported _ _ _))

/-- Bits 5 and 6 of a word without SWITCHOVER and REJOIN. -/
theorem bit_eq_false_of_bits {w : Nat} (h : bits 6 5 w = 0) : bit 5 w = false ∧ bit 6 w = false := by
  simp only [bits, bit, decide_eq_false_iff_not] at h ⊢
  omega

/-- Without SWITCHOVER and REJOIN a write sets PAIR_EN and PEER_SLOT, and joins or leaves the pair; while SAFETY_LOCK is set it is
counted only (R461, R603; log 43). -/
theorem pairCtrlWrite_plain {v : Word} (q : Bool) (s : Device) (h : bits 6 5 v.toNat = 0) :
    pairCtrlWrite v q s =
      let d := rputConfig 0xA000 oPairCtrl (BitVec.ofNat 32 (setBits 4 0 (bits 4 0 v.toNat) (rget s oPairCtrl).toNat)) s
      if fbit s oLock fLockSafetyLock then fsat oLockedWrites fLockedWritesCount 1 s
      else flushLinks (pairTraffic (if bit 0 v.toNat && !pairEn s then joinPair q d
        else if !bit 0 v.toNat && pairEn s then leavePair d else d)) := by
  obtain ⟨h5, h6⟩ := bit_eq_false_of_bits h
  simp only [pairCtrlWrite, h5, h6, Bool.false_eq_true, if_false]

/-- Steps 1 and 2 of R461 while FENCE_IN is released. -/
theorem joinPair_unfenced (q : Bool) {d : Device} (h : d.pins.fenceIn = false) :
    joinPair q d = if q then becomeStandby d
      else if d.straps.role then becomeActive { d with pair := { d.pair with holdoff := false } }
      else { d with pair := { d.pair with holdoff := true } } := by
  simp [joinPair, secondSample, h]

/-! ## FENCE_IN (R470) -/

/-- Its release lets a REJOIN that waits on a fenced device act. -/
theorem fenceIn_released (d : Device) :
    fenceIn false d =
      let e := { d with pins := { d.pins with fenceIn := false } }
      if fbit d oPairCtrl fPairCtrlRejoin = true ∧ role d = roleFenced then becomeStandby (fput oPairCtrl fPairCtrlRejoin 0 e) else e := by
  have hbit : fbit { d with pins := { d.pins with fenceIn := false } } oPairCtrl fPairCtrlRejoin = fbit d oPairCtrl fPairCtrlRejoin := rfl
  have hrole : role { d with pins := { d.pins with fenceIn := false } } = role d := rfl
  simp only [fenceIn, rejoin, hbit, hrole, Bool.false_eq_true, if_false]
  by_cases hset : fbit d oPairCtrl fPairCtrlRejoin = true
  · by_cases hfenced : role d = roleFenced
    · rw [if_pos hset, if_pos hfenced, if_pos ⟨hset, hfenced⟩]
    · rw [if_pos hset, if_neg hfenced, if_neg fun h => hfenced h.2]
  · rw [if_neg hset, if_neg fun h => hset h.1]

/-! ## RELEASE and STANDBY_READY (R471) -/

/-- A standby that claims without fencing. -/
theorem release_standby {d : Device} (hr : Rising d.regs) (hrole : role d = roleStandby) (hst : d.pair.stage = .none) :
    release' d = driveClaim (pairHeard d) := by
  simp [release', role_pairHeard hr, hrole, hst]

/-- The active ends FENCE_OUT. -/
theorem standbyReady_active {d : Device} (hr : Rising d.regs) (hrole : role d = roleActive) :
    standbyReady d = setStage .none { pairHeard d with pins := { (pairHeard d).pins with fenceOut := false } } := by
  simp [standbyReady, role_pairHeard hr, hrole]

/-- Settles O45: each clause is the one branch of its command's meaning that the clause's hypotheses select. -/
theorem pairRolesChange : Obligations.PairRolesChange := by
  refine ⟨fun s v q hv => ?_, fun s q => ?_, fun s k hk => ?_, fun s => ?_, fun s => ?_, fun s => ?_, fun s hc hrole hst => ?_,
    fun s hc hrole => ?_⟩
  · have h : exec (.pairEnable v q) s = .next { s with dev := pairCtrlWrite v q s.dev } := rfl
    rw [h, pairCtrlWrite_plain q s.dev hv]
    refine ⟨fun hlock hen h0 hfence => ?_, fun hlock hen h0 => ?_, fun hlock => ?_⟩
    · obtain ⟨_, _, _, _, _, hd⟩ := rputConfig_reported 0xA000 oPairCtrl
        (BitVec.ofNat 32 (setBits 4 0 (bits 4 0 v.toNat) (rget s.dev oPairCtrl).toNat)) s.dev
      simp only [hlock, hen, h0, Bool.false_eq_true, if_false, Bool.not_false, Bool.and_self, if_true]
      rw [joinPair_unfenced q (by rw [hd]; exact hfence), show (rputConfig _ _ _ s.dev).straps = s.dev.straps by rw [hd]]
    · simp [hlock, hen, h0]
    · simp [hlock]
  · have h : exec (.pairHoldoffExpiry q) s = .next { s with dev := holdoffExpiry q s.dev } := rfl
    rw [h, holdoffExpiry]
    exact ⟨fun hon => by rw [hon]; rfl, fun hoff => by rw [hoff]; rfl⟩
  · have h : exec (.claim k) s = .next { s with dev := claim k s.dev } := run_ok _ s (decide_eq_true hk)
    rw [h, claim]
    exact ⟨fun hon => by simp [hon], fun hoff => by simp [hoff]⟩
  · have h : exec (.fenceIn false) s = .next { s with dev := fenceIn false s.dev } := rfl
    rw [h, fenceIn_released]
    exact ⟨rfl, fun hno => by simp [hno], fun hyes hrole => by simp [hyes, hrole]⟩
  · have h : exec .rejoin s = .next { s with dev := rejoin s.dev } := rfl
    rw [h, rejoin]
    exact ⟨fun hrole hf => by simp [hrole, hf], fun hrole hf => by simp [hrole, hf], fun hrole => by simp [hrole]⟩
  · have h : exec .switchover s = .next { s with dev := switchover s.dev } := rfl
    rw [h, switchover]
    exact ⟨fun hrole => by rw [if_pos hrole], fun hrole => by rw [if_neg hrole]⟩
  · have hr : Rising s.dev.regs := hc.2.2.2.1
    have h : exec .release s = .next { s with dev := driveClaim (pairHeard s.dev) } := by
      rw [← release_standby hr hrole hst]; rfl
    exact ⟨_, h, rfl, rfl, rfl, (congrArg Pins.fenceOut (pairHeard_pins s.dev) :), pairHeard_out _, pairHeard_mem _,
      (role_pairHeard hr).trans hrole⟩
  · have hr : Rising s.dev.regs := hc.2.2.2.1
    have h : exec .standbyReady s = .next { s with dev := standbyReady s.dev } := rfl
    rw [standbyReady_active hr hrole] at h
    exact ⟨_, h, rfl, rfl, rfl, (congrArg Pins.claim (pairHeard_pins s.dev) :), pairHeard_out _, pairHeard_mem _,
      (role_pairHeard hr).trans hrole⟩

end Sys2Proof.Machine
end

section
/-! Answers of well-formed commands, and what a running command's record says. -/

namespace Sys2Proof.Machine

/-- A well-formed command answers with what its meaning makes of the device. -/
theorem exec_next {i : Instr} {f : Device → Device} {s : State} {d : Device} (hr : exec i s = run i f s) (hw : i.wf = true)
    (hd : f s.dev = d) : exec i s = .next { s with dev := d } := by
  rw [hr, run_ok f s hw, hd]

theorem Runs.cmd {d : Device} {id op : Nat} {c : Cmd} (h : Runs d id op c) : cmdOf d id = some c := h.1
theorem Runs.op {d : Device} {id op : Nat} {c : Cmd} (h : Runs d id op c) : opOf c = op := h.2.2.1
theorem Runs.not_stopped {d : Device} {id op : Nat} {c : Cmd} (h : Runs d id op c) : c.stop = none := h.2.2.2.2.1
theorem Runs.throughput {d : Device} {id op : Nat} {c : Cmd} (h : Runs d id op c) : fixedTime c = false := h.2.2.2.2.2

/-! ## Counters and checked writes -/

/-- e is d but for registers. -/
def RegsOnly (d e : Device) : Prop := ∃ r, e = { d with regs := r }

/-- e is d but for registers, memory and its errors, and no parity unit has begun to fail. -/
def Stored (d e : Device) : Prop := ∃ r m x, e = { d with regs := r, mem := m, merr := x } ∧ (d.merr.parity = [] → x.parity = [])

theorem RegsOnly.refl (d : Device) : RegsOnly d d := ⟨d.regs, rfl⟩

theorem RegsOnly.trans {d e f : Device} (h : RegsOnly d e) (k : RegsOnly e f) : RegsOnly d f := by
  obtain ⟨_, rfl⟩ := h
  obtain ⟨r, rfl⟩ := k
  exact ⟨r, rfl⟩

theorem RegsOnly.ite {b : Prop} [Decidable b] {d e f : Device} (h : RegsOnly d e) (k : RegsOnly d f) : RegsOnly d (if b then e else f) := by
  split <;> assumption

theorem RegsOnly.foldl {α : Type} {f : Device → α → Device} (hf : ∀ d x, RegsOnly d (f d x)) (l : List α) (d : Device) :
    RegsOnly d (l.foldl f d) := by
  induction l generalizing d with
  | nil => exact .refl d
  | cons x r ih => exact (hf d x).trans (ih _)

theorem RegsOnly.parts {d e : Device} (h : RegsOnly d e) : e.parts = d.parts := by obtain ⟨_, rfl⟩ := h; rfl

theorem RegsOnly.stored {d e : Device} (h : RegsOnly d e) : Stored d e := by
  obtain ⟨r, rfl⟩ := h
  exact ⟨r, d.mem, d.merr, rfl, id⟩

theorem Stored.refl (d : Device) : Stored d d := (RegsOnly.refl d).stored

theorem Stored.trans {d e f : Device} (h : Stored d e) (k : Stored e f) : Stored d f := by
  obtain ⟨_, _, x, rfl, hx⟩ := h
  obtain ⟨r, m, y, rfl, hy⟩ := k
  exact ⟨r, m, y, rfl, hy ∘ hx⟩

theorem Stored.parts {d e : Device} (h : Stored d e) : e.parts = d.parts := by obtain ⟨_, _, _, rfl, -⟩ := h; rfl

theorem rput_regsOnly (off : Nat) (w : Word) (d : Device) : RegsOnly d (rput off w d) := ⟨_, rfl⟩
theorem fput_regsOnly (off : Nat) (f : Fld) (v : Nat) (d : Device) : RegsOnly d (fput off f v d) := rput_regsOnly _ _ d
theorem fsat_regsOnly (off : Nat) (f : Fld) (n : Nat) (d : Device) : RegsOnly d (fsat off f n d) := fput_regsOnly _ _ _ d

/-- Counters that advance change registers alone (R521). -/
theorem perfUnit_regsOnly (n : Nat) (ctl cnt hi : Nat → Nat) (ev : Nat) (part : Option Nat) (k : Nat) (d : Device) :
    RegsOnly d (perfUnit n ctl cnt hi ev part k d) := by
  unfold perfUnit
  refine .foldl (fun d i => .ite (.trans ?_ (.ite (rput_regsOnly _ _ _) (.refl _))) (.refl d)) _ d
  exact (rput_regsOnly _ _ d).trans (rput_regsOnly _ _ _)

theorem perfArr_regsOnly (a ev : Nat) (part : Option Nat) (k : Nat) (d : Device) : RegsOnly d (perfArr a ev part k d) :=
  perfUnit_regsOnly _ _ _ _ _ _ _ d
theorem perfOne_regsOnly (u ev : Nat) (part : Option Nat) (k : Nat) (d : Device) : RegsOnly d (perfOne u ev part k d) :=
  perfUnit_regsOnly _ _ _ _ _ _ _ d
theorem hbmRead_regsOnly (l n : Nat) (part : Option Nat) (d : Device) : RegsOnly d (hbmRead l n part d) := by
  unfold hbmRead; exact .ite (perfOne_regsOnly _ _ _ _ d) (.refl d)
theorem hbmWrite_regsOnly (l n : Nat) (part : Option Nat) (d : Device) : RegsOnly d (hbmWrite l n part d) := by
  unfold hbmWrite; exact .ite (perfOne_regsOnly _ _ _ _ d) (.refl d)

theorem satCount_regsOnly (a part n : Nat) (d : Device) : RegsOnly d (satCount a part n d) := by
  unfold satCount; exact .ite (.refl d) ((fsat_regsOnly _ _ _ d).trans (perfArr_regsOnly _ _ _ _ _))

/-- A failing read is counted in a register (R253). -/
theorem countParity_regsOnly (l : Nat) (d : Device) : RegsOnly d (countParity l d) := by
  unfold countParity
  split
  · exact fsat_regsOnly _ _ _ d
  · exact fsat_regsOnly _ _ _ d
  · exact fsat_regsOnly _ _ _ d
  · exact .refl d

theorem countRange_regsOnly (l n : Nat) (d : Device) : RegsOnly d (countRange l n d) :=
  .foldl (fun d k => countParity_regsOnly k d) _ d

theorem storeBytes_stored (l : Nat) (bs : List Byte) (d : Device) : Stored d (storeBytes l bs d) := by
  obtain ⟨m, h⟩ := storeBytes_frame l bs d
  exact ⟨d.regs, m, d.merr, h, id⟩

theorem writeUnit_stored (l : Nat) (bs : List Byte) (d : Device) : Stored d (writeUnit l bs d).1 := by
  unfold writeUnit
  split
  · exact (storeBytes_stored l bs d).trans ⟨_, _, _, rfl, fun h => by rw [h]; rfl⟩
  · split
    · exact (countParity_regsOnly l d).stored
    · exact storeBytes_stored l bs d

theorem writePieces_stored (ps : List (Nat × Nat)) (bs : List Byte) (d : Device) : Stored d (writePieces ps bs d).1 := by
  induction ps generalizing bs d with
  | nil => exact .refl d
  | cons p r ih =>
    have h := writeUnit_stored p.1 (bs.take p.2) d
    unfold writePieces
    split
    next heq => rw [heq] at h; exact h.trans (ih _ _)
    next heq => rw [heq] at h; exact h.trans (ih _ _)

/-- A checked write stores, and counts what it cannot store (R253, R406, R605). -/
theorem writeMem_stored (l : Nat) (bs : List Byte) (d : Device) : Stored d (writeMem l bs d).1 := by
  unfold writeMem
  split
  · exact storeBytes_stored l bs d
  · exact writePieces_stored _ _ d

theorem put_stored (l : Nat) (bs : List Byte) (d : Device) : Stored d (put l bs d) := writeMem_stored l bs d

end Sys2Proof.Machine
end

section
/-! MATMUL to its end: O15 fails of a device whose table of arrays lists an array twice. -/

namespace Sys2Proof.Machine

/-- A MATMUL of one tile on array 0 that takes sa from word 100 of its word store (R132, R278, R318). -/
def scaledCmd : Cmd :=
  { id := 7, part := 3, sq := 1, slot := 2, phase := .running
    words := [0x10, 0, 0, 0, 0, 0, 0x30377, 0x27000000, 0x10000, 0, 5, 0xC00000, 3072, 0, 0x640000, 0x320000]
    prick := [1, 32, 32, 1, 0, 0, 0, 0, 10, 1, 0, 1, 0, 0, 0, 0] }

/-- Partition 3 owns array 0, whose word 100 has a reserved bit set (R132). The table of arrays lists array 0 twice, first with a kept
accumulation and then as failing: discarding the first entry's accumulation (R186) leaves nothing of it and uncovers the second. -/
def doubledDev : Device :=
  rput (oArrayMask 3 0) 1 { cmds := [scaledCmd], nextId := 8, mem := [(wordAddr 0 402, 1)],
                            arrs := [(0, { kept := some noKept }), (0, { failing := true })] }

theorem doubledDev_runs : Runs doubledDev 7 0x10 scaledCmd := by unfold Runs; decide +kernel

theorem doubledDev_answers (a : Nat) : heldArray doubledDev a = false := by
  have hp : doubledDev.parts = [] := rfl
  have ha : doubledDev.arrs = [(0, { kept := some noKept }), (0, { failing := true })] := rfl
  simp only [heldArray, hp, arrOf, ha, tabGet]
  split <;> rfl

theorem doubledDev_admits : matmulCheck doubledDev scaledCmd = none ∧ stepFree doubledDev scaledCmd = true := by decide +kernel

/-- The step stops the command at sa, then finds its array failing and leaves the command running, with no recomputation. -/
theorem matmul_doubledDev : (cmdOf (matmul 7 {} doubledDev) 7).map (fun c => (c.phase, c.retry)) = some (.running, none) := by
  decide +kernel

/-- Refutes O15: the statement does not ask that the device is Canonical. On `doubledDev` the command is stopped at sa, its array then
reads as failing, and the step leaves the command running although it is not to be recomputed. -/
theorem not_matmulRunsToItsEnd : ¬ Obligations.MatmulRunsToItsEnd := by
  unfold Obligations.MatmulRunsToItsEnd
  rintro ⟨h, -⟩
  obtain ⟨t, c', ht, -, hc, hend, -⟩ := h { dev := doubledDev } 7 {} scaledCmd doubledDev_runs (by unfold NoErrors NoWaits; decide)
    (by decide) (by decide) rfl rfl doubledDev_answers (.inr doubledDev_admits)
  obtain rfl : t = { dev := matmul 7 {} doubledDev } := by
    cases ht; rfl
  have hstay := matmul_doubledDev
  rw [hc] at hstay
  obtain ⟨hrun, hno⟩ : c'.phase = .running ∧ c'.retry = none := by simpa using hstay
  rcases hend with hended | ⟨-, -, hretry, -⟩
  · rw [hrun] at hended; cases hended
  · rw [hno] at hretry; cases hretry

end Sys2Proof.Machine
end

section
/-! Simple commands: the checks of NOP and WAIT_TALLY refuse with a status that is no missed deadline, and O10. -/

namespace Sys2Proof.Machine

/-- The last checks of R301 refuse with PERMISSION or REMOTE. -/
theorem lateCheck_status {d : Device} {c : Cmd} {perm : Bool} {y : Done} (h : lateCheck d c perm = some y) : y.status ≠ stDeadline := by
  unfold lateCheck at h
  split at h
  · cases h; decide
  · split at h
    · cases h; decide
    · cases h

theorem nopCheck_status {d : Device} {c : Cmd} {y : Done} (h : nopCheck d c = some y) : y.status ≠ stDeadline := by
  unfold nopCheck at h
  split at h
  · cases h; decide
  · exact lateCheck_status h

/-- A THROUGHPUT command whose work ends in OK, with any flags, changes itself alone. -/
theorem endCmd_deadline_plain {c : Cmd} (h : fixedTime c = false) (b t fl : Nat) (d : Device) :
    endCmd c (deadline c b t { flags := fl }) d = setCmd (endedAs c { flags := fl }) d := by
  rw [deadline_plain h, endCmd_plain]
  exact fun hs => nomatch hs

theorem nop_passes {d : Device} {id : Nat} {c : Cmd} (x : Circ) (hr : Runs d id 0x00 c) (hk : nopCheck d c = none) :
    nop id x d = setCmd (endedAs c {}) d := by
  simp only [nop, runningAs_of_runs hr, hk, hr.not_stopped, endCmd_deadline_plain hr.throughput]

theorem nop_refused {d : Device} {id : Nat} {c : Cmd} {y : Done} (x : Circ) (hr : Runs d id 0x00 c) (hk : nopCheck d c = some y) :
    nop id x d = setCmd (endedAs c y) d := by
  simp only [nop, runningAs_of_runs hr, hk, endCmd_plain (nopCheck_status hk)]

theorem matmul_empty {d : Device} {id : Nat} {c : Cmd} {x : Circ} (hr : Runs d id 0x10 c) (hx : NoErrors x) (ha : c.admitted = false)
    (hk : matmulCheck d c = none) (he : mReal c = 0) : matmul id x d = setCmd (endedAs c { flags := flagEmpty }) d := by
  simp only [matmul, runningAs_of_runs hr, applyCirc_none hx, ha, hk, hr.not_stopped, he, Bool.false_eq_true, if_false, if_true,
    endCmd_deadline_plain hr.throughput]

/-- The condition check of a WAIT_TALLY whose tally word reads without an error (R271). -/
theorem waitLook_readable {d : Device} {c : Cmd} (h : firstBad d (wordAddr (wArray c) (4 * (65472 + wTally c))) 4 = none) :
    waitLook c d = if serialGe (wWord d c) (wTarget c) then some ({}, d) else none := by
  simp only [waitLook, readFail, h]

section
variable {d : Device} {id : Nat} {c : Cmd} (hr : Runs d id 0x01 c) (hk : waitCheck d c = none)
  (hb : firstBad d (wordAddr (wArray c) (4 * (65472 + wTally c))) 4 = none)
include hr hk hb

theorem waitTally_looks {x : Circ} (hx : NoErrors x) (hh : heldArray d (wArray c) = false) :
    waitTally id x d = if serialGe (wWord d c) (wTarget c) then setCmd (endedAs c {}) d else d := by
  simp only [waitTally, runningAs_of_runs hr, applyCirc_none hx, hk, hr.not_stopped, hh, waitLook_readable hb, Bool.false_eq_true, if_false]
  by_cases hm : serialGe (wWord d c) (wTarget c) = true
  · simp only [if_pos hm]; exact endCmd_plain (by decide)
  · simp only [if_neg hm]

theorem waitTallyTimeout_unmet (ht : wTimeout c ≠ 0) (hm : serialGe (wWord d c) (wTarget c) = false) :
    waitTallyTimeout id d = setCmd (endedAs c { status := stRemote }) d := by
  simp only [waitTallyTimeout, runningAs_of_runs hr, ht, hk, hr.not_stopped, hr.throughput, hm, waitLook_readable hb, Bool.false_eq_true, if_false]
  exact endCmd_plain (by decide)
end

/-- Settles O10: each of the three commands by what its meaning does where its checks pass. -/
theorem simpleCommandsEnd : Obligations.SimpleCommandsEnd := by
  unfold Obligations.SimpleCommandsEnd
  refine ⟨fun s id x c hr => ⟨fun hk => exec_next rfl rfl (nop_passes x hr hk), fun y hk => exec_next rfl rfl (nop_refused x hr hk)⟩,
    fun s id x c hr hx ha hk he => exec_next rfl rfl (matmul_empty hr hx ha hk he),
    fun s id x c hr hx hk hb hh => ⟨fun hm => exec_next rfl rfl ?_, fun hm => exec_next rfl rfl ?_,
      fun hm ht => exec_next rfl rfl (waitTallyTimeout_unmet hr hk hb ht hm)⟩⟩
  · rw [waitTally_looks hr hk hb hx hh, if_pos hm]
  · rw [waitTally_looks hr hk hb hx hh, hm]; rfl

end Sys2Proof.Machine
end

section
/-! Enabling and disabling partitions: which case of R44, R45, R54 and R254 applies, and O30. -/

namespace Sys2Proof.Machine

section
variable {d : Device} {p : Nat}

theorem partitionEnable_on (h : partEn d p = true) : partitionEnable p d = setPart p { partOf d p with disabling := false } d := by
  rw [partitionEnable, partitionEnableFrom, if_pos h]

theorem partitionEnable_refused (h : partEn d p = false) (hr : overlaps d p = true ∨ holdsRetired d p = true) :
    partitionEnable p d = fput (oPartCtrl p) fPartCtrlOverlapErr 1 (setPart p { partOf d p with enabling := false } d) := by
  rw [partitionEnable, partitionEnableFrom, h, if_neg Bool.false_ne_true, if_pos (by simpa using hr)]

theorem partitionEnable_admitted (h : partEn d p = false) (ho : overlaps d p = false) (hr : holdsRetired d p = false) :
    partitionEnable p d = if clearingFor d p then setPart p { partOf d p with enabling := true } d else partOn p (rget d (oPartCtrl p)) d := by
  rw [partitionEnable, partitionEnableFrom, h, ho, hr, if_neg Bool.false_ne_true, Bool.or_false, if_neg Bool.false_ne_true]

theorem partitionDisable_on (h : partEn d p = true) :
    partitionDisable p d = partitionDisableEffect p (setPart p { partOf d p with disabling := true } d) := by
  rw [partitionDisable, if_pos h]

theorem partitionDisable_off (h : partEn d p = false) : partitionDisable p d = setPart p { partOf d p with enabling := false } d := by
  rw [partitionDisable, h, if_neg Bool.false_ne_true]

/-- Without a pending disable, or while BUSY, nothing takes effect (R45). -/
theorem partitionDisableEffect_waits (h : (partOf d p).disabling = false ∨ partBusy d p = true) : partitionDisableEffect p d = d := by
  unfold partitionDisableEffect
  rcases h with h | h <;> simp [h]

theorem partitionDisable_busy (h : partEn d p = true) (hb : partBusy d p = true) :
    partitionDisable p d = setPart p { partOf d p with disabling := true } d := by
  rw [partitionDisable_on h]
  exact partitionDisableEffect_waits (.inr hb)
end

/-- Settles O30: the seven cases of writes to ENABLE. -/
theorem partitionEnableRules : Obligations.PartitionEnableRules := by
  unfold Obligations.PartitionEnableRules
  intro s p hp
  have hw : partOk p = true := decide_eq_true hp
  refine ⟨fun h hr => exec_next rfl hw (partitionEnable_refused h hr), fun h ho hr hc => exec_next rfl hw ?_,
    fun h ho hr hc => exec_next rfl hw ?_, fun h => exec_next rfl hw (partitionEnable_on h),
    fun h hb => exec_next rfl hw (partitionDisable_busy h hb), fun h _ => ?_, fun h => exec_next rfl hw (partitionDisable_off h)⟩
  · rw [partitionEnable_admitted h ho hr, hc, if_neg Bool.false_ne_true]; rfl
  · rw [partitionEnable_admitted h ho hr, hc, if_pos rfl]
  · intro d
    rw [exec_next (i := .partitionDisable p) rfl hw (partitionDisable_on h), exec_next (i := .partitionDisableEffect p) rfl hw rfl]

end Sys2Proof.Machine
end

section
/-! Stores of a disabled partition: where a local address lies in memory, what clearing leaves, what a held access leaves of the
partitions, and O31. -/

namespace Sys2Proof.Machine

/-! ## Places of memory (R396 to R403) -/

/-- The registers from the HBM block on (R597). -/
def highRegs (d : Device) : Tab Word := d.regs.filter fun e => decide (0x10000 ≤ e.1)

theorem tabSet_filter_out {α : Type} [DecidableEq α] (dflt : α) {k : Nat} (v : α) (p : Nat → Bool) (t : Tab α) (h : p k = false) :
    (tabSet dflt k v t).filter (fun e => p e.1) = t.filter fun e => p e.1 := by
  induction t with
  | nil => simp only [tabSet]; split <;> simp [h]
  | cons e r ih =>
    obtain ⟨k', w⟩ := e
    simp only [tabSet]
    split
    · subst_vars; split <;> simp [h]
    · split
      · split <;> simp [h]
      · simp only [List.filter_cons, ih]

theorem tabGet_filter_in {α : Type} (dflt : α) {k : Nat} (p : Nat → Bool) (t : Tab α) (h : p k = true) :
    tabGet dflt k (t.filter fun e => p e.1) = tabGet dflt k t := by
  induction t with
  | nil => rfl
  | cons e r ih =>
    obtain ⟨k', w⟩ := e
    by_cases hk : k' = k
    · subst hk; simp [h, tabGet]
    · by_cases hp : p k' = true <;> simp [hp, tabGet, hk, ih]

/-- A register below the HBM block leaves those above. -/
theorem highRegs_rput {off : Nat} (w : Word) (d : Device) (h : off < 0x10000) : highRegs (rput off w d) = highRegs d :=
  tabSet_filter_out _ w (fun k => decide (0x10000 ≤ k)) d.regs (by simpa using h)

theorem regions_congr {d e : Device} (h : highRegs e = highRegs d) : regions e = regions d := by
  have hn (n : Nat) : tabGet 0 (oHbmRegion n) e.regs = tabGet 0 (oHbmRegion n) d.regs := by
    have ho : decide (0x10000 ≤ oHbmRegion n) = true := decide_eq_true (by unfold oHbmRegion; omega)
    rw [← tabGet_filter_in _ (fun k => decide (0x10000 ≤ k)) e.regs ho, ← tabGet_filter_in _ (fun k => decide (0x10000 ≤ k)) d.regs ho]
    exact congrArg _ h
  simp only [regions, hn]

/-- The entries of a stack's retirement list lie above the HBM block's start. -/
theorem retiredAt_highRegs (d : Device) (k page : Nat) : retiredAt d k page = retiredAt { d with regs := highRegs d } k page := by
  simp only [retiredAt, highRegs, List.filter_filter]
  congr 2
  refine List.filter_congr fun e _ => ?_
  by_cases h : oRetireEntry k 0 ≤ e.1
  · have : 0x10000 ≤ e.1 := by simp only [oRetireEntry] at h; omega
    simp [this]
  · simp [h]

theorem retiredAt_congr {d e : Device} (h : highRegs e = highRegs d) (k page : Nat) : retiredAt e k page = retiredAt d k page := by
  rw [retiredAt_highRegs e, retiredAt_highRegs d, h]; rfl

/-- Where an address lies depends on the registers of HBM alone. -/
theorem memKey_congr {d e : Device} (h : highRegs e = highRegs d) (l : Nat) : memKey e l = memKey d l := by
  have hm : hbmMap e l = hbmMap d l := by simp only [hbmMap, regions_congr h]
  simp only [memKey, stackKey, hm, retiredAt_congr h]

/-- A store's bytes lie at their aperture addresses. -/
theorem memKey_scratch {l : Nat} (d : Device) (h : 2 ^ 40 ≤ l) : memKey d l = l := by
  have : isHbm l = false := by simp only [isHbm, decide_eq_false_iff_not]; omega
  simp only [memKey, this, Bool.false_eq_true, if_false]

theorem regions_bounds {d : Device} {r : Nat × Nat} (h : r ∈ regions d) : r.1 / 6 ≤ 63 ∧ 6 * (r.1 / 6) = r.1 ∧ r.2 ≤ 64 := by
  obtain ⟨n, -, hn⟩ := List.mem_filterMap.mp h
  dsimp only at hn
  split at hn
  · obtain rfl : _ = r := Option.some.inj hn
    have h1 := bits_lt 6 1 (tabGet 0 (oHbmRegion n) d.regs).toNat
    have h2 := bits_lt 12 7 (tabGet 0 (oHbmRegion n) d.regs).toNat
    simp only at h1 h2 ⊢
    omega
  · cases hn

/-- HBM has six stacks of less than 128 GiB (R401 to R403). -/
theorem hbmMap_bounds (d : Device) {l : Nat} (h : isHbm l = true) : (hbmMap d l).1 < 6 ∧ (hbmMap d l).2 < 2 ^ 37 := by
  have hl : l < 0x6000000000 := of_decide_eq_true h
  unfold hbmMap
  split
  next b n hf =>
    obtain ⟨hb, h6, hn⟩ := regions_bounds (List.mem_of_find?_eq_some hf)
    have hin := List.find?_some hf
    simp only [Bool.and_eq_true, decide_eq_true_eq] at hin h6 hb hn
    obtain ⟨hlo, hhi⟩ := hin
    have hpos : 0 < n * gib := by
      rcases Nat.eq_zero_or_pos n with rfl | hn'
      · simp at hhi; omega
      · exact Nat.mul_pos hn' (by decide)
    have hsplit : (b + 6 * n) * gib = b * gib + 6 * (n * gib) := by rw [Nat.add_mul, Nat.mul_assoc]
    have hrem : l - b * gib - (l - b * gib) / (n * gib) * (n * gib) < n * gib := by
      have := Nat.mod_lt (l - b * gib) hpos
      rw [Nat.mod_eq_sub_div_mul] at this
      exact this
    refine ⟨(Nat.div_lt_iff_lt_mul hpos).mpr (by omega), ?_⟩
    have hn' : n * gib ≤ 64 * gib := Nat.mul_le_mul_right _ hn
    have hb' : b * gib / 6 ≤ 63 * gib := by
      have : b * gib ≤ 378 * gib := Nat.mul_le_mul_right _ (by omega)
      simp only [gib] at this ⊢
      omega
    simp only [gib] at hn' hb' hrem ⊢
    omega
  next => exact ⟨Nat.mod_lt _ (by decide), by omega⟩

theorem retiredAt_lt {d : Device} {k page e : Nat} (h : retiredAt d k page = some e) : e < 128 := by
  obtain ⟨x, hx, rfl⟩ := Option.map_eq_some_iff.mp h
  have hm := (List.mem_filter.mp (List.mem_of_getLast? hx)).2
  simp only [Bool.and_eq_true, decide_eq_true_eq] at hm
  obtain ⟨⟨⟨h1, h2⟩, -⟩, -⟩ := hm
  simp only [oRetireEntry] at h1 h2 ⊢
  omega

/-- HBM lies below the scratch aperture. -/
theorem memKey_hbm {l : Nat} (d : Device) (h : isHbm l = true) : memKey d l < 2 ^ 40 := by
  obtain ⟨hk, hx⟩ := hbmMap_bounds d h
  rw [memKey, if_pos h, stackKey]
  split
  next e he => have := retiredAt_lt he; omega
  next => omega

/-! ## Clearing (R254) -/

/-- e is d but for memory, its errors and nothing else. -/
def Cleared (d e : Device) : Prop := ∃ m r, e = { d with mem := m, merr := r }

theorem Cleared.foldl {f : Device → Nat → Device} (hf : ∀ d a, Cleared d (f d a)) (l : List Nat) (d : Device) : Cleared d (l.foldl f d) := by
  induction l generalizing d with
  | nil => exact ⟨d.mem, d.merr, rfl⟩
  | cons a r ih =>
    obtain ⟨m, x, h⟩ := hf d a
    obtain ⟨m', x', h'⟩ := ih (f d a)
    exact ⟨m', x', by rw [List.foldl_cons, h', h]⟩

theorem clearArray_cleared (d : Device) (a : Nat) : Cleared d (clearArray a d) := ⟨_, _, rfl⟩
theorem clearBand_cleared (d : Device) (b : Nat) : Cleared d (clearBand b d) := ⟨_, _, rfl⟩

theorem memGet_clearRange (l n k : Nat) (d : Device) : memGet (clearRange l n d) k = if l ≤ k ∧ k < l + n then 0 else memGet d k := by
  split
  next h => exact tabGet_tabDrop_in _ _ _ _ _ h.1 h.2
  next h => exact tabGet_tabDrop_out _ _ _ _ _ (by omega)

/-- What a fold of clearings leaves of a place that each of them clears or leaves. -/
theorem memGet_foldl_clear {f : Device → Nat → Device} {k : Nat} (hf : ∀ d a, memGet (f d a) k = 0 ∨ memGet (f d a) k = memGet d k)
    (l : List Nat) (d : Device) :
    (memGet (l.foldl f d) k = 0 ∨ memGet (l.foldl f d) k = memGet d k) ∧
      ∀ a ∈ l, (∀ d, memGet (f d a) k = 0) → memGet (l.foldl f d) k = 0 := by
  induction l generalizing d with
  | nil => exact ⟨.inr rfl, fun _ h => nomatch h⟩
  | cons b r ih =>
    obtain ⟨hkeep, hclear⟩ := ih (f d b)
    refine ⟨?_, fun a ha hz => ?_⟩
    · rcases hkeep with h | h
      · exact .inl h
      · rw [List.foldl_cons, h]; exact hf d b
    · rcases List.mem_cons.mp ha with rfl | ha
      · rcases hkeep with h | h
        · exact h
        · rw [List.foldl_cons, h]; exact hz d
      · exact hclear a ha hz

theorem memGet_clearArray (a k : Nat) (d : Device) : memGet (clearArray a d) k = 0 ∨ memGet (clearArray a d) k = memGet d k := by
  simp only [clearArray, memGet_clearRange]
  split
  · exact .inl rfl
  · split
    · exact .inl rfl
    · exact .inr rfl

theorem memGet_clearBand (b k : Nat) (d : Device) : memGet (clearBand b d) k = 0 ∨ memGet (clearBand b d) k = memGet d k := by
  rw [clearBand, memGet_clearRange]
  split
  · exact .inl rfl
  · exact .inr rfl

theorem aperture_le_rowAddr (a o : Nat) : 2 ^ 40 ≤ rowAddr a o := by unfold rowAddr arrayBase; omega
theorem aperture_le_wordAddr (a o : Nat) : 2 ^ 40 ≤ wordAddr a o := by unfold wordAddr arrayBase; omega
theorem aperture_le_bandAddr (b o : Nat) : 2 ^ 40 ≤ bandAddr b o := by unfold bandAddr; omega

/-- Clearing stores leaves HBM. -/
theorem memGet_clearArray_hbm (a : Nat) {k : Nat} (d : Device) (h : k < 2 ^ 40) : memGet (clearArray a d) k = memGet d k := by
  have h1 := aperture_le_rowAddr a 0
  have h2 := aperture_le_wordAddr a 0
  rw [clearArray, memGet_clearRange, if_neg (by omega), memGet_clearRange, if_neg (by omega)]

theorem memGet_clearBand_hbm (b : Nat) {k : Nat} (d : Device) (h : k < 2 ^ 40) : memGet (clearBand b d) k = memGet d k := by
  have h1 := aperture_le_bandAddr b 0
  rw [clearBand, memGet_clearRange, if_neg (by omega)]

theorem memGet_foldl_keep {f : Device → Nat → Device} {k : Nat} (hf : ∀ d a, memGet (f d a) k = memGet d k) (l : List Nat) (d : Device) :
    memGet (l.foldl f d) k = memGet d k := by
  induction l generalizing d with
  | nil => rfl
  | cons a r ih => rw [List.foldl_cons, ih, hf]

theorem memGet_clearArray_row (a : Nat) {o : Nat} (d : Device) (h : o < 0x300000) : memGet (clearArray a d) (rowAddr a o) = 0 := by
  rw [clearArray, memGet_clearRange]
  split
  · rfl
  · rw [memGet_clearRange, if_pos]
    simp only [rowAddr, storeSize]; omega

theorem memGet_clearArray_word (a : Nat) {o : Nat} (d : Device) (h : o < 0x40000) : memGet (clearArray a d) (wordAddr a o) = 0 := by
  rw [clearArray, memGet_clearRange, if_pos]
  simp only [wordAddr, storeSize]; omega

theorem memGet_clearBand_line (b : Nat) {o : Nat} (d : Device) (h : o < 0x2000000) : memGet (clearBand b d) (bandAddr b o) = 0 := by
  rw [clearBand, memGet_clearRange, if_pos]
  simp only [bandAddr, storeSize]; omega

theorem mem_foldr_nsInsert {k : Nat} {l m : List Nat} (h : k ∈ l) : k ∈ l.foldr nsInsert m := by
  have hins (x : Nat) (r : List Nat) : ∀ y, y = x ∨ y ∈ r → y ∈ nsInsert x r := by
    induction r with
    | nil => intro y hy; simpa [nsInsert] using hy
    | cons z r ih =>
      intro y hy
      simp only [nsInsert]
      split
      · subst_vars; simpa using hy
      · split
        · simpa using hy
        · simp only [List.mem_cons] at hy ⊢
          rcases hy with hy | hy | hy
          · exact .inr (ih y (.inl hy))
          · exact .inl hy
          · exact .inr (ih y (.inr hy))
  induction l with
  | nil => cases h
  | cons x r ih =>
    rcases List.mem_cons.mp h with rfl | h
    · exact hins _ _ _ (.inl rfl)
    · exact hins _ _ _ (.inr (ih h))

/-- What clearing a partition's stores does: the record of what is under way, every byte of the stores 0, and HBM as before (R254). -/
theorem clearStores_result (p : Nat) (d : Device) (hparts : Rising d.parts) :
    let e := clearStores p d
    e.cmds = d.cmds ∧ e.regs = d.regs ∧ e.variant = d.variant ∧ e.straps = d.straps ∧
      partOf e p = { partOf d p with clrArrays := (maskArrays d p).foldr nsInsert (partOf d p).clrArrays,
                                     clrBands := (ownedBands d p).foldr nsInsert (partOf d p).clrBands } ∧
      (∀ p', p' ≠ p → partOf e p' = partOf d p') ∧
      (∀ a ∈ maskArrays d p, (∀ o < 0x300000, memGet e (rowAddr a o) = 0) ∧ ∀ o < 0x40000, memGet e (wordAddr a o) = 0) ∧
      (∀ b ∈ ownedBands d p, ∀ o < 0x2000000, memGet e (bandAddr b o) = 0) ∧ ∀ k < 2 ^ 40, memGet e k = memGet d k := by
  intro e
  let d1 := setPart p { partOf d p with clrArrays := (maskArrays d p).foldr nsInsert (partOf d p).clrArrays,
                                        clrBands := (ownedBands d p).foldr nsInsert (partOf d p).clrBands } d
  let d2 := (maskArrays d p).foldl (fun d a => clearArray a d) d1
  have he : e = (ownedBands d p).foldl (fun d b => clearBand b d) d2 := rfl
  obtain ⟨m2, r2, h2⟩ : Cleared d1 d2 := .foldl clearArray_cleared _ _
  obtain ⟨m, r, h⟩ : Cleared d2 e := .foldl clearBand_cleared _ _
  have hframe : e = { d1 with mem := m, merr := r } := by rw [h, h2]
  have hbands (k : Nat) := memGet_foldl_clear (f := fun d b => clearBand b d) (k := k) (fun d b => memGet_clearBand b k d) (ownedBands d p) d2
  have harrs (k : Nat) := memGet_foldl_clear (f := fun d a => clearArray a d) (k := k) (fun d a => memGet_clearArray a k d) (maskArrays d p) d1
  have hzero {k : Nat} (hk : memGet d2 k = 0) : memGet e k = 0 := by
    rcases (hbands k).1 with h | h
    · exact h
    · rw [he, h, hk]
  refine ⟨by rw [hframe]; rfl, by rw [hframe]; rfl, by rw [hframe]; rfl, by rw [hframe]; rfl, ?_, fun p' hp => ?_, fun a ha => ⟨?_, ?_⟩,
    fun b hb o ho => ?_, fun k hk => ?_⟩
  · rw [hframe]; exact tabGet_tabSet_same _ _ _ _ hparts
  · rw [hframe]; exact tabGet_tabSet_ne _ _ _ _ _ _ hp
  · exact fun o ho => hzero ((harrs _).2 a ha fun d => memGet_clearArray_row a d ho)
  · exact fun o ho => hzero ((harrs _).2 a ha fun d => memGet_clearArray_word a d ho)
  · exact (hbands _).2 b hb fun d => memGet_clearBand_line b d ho
  · rw [he, memGet_foldl_keep (fun d b => memGet_clearBand_hbm b d hk), memGet_foldl_keep fun d a => memGet_clearArray_hbm a d hk]
    rfl

/-! ## A field of configuration set (R604) -/

/-- A record offered to the journal touches JNL_NEXT_SEQ and JNL_DROPS among the registers. -/
theorem journal_frame (t : Nat) (bs : List Byte) (d : Device) :
    (∃ r j, journal t bs d = { d with regs := r, jnl := j }) ∧ (Rising d.regs → Rising (journal t bs d).regs) ∧
      highRegs (journal t bs d) = highRegs d ∧ ∀ o, o ≠ oJnlNextSeq → o ≠ oJnlDrops → rget (journal t bs d) o = rget d o := by
  unfold journal
  split
  · exact ⟨⟨_, _, rfl⟩, fun h => fput_rising _ _ _ _ h, highRegs_rput _ _ (by decide), fun o h _ => rget_fput_ne _ _ _ _ _ h⟩
  · exact ⟨⟨_, _, rfl⟩, fun h => fput_rising _ _ _ _ h, highRegs_rput _ _ (by decide), fun o _ h => rget_fput_ne _ _ _ _ _ h⟩

/-- A field of a register below HBM's, set with its CONFIG record: the field reads so, other registers but the journal's as before. -/
theorem fputConfig_frame {base off : Nat} (f : Fld) (v : Nat) {d : Device} (hr : Rising d.regs) (hf : f.lo ≤ f.hi) (hi : f.hi < 32)
    (ho : off < 0x10000) (h1 : off ≠ oJnlNextSeq) (h2 : off ≠ oJnlDrops) :
    let e := fputConfig base off f v d
    (∃ r j, e = { d with regs := r, jnl := j }) ∧ fget e off f = v % 2 ^ (f.hi + 1 - f.lo) ∧ highRegs e = highRegs d ∧
      ∀ o, o ≠ off → o ≠ oJnlNextSeq → o ≠ oJnlDrops → rget e o = rget d o := by
  intro e
  have hset : fget (fput off f v d) off f = v % 2 ^ (f.hi + 1 - f.lo) := fget_fput_same off f v d hr hf hi
  have hhigh : highRegs (fput off f v d) = highRegs d := highRegs_rput _ _ ho
  have he : e = if rget (fput off f v d) off = rget d off then fput off f v d
    else journalConfig base (off - base) (rget d off) (rget (fput off f v d) off) (fput off f v d) := rfl
  split at he
  · rw [he]
    exact ⟨⟨_, _, rfl⟩, hset, hhigh, fun o h _ _ => rget_fput_ne _ _ _ _ _ h⟩
  · obtain ⟨⟨r, j, hj⟩, -, hjh, hjr⟩ := journal_frame 0x0002 (leBytes 4 base ++ leBytes 4 (off - base) ++
      leBytes 4 (rget d off).toNat ++ leBytes 4 (rget (fput off f v d) off).toNat) (fput off f v d)
    rw [he, journalConfig]
    refine ⟨⟨r, j, by rw [hj]; rfl⟩, ?_, hjh.trans hhigh, fun o h hs hd => (hjr o hs hd).trans (rget_fput_ne _ _ _ _ _ h)⟩
    rw [← hset, fget, fget, hjr off h1 h2]

/-! ## Disabling takes effect (R45, R254) -/

theorem inMask_congr {d e : Device} {p a : Nat} (h : rget e (oArrayMask p (a / 32)) = rget d (oArrayMask p (a / 32))) :
    inMask e p a = inMask d p a := by simp only [inMask, h]

/-- The record of partition p when the clearing of its stores has ended. -/
def clearEnded (p : Nat) (d : Device) : Device := setPart p { partOf d p with clrArrays := [], clrBands := [] } d

section
variable {s : State} {p : Nat} (hc : Canonical s.dev)
include hc

/-- What a disable that takes effect leaves. -/
theorem partitionDisableEffect_clears (hp : p < 64) (hd : (partOf s.dev p).disabling = true) (hb : partBusy s.dev p = false) :
    let e := partitionDisableEffect p s.dev
    e.cmds = s.dev.cmds ∧ partEn e p = false ∧ (partOf e p).disabling = false ∧
      (∀ a < 192, inMask s.dev p a = true → a ∈ (partOf e p).clrArrays ∧ (∀ o < 0x300000, byteAt e (rowAddr a o) = 0) ∧
        ∀ o < 0x40000, byteAt e (wordAddr a o) = 0) ∧
      (∀ b < 12, bandOwner s.dev b = p → b ∈ (partOf e p).clrBands ∧ ∀ o < 0x2000000, byteAt e (bandAddr b o) = 0) ∧
      (∀ l, isHbm l = true → byteAt e l = byteAt s.dev l) ∧ ∀ p', p' ≠ p → partOf e p' = partOf s.dev p' := by
  obtain ⟨-, -, -, hregs, hparts, -⟩ := hc
  let d0 := setPart p { partOf s.dev p with disabling := false } s.dev
  let d1 := fputConfig 0x8000 (oPartCtrl p) fPartCtrlEnable 0 d0
  have he : partitionDisableEffect p s.dev = clearStores p d1 := by rw [partitionDisableEffect, hd, hb]; rfl
  have hrise : Rising d0.parts := tabSet_rising _ _ _ _ hparts
  obtain ⟨⟨r, j, h1⟩, hen, hhigh, hreg⟩ := fputConfig_frame (base := 0x8000) (off := oPartCtrl p) (d := d0) fPartCtrlEnable 0 hregs
    (by decide) (by decide) (by unfold oPartCtrl; omega) (by unfold oPartCtrl oJnlNextSeq; omega) (by unfold oPartCtrl oJnlDrops; omega)
  have hd1 : d1 = { d0 with regs := r, jnl := j } := h1
  have hp1 (q : Nat) : partOf d1 q = partOf d0 q := by rw [hd1]; rfl
  have hown : partOf d0 p = { partOf s.dev p with disabling := false } := tabGet_tabSet_same _ _ _ _ hparts
  have hmask {a : Nat} (ha : a < 192) : inMask d1 p a = inMask s.dev p a :=
    inMask_congr (hreg _ (by unfold oArrayMask oPartCtrl; omega) (by unfold oArrayMask oJnlNextSeq; omega)
      (by unfold oArrayMask oJnlDrops; omega))
  have hband (b : Nat) (hb : b < 12) : bandOwner d1 b = bandOwner s.dev b := by
    have : rget d1 (oBandOwner + 4 * (b / 5)) = rget s.dev (oBandOwner + 4 * (b / 5)) :=
      hreg _ (by unfold oBandOwner oPartCtrl; omega) (by unfold oBandOwner oJnlNextSeq; omega) (by unfold oBandOwner oJnlDrops; omega)
    simp only [bandOwner, this]
  obtain ⟨hcmds, her, hev, hes, hpart, hother, harrs, hbands, hhbm⟩ := clearStores_result p d1 (by rw [hd1]; exact hrise)
  rw [he]
  refine ⟨by rw [hcmds, hd1]; rfl, ?_, ?_, fun a ha hin => ?_, fun b hb' hin => ?_, fun l hl => ?_, fun p' hp' => ?_⟩
  · have : fget (clearStores p d1) (oPartCtrl p) fPartCtrlEnable = 0 := (fget_congr her hev hes _ _).trans hen
    simp [partEn, fbit, this]
  · rw [hpart, hp1, hown]
  · have hm : a ∈ maskArrays d1 p := List.mem_filter.mpr ⟨List.mem_range.mpr ha, (hmask ha).trans hin⟩
    refine ⟨by rw [hpart]; exact mem_foldr_nsInsert hm, fun o ho => ?_, fun o ho => ?_⟩
    · rw [byteAt, memKey_scratch _ (aperture_le_rowAddr a o)]; exact (harrs a hm).1 o ho
    · rw [byteAt, memKey_scratch _ (aperture_le_wordAddr a o)]; exact (harrs a hm).2 o ho
  · have hm : b ∈ ownedBands d1 p := List.mem_filter.mpr ⟨List.mem_range.mpr hb', decide_eq_true ((hband b hb').trans hin)⟩
    refine ⟨by rw [hpart]; exact mem_foldr_nsInsert hm, fun o ho => ?_⟩
    rw [byteAt, memKey_scratch _ (aperture_le_bandAddr b o)]; exact hbands b hm o ho
  · have hkey : memKey (clearStores p d1) l = memKey s.dev l :=
      memKey_congr (by rw [highRegs, her]; exact hhigh) l
    rw [byteAt, hkey, hhbm _ (memKey_hbm _ hl), byteAt, hd1]; rfl
  · rw [hother p' hp', hp1]; exact tabGet_tabSet_ne _ _ _ _ _ _ hp'

/-- Ending a clearing leaves which enables wait. -/
theorem enabling_clearEnded (o : Nat) : (partOf (clearEnded p s.dev) o).enabling = (partOf s.dev o).enabling := by
  by_cases h : o = p
  · rw [h, partOf, clearEnded, setPart, tabGet_tabSet_same _ _ _ _ hc.2.2.2.2.1]
  · rw [partOf, clearEnded, setPart, tabGet_tabSet_ne _ _ _ _ _ _ h, partOf]
end

/-! ## A clearing ends (R254) -/

/-- Enables that wait are tried again, in the order of their partitions. -/
def retryEnable (d : Device) (o : Nat) : Device := if (partOf d o).enabling then partitionEnable o d else d

theorem storeClearDone_eq (p : Nat) (d : Device) :
    storeClearDone p d = (List.range 64).foldl retryEnable (serveHeld (clearEnded p d)) := rfl

theorem retryEnable_none (l : List Nat) (d : Device) (h : ∀ o ∈ l, (partOf d o).enabling = false) : l.foldl retryEnable d = d := by
  induction l with
  | nil => rfl
  | cons a r ih =>
    have ha : retryEnable d a = d := by simp [retryEnable, h a]
    rw [List.foldl_cons, ha, ih fun o ho => h o (List.mem_cons_of_mem _ ho)]

/-- An enable leaves the other partitions' records. -/
theorem partitionEnable_other {k o : Nat} (d : Device) (h : o ≠ k) : partOf (partitionEnable k d) o = partOf d o := by
  have hset (x : Part) (d : Device) : partOf (setPart k x d) o = partOf d o := tabGet_tabSet_ne _ _ _ _ _ _ h
  unfold partitionEnable partitionEnableFrom
  split
  · exact hset _ d
  · split
    · exact hset _ d
    · split
      · exact hset _ d
      · obtain ⟨⟨r, j, hj⟩, -⟩ := journal_frame 0x0002
          (leBytes 4 0x8000 ++ leBytes 4 (oPartCtrl k - 0x8000) ++ leBytes 4 (rget d (oPartCtrl k)).toNat ++
            leBytes 4 (rget (fput (oPartCtrl k) fPartCtrlEnable 1 (setPart k { partOf d k with enabling := false } d)) (oPartCtrl k)).toNat)
          (fput (oPartCtrl k) fPartCtrlEnable 1 (setPart k { partOf d k with enabling := false } d))
        simp only [partOn, journalConfig]
        rw [hj]
        exact hset _ d

theorem retryEnable_one {l : List Nat} {k : Nat} (hl : l.Nodup) (hk : k ∈ l) (d : Device)
    (h : ∀ o ∈ l, (partOf d o).enabling = decide (o = k)) : l.foldl retryEnable d = partitionEnable k d := by
  induction l with
  | nil => cases hk
  | cons a r ih =>
    obtain ⟨ha, hr⟩ := List.nodup_cons.mp hl
    by_cases hak : a = k
    · subst hak
      have hstep : retryEnable d a = partitionEnable a d := by simp [retryEnable, h a]
      rw [List.foldl_cons, hstep, retryEnable_none]
      intro o ho
      have hne : o ≠ a := fun e => ha (e ▸ ho)
      rw [partitionEnable_other d hne, h o (List.mem_cons_of_mem _ ho), decide_eq_false hne]
    · have hstep : retryEnable d a = d := by simp [retryEnable, h a, hak]
      rw [List.foldl_cons, hstep]
      exact ih hr ((List.mem_cons.mp hk).resolve_left (Ne.symm hak)) fun o ho => h o (List.mem_cons_of_mem _ ho)

/-- Accesses that were held: with none the device is as it was. -/
theorem serveHeld_none {d : Device} (h : d.waiting = []) : serveHeld d = d := by
  rw [serveHeld, h, List.foldl_nil, ← h]

theorem serveHeld_bar4 {d : Device} {r : Bar4Req} {x : Circ} (h : d.waiting = [.bar4 r x]) :
    serveHeld d = bar4Access r x { d with waiting := [] } := by rw [serveHeld, h]; rfl

/-- The return to RUN leaves the partitions' records. -/
theorem wakeRun_parts (d : Device) : (wakeRun d).parts = d.parts := by
  have h (p : TPkt) (d : Device) : (trcOwn p d).parts = d.parts := by unfold trcOwn; split <;> rfl
  have hto (d : Device) : (powerTo .run d).parts = d.parts := by
    unfold powerTo
    split
    · rfl
    · exact (h _ _).trans (h _ d)
  unfold wakeRun
  dsimp only
  split
  · exact hto _
  · exact hto _
  · rfl

/-- An access through BAR4 leaves the partitions' records (R369, R370). -/
theorem bar4Access_parts (r : Bar4Req) {x : Circ} (hx : NoErrors x) (d : Device) : (bar4Access r x d).parts = d.parts := by
  unfold bar4Access
  split
  · exact wakeRun_parts _
  · unfold bar4Serve
    simp only [applyCirc_none hx]
    split
    · split
      · rfl
      · rw [emit_parts]
        exact (((hbmRead_regsOnly _ _ _ _).trans (perfOne_regsOnly _ _ _ _ _)).trans (countRange_regsOnly _ _ _)).parts.trans
          (wakeRun_parts d)
    · split
      · rfl
      · exact (put_stored _ _ _).parts.trans
          (((hbmWrite_regsOnly _ _ _ _).trans (perfOne_regsOnly _ _ _ _ _)).parts.trans (wakeRun_parts d))

section
variable {s : State} {p : Nat} (hc : Canonical s.dev)
include hc

/-- The end of a clearing that nothing waits for. -/
theorem storeClearDone_quiet (hw : s.dev.waiting = []) (hn : ∀ o < 64, (partOf s.dev o).enabling = false) :
    storeClearDone p s.dev = clearEnded p s.dev := by
  rw [storeClearDone_eq, serveHeld_none (d := clearEnded p s.dev) hw, retryEnable_none]
  exact fun o ho => (enabling_clearEnded hc o).trans (hn o (List.mem_range.mp ho))

/-- The end of a clearing that one access through BAR4 waits for. -/
theorem storeClearDone_bar4 {r : Bar4Req} {x : Circ} (hw : s.dev.waiting = [.bar4 r x]) (hx : NoErrors x)
    (hn : ∀ o < 64, (partOf s.dev o).enabling = false) :
    storeClearDone p s.dev = bar4Access r x { clearEnded p s.dev with waiting := [] } := by
  rw [storeClearDone_eq, serveHeld_bar4 (d := clearEnded p s.dev) hw, retryEnable_none]
  intro o ho
  rw [partOf, bar4Access_parts r hx]
  exact (enabling_clearEnded hc o).trans (hn o (List.mem_range.mp ho))

/-- The end of a clearing that one enable waits for. -/
theorem storeClearDone_enable {k : Nat} (hk : k < 64) (hw : s.dev.waiting = [])
    (hn : ∀ o < 64, (partOf s.dev o).enabling = decide (o = k)) :
    storeClearDone p s.dev = partitionEnable k (clearEnded p s.dev) := by
  rw [storeClearDone_eq, serveHeld_none (d := clearEnded p s.dev) hw, retryEnable_one List.nodup_range (List.mem_range.mpr hk)]
  exact fun o ho => (enabling_clearEnded hc o).trans (hn o (List.mem_range.mp ho))
end

/-- Settles O31: what takes effect through `partitionDisableEffect_clears`, the end of the clearing through what waits for it. -/
theorem disableClearsStores : Obligations.DisableClearsStores := by
  unfold Obligations.DisableClearsStores
  refine ⟨fun s p hp hc => ⟨fun hd hb => ?_, fun h => exec_next rfl (decide_eq_true hp) (partitionDisableEffect_waits h)⟩,
    fun s p hp hc => ⟨fun hw hn => exec_next rfl (decide_eq_true hp) (storeClearDone_quiet hc hw hn), fun r x hw hx hn => ?_,
      fun k hk hw hn => ?_⟩⟩
  · obtain ⟨hcmds, hclear⟩ := partitionDisableEffect_clears hc hp hd hb
    exact ⟨_, exec_next rfl (decide_eq_true hp) rfl, rfl, hcmds, hclear⟩
  · exact (exec_next (i := .storeClearDone p) rfl (decide_eq_true hp) (storeClearDone_bar4 hc hw hx hn)).trans
      (exec_next (i := .bar4Access r x) (s := { s with dev := { clearEnded p s.dev with waiting := [] } }) rfl rfl rfl).symm
  · exact (exec_next (i := .storeClearDone p) rfl (decide_eq_true hp) (storeClearDone_enable hc hk hw hn)).trans
      (exec_next (i := .partitionEnable k) (s := { s with dev := clearEnded p s.dev }) rfl (decide_eq_true hk) rfl).symm

end Sys2Proof.Machine
end

section
/-! Faults of arrays and processors: what waiting for a spare leaves, the registers of spares, and O34. -/

namespace Sys2Proof.Machine

/-- An array at which no command has work under way loses no tile. -/
theorem faultTile_none {d : Device} {a : Nat} (h : (arrOf d a).prog = none) (kind : FaultKind) : faultTile d a kind = none := by
  have : jobOf d a = none := by unfold jobOf; rw [h]
  rw [faultTile, this]

theorem discardTile_none {d : Device} {a : Nat} (h : (arrOf d a).prog = none) (kind : FaultKind) : discardTile a kind d = d := by
  unfold discardTile
  rw [faultTile_none h]

/-- A tile discarded is work of its own array alone. -/
theorem discardTile_frame (a : Nat) (kind : FaultKind) (d : Device) :
    ∃ t, discardTile a kind d = { d with arrs := t } ∧ ∀ b, b ≠ a → tabGet {} b t = tabGet {} b d.arrs := by
  unfold discardTile
  split
  · exact ⟨d.arrs, rfl, fun _ _ => rfl⟩
  · exact ⟨_, rfl, fun b hb => tabGet_tabSet_ne _ _ _ _ _ _ hb⟩

/-- An array whose fault a spare can take waits for it. -/
theorem arrayFault_waits {d : Device} {a : Nat} (kind : FaultKind) (hf : (arrOf d a).failing = false) (ha : avail d a = true)
    (hs : (freeSpare d (dieOf a)).isSome = true ∨ (substNow d (dieOf a)).isSome = true) :
    arrayFault a kind d = setArr a { arrOf (discardTile a kind d) a with failing := true, kept := none }
      { discardTile a kind d with subst := (discardTile a kind d).subst ++ [a] } := by
  have hn : ((freeSpare d (dieOf a)).isNone && (substNow d (dieOf a)).isNone) = false := by
    rcases hs with hs | hs <;> simp [← Option.not_isSome, hs]
  simp [arrayFault, hf, ha, hn]

theorem arrOf_setArr_failing {a : Nat} {x : Arr} (d : Device) (h : x.failing = true) : arrOf (setArr a x d) a = x :=
  tabGet_tabSet_val _ _ _ _ fun e => by rw [e] at h; cases h

/-- With no spare left the array is retired. -/
theorem arrayFault_retires {d : Device} {a : Nat} (kind : FaultKind) (hf : (arrOf d a).failing = false) (ha : avail d a = true)
    (hs : freeSpare d (dieOf a) = none) (hw : substNow d (dieOf a) = none) : arrayFault a kind d = retireNow a kind d := by
  simp [arrayFault, hf, ha, hs, hw]

/-- An array that no command holds is retired without a command ended. -/
theorem retireNow_idle {d : Device} {a : Nat} (kind : FaultKind) (hp : (arrOf d a).prog = none) (hh : arrayHeld d a = false) :
    retireNow a kind d =
      raiseArray 0x8001 a 0 (retireArray a (setArr a { arrOf d a with failing := false } { d with subst := d.subst.erase a })) := by
  have hc : (d.cmds.find? fun c => decide (c.phase = .running) && decide (queueOf c = some .matrix) && (motifList (targetOf c)).contains a) = none :=
    List.find?_eq_none.mpr fun c hc h => by
      have := List.any_eq_false.mp hh c hc
      exact this h
  simp only [retireNow, faultTile_none hp, hc]

theorem raiseArray_reported (code a n : Nat) (d : Device) : Reported d (raiseArray code a n d) := by
  have h := raiseDev_reported code a n 0 d
  unfold raiseArray
  dsimp only
  split
  · exact h.trans (raiseAt_reported _ _ _ _)
  · exact h

theorem Reported.waiting {d e : Device} (h : Reported d e) : e.waiting = d.waiting := by obtain ⟨_, _, _, _, _, rfl⟩ := h; rfl

/-! ## The registers of spares (R53, R606) -/

theorem spareOf_lt {d : Device} {a m : Nat} (h : spareOf d a = some m) : m < 4 := List.mem_range.mp (List.mem_of_find?_eq_some h)

/-- A failed spare touches its own register alone. -/
theorem rget_spareFail_ne {d : Device} {a off : Nat} (h : ∀ m, spareOf d a = some m → off ≠ oSpareMap (a / 48) m) :
    rget (spareFail a d) off = rget d off := by
  unfold spareFail
  split
  next m hm => rw [rget_fput_ne _ _ _ _ _ (h m hm), rget_fput_ne _ _ _ _ _ (h m hm)]
  next => rfl

theorem spareFail_rising {d : Device} (a : Nat) (h : Rising d.regs) : Rising (spareFail a d).regs := by
  unfold spareFail
  split
  · exact fput_rising _ _ _ _ (fput_rising _ _ _ _ h)
  · exact h

theorem spareMapIn_waiting (a n : Nat) (d : Device) : (spareMapIn a n d).waiting = d.waiting := by
  rw [spareMapIn, rput_waiting, spareFail]
  split <;> rfl

theorem avail_spareFail {d : Device} {a b : Nat} (ha : a < 192) : rget (spareFail a d) (oAvailMask b) = rget d (oAvailMask b) :=
  rget_spareFail_ne fun m hm => by have := spareOf_lt hm; unfold oAvailMask oSpareMap; omega

/-- A spare that failed reads so. -/
theorem spareFail_fields {d : Device} {a m : Nat} (hr : Rising d.regs) (h : spareOf d a = some m) :
    fbit (spareFail a d) (oSpareMap (a / 48) m) fSpareMapValid = false ∧
      fbit (spareFail a d) (oSpareMap (a / 48) m) fSpareMapFailed = true := by
  have he : spareFail a d = fput (oSpareMap (a / 48) m) fSpareMapValid 0 (fput (oSpareMap (a / 48) m) fSpareMapFailed 1 d) := by
    rw [spareFail, h]
  have hr1 : Rising (fput (oSpareMap (a / 48) m) fSpareMapFailed 1 d).regs := fput_rising _ _ _ _ hr
  rw [he, fbit, fbit, fget_fput_same _ _ _ _ hr1 (by decide) (by decide),
    fget_fput_other _ _ _ _ _ hr1 (by decide) (by decide) (by decide), fget_fput_same _ _ _ _ hr (by decide) (by decide)]
  decide

/-- The register of the spare that takes over. -/
theorem rget_spareMapIn {d : Device} (a n : Nat) (hr : Rising d.regs) :
    rget (spareMapIn a n d) (oSpareMap (a / 48) n) = BitVec.ofNat 32 (a % 48 + 2 ^ 7) :=
  rget_rput_same _ _ _ (spareFail_rising a hr)

theorem spareMapIn_fields {d : Device} {a n : Nat} (hc : Canonical d) (ha : a < 192) (hn : n < 4) :
    fget (spareMapIn a n d) (oSpareMap (a / 48) n) fSpareMapLogical = a % 48 ∧
      fbit (spareMapIn a n d) (oSpareMap (a / 48) n) fSpareMapValid = true ∧
      fbit (spareMapIn a n d) (oSpareMap (a / 48) n) fSpareMapFailed = false ∧ avail (spareMapIn a n d) a = avail d a ∧
      ∀ m, spareOf d a = some m → m ≠ n →
        fbit (spareMapIn a n d) (oSpareMap (a / 48) m) fSpareMapValid = false ∧
        fbit (spareMapIn a n d) (oSpareMap (a / 48) m) fSpareMapFailed = true := by
  obtain ⟨-, -, -, hr, -⟩ := hc
  have hlt : a % 48 < 48 := Nat.mod_lt _ (by decide)
  have hw : (BitVec.ofNat 32 (a % 48 + 2 ^ 7)).toNat = a % 48 + 128 := by rw [BitVec.toNat_ofNat]; omega
  have hset (f : Fld) : fget (spareMapIn a n d) (oSpareMap (a / 48) n) f = bits f.hi f.lo (a % 48 + 128) := by
    rw [fget, rget_spareMapIn a n hr, hw]
  rw [fbit, fbit, hset, hset, hset]
  have hlog : bits 5 0 (a % 48 + 128) = a % 48 := by unfold bits; omega
  have hvalid : bits 7 7 (a % 48 + 128) = 1 := by unfold bits; omega
  have hfail : ¬ bits 6 6 (a % 48 + 128) = 1 := by unfold bits; omega
  refine ⟨hlog, decide_eq_true hvalid, decide_eq_false hfail, ?_, fun m hm hmn => ?_⟩
  · have hne : oAvailMask (a / 32) ≠ oSpareMap (a / 48) n := by unfold oAvailMask oSpareMap; omega
    rw [avail, spareMapIn, rget_rput_ne _ _ _ _ hne, avail_spareFail ha, avail]
  · have hne : oSpareMap (a / 48) m ≠ oSpareMap (a / 48) n := by unfold oSpareMap; omega
    have hkeep (f : Fld) : fget (spareMapIn a n d) (oSpareMap (a / 48) m) f = fget (spareFail a d) (oSpareMap (a / 48) m) f := by
      rw [fget, spareMapIn, rget_rput_ne _ _ _ _ hne, fget]
    rw [fbit, fbit, hkeep, hkeep]
    exact spareFail_fields hr hm

theorem bit_eq_getLsbD (k : Nat) (w : Word) : bit k w.toNat = w.getLsbD k := by
  rw [bit, ← BitVec.testBit_toNat, Nat.testBit_eq_decide_div_mod_eq]

/-- An array that is retired is not available, the others as before. -/
theorem avail_retireArray {d : Device} {a b : Nat} (hc : Canonical d) (ha : a < 192) :
    avail (retireArray a d) b = (avail d b && decide (b ≠ a)) := by
  obtain ⟨-, -, -, hr, -⟩ := hc
  have hr' := spareFail_rising a hr
  by_cases h : b / 32 = a / 32
  · have hlt : b % 32 < 32 := Nat.mod_lt _ (by decide)
    have hne : b = a ↔ a % 32 = b % 32 := by omega
    rw [avail, retireArray, h, rget_rput_same _ _ _ hr', avail_spareFail ha, avail, h, bit_eq_getLsbD, bit_eq_getLsbD, BitVec.getLsbD_and,
      BitVec.getLsbD_not, BitVec.getLsbD_ofNat, Nat.testBit_two_pow]
    simp [hlt, hne]
  · have hne : b ≠ a := fun e => h (by rw [e])
    have ho : oAvailMask (b / 32) ≠ oAvailMask (a / 32) := by unfold oAvailMask; omega
    rw [avail, retireArray, rget_rput_ne _ _ _ _ ho, avail_spareFail ha, avail, decide_eq_true hne, Bool.and_true]

/-! ## The spare control processor (R456, R457) -/

/-- The first processor of a die that fails is replaced by the die's spare. -/
theorem processorFault_spare {d : Device} {k n : Nat} (hc : Canonical d) (hact : bit n (fget d (oCpStatus k) fCpStatusActive) = true)
    (h3 : bit 3 (fget d (oCpStatus k) fCpStatusActive) = false) (hs : fbit d (oCpStatus k) fCpStatusSpareUsed = false) :
    ∃ e, processorFault k n d = journal 0x0014 (leBytes 4 k ++ leBytes 2 n ++ leBytes 2 3) e ∧ (∃ w, e = rput (oCpStatus k) w d) ∧
      fbit e (oCpStatus k) fCpStatusSpareUsed = true ∧
      fget e (oCpStatus k) fCpStatusActive = fget d (oCpStatus k) fCpStatusActive - 2 ^ n + 8 := by
  obtain ⟨-, -, -, hr, -⟩ := hc
  let act := fget d (oCpStatus k) fCpStatusActive
  let d1 := fsat (oCpStatus k) fCpStatusFaults 1 d
  let d2 := fput (oCpStatus k) fCpStatusSpareUsed 1 d1
  have hr1 : Rising d1.regs := fput_rising _ _ _ _ hr
  have hr2 : Rising d2.regs := fput_rising _ _ _ _ hr1
  have hs1 : fbit d1 (oCpStatus k) fCpStatusSpareUsed = false := by
    rw [fbit, show d1 = fput _ _ _ d from rfl, fget_fput_other _ _ _ _ _ hr (by decide) (by decide) (by decide)]; exact hs
  have hlt : act < 8 := by
    have h16 : act < 16 := bits_lt 3 0 _
    have : ¬ act / 2 ^ 3 % 2 = 1 := of_decide_eq_false h3
    omega
  refine ⟨fput (oCpStatus k) fCpStatusActive (act - 2 ^ n + 8) d2, ?_, ?_, ?_, ?_⟩
  · have hs' : fbit (fsat (oCpStatus k) fCpStatusFaults 1 d) (oCpStatus k) fCpStatusSpareUsed = false := hs1
    simp only [processorFault, hact, hs', if_true, Bool.false_eq_true, if_false]
    rfl
  · refine ⟨BitVec.ofNat 32 (setBits 3 0 (act - 2 ^ n + 8) (rget d2 (oCpStatus k)).toNat), ?_⟩
    rw [fput, show d2 = rput _ _ d1 from rfl, rput_rput _ _ _ _ hr1, show d1 = rput _ _ d from rfl, rput_rput _ _ _ _ hr]
    rfl
  · rw [fbit, fget_fput_other _ _ _ _ _ hr2 (by decide) (by decide) (by decide), fget_fput_same _ _ _ _ hr1 (by decide) (by decide)]
    decide
  · have hsub : act - 2 ^ n ≤ act := Nat.sub_le _ _
    rw [fget_fput_same _ _ _ _ hr2 (by decide) (by decide)]
    exact Nat.mod_eq_of_lt (show act - 2 ^ n + 8 < 16 by omega)

/-- Settles O34: an array's fault by whether a spare is left, a spare's and a processor's registers by their fields. -/
theorem sparesTakeOver : Obligations.SparesTakeOver := by
  unfold Obligations.SparesTakeOver
  have hwf {a : Nat} (ha : a < 192) : arrayOk a = true := decide_eq_true ha
  refine ⟨⟨fun s a pr kind ha hf hav hs => ⟨?_, fun hp hh => ?_⟩, fun s a ha => exec_next rfl (hwf ha) rfl,
    fun s a n ha hf hs hw hn => exec_next rfl (hwf ha) ?_, fun s a kind pr ha hf hav hp hh hs hw => exec_next rfl (hwf ha) ?_,
    fun d a n hc ha hn => spareMapIn_fields hc ha hn, fun d a b hc ha _ => avail_retireArray hc ha⟩,
    fun s k n hk hn hc hact h3 hs => ?_⟩
  · obtain ⟨t, ht, hother⟩ := discardTile_frame a kind s.dev
    have he := arrayFault_waits kind hf hav hs
    rw [ht] at he
    have hown := arrOf_setArr_failing (a := a) (x := { arrOf { s.dev with arrs := t } a with failing := true, kept := none })
      { s.dev with arrs := t, subst := s.dev.subst ++ [a] } rfl
    exact ⟨_, exec_next rfl (hwf ha) he, rfl, congrArg Arr.failing hown, congrArg Arr.kept hown, rfl,
      fun b hb => (tabGet_tabSet_ne _ _ _ _ _ _ hb).trans (hother b hb), rfl, rfl, rfl, rfl⟩
  · have he (kind : FaultKind) := arrayFault_waits kind hf hav hs
    simp only [discardTile_none hp] at he
    have hidle : idleTest a false s.dev = arrayFault a .idleTest s.dev := by simp [idleTest, hh]
    exact ⟨exec_next rfl (hwf ha) (he kind), exec_next rfl (hwf ha) (hidle.trans (he _))⟩
  · rw [spareMapped, if_pos ⟨hf, hs⟩, hn]
    exact serveHeld_none ((raiseArray_reported _ _ _ _).waiting.trans ((spareMapIn_waiting _ _ _).trans hw))
  · rw [arrayFault_retires kind hf hav hs hw, retireNow_idle kind hp hh]
  · obtain ⟨d, hd, hfields⟩ := processorFault_spare hc hact h3 hs
    have hwf' : (Instr.processorFault k n).wf = true := by simp only [Instr.wf, Bool.and_eq_true, decide_eq_true_eq]; omega
    exact ⟨d, exec_next rfl hwf' hd, hfields⟩

end Sys2Proof.Machine
end

section
/-! Transfers between devices: who answers for a run, what ends a COPY, what the loss of a member does, and O38. -/

namespace Sys2Proof.Machine

/-- A command recorded twice stands as it was recorded last. -/
theorem setCmd_setCmd {c x : Cmd} (h : x.id = c.id) (d : Device) : setCmd c (setCmd x d) = setCmd c d := by
  simp only [setCmd, List.map_map]
  congr 2
  funext y
  by_cases hy : y.id = c.id <;> simp [hy, h]

/-- A running command of another opcode is not the one an engine looks for. -/
theorem runningAs_none {d : Device} {id op : Nat} {c : Cmd} {ops : Nat → Bool} (h : Runs d id op c) (ho : ops op = false) :
    runningAs d id ops = none := by
  obtain ⟨h1, h2, h3, h4, h5, h6⟩ := h
  simp [runningAs, h1, h3, ho]

theorem runningAs_some {d : Device} {id op : Nat} {c : Cmd} {ops : Nat → Bool} (h : Runs d id op c) (ho : ops op = true) :
    runningAs d id ops = some c := by
  obtain ⟨h1, h2, h3, h4, h5, h6⟩ := h
  simp [runningAs, h1, h2, h3, ho, waitsDump, h4]

/-- A COPY answers for the runs it waits for. -/
theorem runOwner_of_runs {d : Device} {id run : Nat} {c : Cmd} (h : Runs d id 0x40 c) (hr : run ∈ c.runs) : runOwner d id run = some c := by
  rw [runOwner, runningAs_of_runs h]
  exact if_pos hr

theorem runOwner_none {d : Device} {id run op : Nat} {c : Cmd} (h : Runs d id op c) (ho : op ≠ 0x40) : runOwner d id run = none := by
  rw [runOwner, runningAs_none h (decide_eq_false ho)]

/-! ## A COPY to another device -/

theorem copyLeft_more {d : Device} {id : Nat} {c : Cmd} {rs : List Nat} (hc : cmdOf d id = some c) (h : rs ≠ []) :
    copyLeft id rs c.done d = setCmd { c with runs := rs } d := by
  rw [copyLeft, hc]
  exact if_neg h

/-- The last run of a COPY that judges no scale ends it. -/
theorem copyLeft_last {d : Device} {id : Nat} {c : Cmd} (hc : cmdOf d id = some c) (hn : tSrcDev d c = none ∨ tNarrow c = 0)
    (hs : c.done.status ≠ stDeadline) : copyLeft id [] c.done d = setCmd (endedAs { c with runs := [] } c.done) d := by
  let c1 : Cmd := { c with runs := [] }
  have hid : c1.id = id := cmdOf_id (c := c) hc
  have hfound : cmdOf (setCmd { c with runs := [] } d) id = some c1 := by
    have h : cmdOf d c1.id = some c := hid ▸ hc
    exact hid ▸ cmdOf_setCmd_same h
  have hjudge : ¬ (c.done.status = stOk ∧ (tSrcDev (setCmd c1 d) c).isSome ∧ tNarrow c ≠ 0) := by
    rintro ⟨-, h1, h2⟩
    rcases hn with hn | hn
    · have : tSrcDev (setCmd c1 d) c = tSrcDev d c := rfl
      rw [this, hn] at h1; cases h1
    · exact h2 hn
  have hstep : copyLeft id [] c.done d = endCmd c1 c.done (setCmd c1 d) := by
    rw [copyLeft, hc]
    simp only [if_true]
    rw [if_neg hjudge, hfound]
  rw [hstep, endCmd_plain hs]
  exact setCmd_setCmd (c := endedAs c1 c.done) (x := c1) rfl d

/-! ## A member without a route (R49) -/

theorem members_lost {d : Device} {id slot : Nat} {c : Cmd} (h : Runs d id 0x10 c) (hs : slot ≠ ownSlot d) :
    remoteTimeout id slot d = partEnds id slot { status := stRemote, detail := 0x8000 + slot } c.budget 0 d := by
  have ho := h.op
  simp only [remoteTimeout, runOwner_none h (by decide), runningAs_some (ops := fun op => decide (op = 0x10) || isColl op) h (by decide), ho,
    if_true, memberLost, h.cmd, if_neg hs]

/-- Among ends that are all good but one without a route, that one is reported. -/
theorem domainDone_lost {c : Cmd} {slot : Nat} {x : Done} (he : ∀ e ∈ c.ends, e.2.status = stOk) (hx : x.status = stRemote) :
    domainDone { c with ends := c.ends ++ [(slot, x)] } = x := by
  have hbad : (c.ends ++ [(slot, x)]).filter (fun e => decide (e.2.status ≠ stOk)) = [(slot, x)] := by
    have h0 : c.ends.filter (fun e => decide (e.2.status ≠ stOk)) = [] :=
      List.filter_eq_nil_iff.mpr fun e h => by simp [he e h]
    have h1 : decide (x.status ≠ stOk) = true := by rw [hx]; decide
    rw [List.filter_append, h0, List.filter_cons, h1]; rfl
  have hshared : (c.shared.findSome? fun s => [(slot, x)].find? fun y => decide (y.1 = s) && decide (y.2.status ≠ stRemote)) = none := by
    refine List.findSome?_eq_none_iff.mpr fun s _ => ?_
    simp [hx]
  simp only [domainDone, hbad, hshared, hx]
  simp [hx]
  rw [← hx]

/-- The part of a member without a route is the last awaited: the command ends so. -/
theorem memberLost_last {d : Device} {id slot : Nat} {c : Cmd} (h : Runs d id 0x10 c) (ha : slot ∈ awaited c)
    (he : ∀ e ∈ c.ends, e.2.status = stOk) {x : Done} (hx : x.status = stRemote)
    (hl : awaited { c with ends := c.ends ++ [(slot, x)] } = []) :
    partEnds id slot x c.budget 0 d =
      setCmd (endedAs { c with ends := c.ends ++ [(slot, x)] } x) (inboxDrop c.part (ownDev d + 1) c.id d) := by
  let c1 : Cmd := { c with ends := c.ends ++ [(slot, x)] }
  have hin : (awaited c).contains slot = true := List.contains_iff_mem.mpr ha
  have hx' : x.status ≠ stDeadline := by rw [hx]; decide
  have hy : ¬ ((domainDone c1).status = stOk ∧ (!bit 1 (domainDone c1).flags) = true) := by
    rw [domainDone_lost he hx, hx]
    exact fun h => absurd h.1 (by decide)
  have hstep : partEnds id slot x c.budget 0 d = endCmd c1 (domainDone c1) (inboxDrop c.part (ownDev d + 1) c.id (setCmd c1 d)) := by
    simp only [partEnds, h.cmd, hin, Bool.not_true, Bool.false_eq_true, if_false]
    rw [if_pos hl, if_neg hy]
    rfl
  rw [hstep, domainDone_lost he hx, endCmd_plain hx']
  exact setCmd_setCmd (c := endedAs c1 x) (x := c1) rfl (inboxDrop c.part (ownDev d + 1) c.id d)

theorem stopOthers_linkRegsKept (c : Cmd) (d : Device) : LinkRegsKept d (stopOthers c d) :=
  .foldl _ (fun _ _ => .trans .congr (routeSend_linkRegsKept _ _)) _ d

/-- While other parts are awaited they are told to stop. -/
theorem memberLost_others {d : Device} {id slot : Nat} {c : Cmd} (h : Runs d id 0x10 c) (ha : slot ∈ awaited c)
    (he : ∀ e ∈ c.ends, e.2.status = stOk) {x : Done} (hx : x.status = stRemote)
    (hl : awaited { c with ends := c.ends ++ [(slot, x)] } ≠ []) :
    (partEnds id slot x c.budget 0 d).mem = d.mem ∧
      cmdOf (partEnds id slot x c.budget 0 d) id =
        some { c with ends := c.ends ++ [(slot, x)], stop := some { status := stAborted } } := by
  let c1 : Cmd := { c with ends := c.ends ++ [(slot, x)] }
  let c2 : Cmd := { c1 with stop := some { status := stAborted } }
  have hin : (awaited c).contains slot = true := List.contains_iff_mem.mpr ha
  have hfirst : (c.ends.any fun e => decide (e.2.status ≠ stOk)) = false :=
    List.any_eq_false.mpr fun e hm => by simp [he e hm]
  have hbad : x.status ≠ stOk := by rw [hx]; decide
  have hstop : c.stop.or (some { status := stAborted }) = some { status := stAborted } := by rw [h.not_stopped]; rfl
  have hstep : partEnds id slot x c.budget 0 d = stopOthers c1 (setCmd c2 d) := by
    simp only [partEnds, h.cmd, hin, hfirst, Bool.not_true, Bool.not_false, Bool.false_eq_true, if_false]
    rw [if_neg hl, if_pos ⟨hbad, trivial⟩, hstop]
    exact congrArg (stopOthers c1) (setCmd_setCmd (c := c2) (x := c1) rfl d)
  have hkept := stopOthers_linkRegsKept c1 (setCmd c2 d)
  have hid : c2.id = id := cmdOf_id (c := c) h.cmd
  rw [hstep]
  refine ⟨hkept.mem, ?_⟩
  rw [cmdOf, hkept.cmds, ← hid]
  exact cmdOf_setCmd_same (x := c) (hid ▸ h.cmd)

/-- A collective that loses a member will stop. -/
theorem collective_lost {d : Device} {id slot : Nat} {c : Cmd} (h : Runs d id (opOf c) c) (hc : isColl (opOf c) = true)
    (hd : domainOf c = true) (hs : slot ≠ ownSlot d) (hm : slot ∈ members d c.part) :
    remoteTimeout id slot d = setCmd { c with stop := some { status := stRemote, detail := 0x8000 + slot } } d := by
  have hops : (decide (opOf c = 0x10) || isColl (opOf c)) = true := by rw [hc, Bool.or_true]
  have h40 : opOf c ≠ 0x40 := fun e => by rw [e] at hc; revert hc; decide
  have h10 : opOf c ≠ 0x10 := fun e => by rw [e] at hc; revert hc; decide
  have hif : domainOf c = true ∧ slot ≠ ownSlot d ∧ slot ∈ members d c.part ∧ c.stop.isNone = true :=
    ⟨hd, hs, hm, by rw [h.not_stopped]; rfl⟩
  simp only [remoteTimeout, runOwner_none h h40, runningAs_some (ops := fun op => decide (op = 0x10) || isColl op) h hops, if_neg h10]
  rw [if_pos hif]

/-! ## The first packet of a transfer (R263, R429) -/

/-- In RUN the request restarts the quiet time and is checked. -/
theorem remoteRequest_run {r : RemReq} {d : Device} (h : d.clk.power = .run) :
    let d' := { d with clk := { d.clk with busyAt := d.clk.time } }
    remoteRequest r d = if !sideBad r.lo (r.hi + 1 - r.lo) && rangeOwned d r.part r.lo r.hi && sourceOk d r.part r.src then
      { d' with rem := { d'.rem with accepted := d'.rem.accepted ++ [r] } } else sendPacket r.src r.part true (.refused r.id) d' := by
  intro d'
  have hp : powered d = true := by rw [powered, h]
  have hw : wakeRun d' = d' := by
    unfold wakeRun
    dsimp only
    split
    next e => exact absurd (h.symm.trans e) (by decide)
    next e => exact absurd (h.symm.trans e) (by decide)
    next => rfl
  simp only [remoteRequest, hp, if_true]
  rw [hw]
  rfl

/-- Settles O38: the first packet in RUN, a COPY at its issuer run by run, and the loss of a member. -/
theorem remoteTransfersAnswered : Obligations.RemoteTransfersAnswered := by
  unfold Obligations.RemoteTransfersAnswered
  refine ⟨fun s r hsrc hpart hp => ?_, fun s id run c h hr => ⟨fun hd => ⟨fun hl => ?_, fun hl hn hs => ?_⟩, fun hd => ?_, ?_, ?_⟩,
    fun s id slot c h hc hd hs hm => exec_next rfl rfl (collective_lost h hc hd hs hm), fun s id slot c h hs ha he => ?_⟩
  · have hw : (Instr.remoteRequest r).wf = true := by simp [Instr.wf, devOk, partOk, hsrc, hpart]
    exact ⟨fun ok => exec_next rfl hw ((remoteRequest_run hp).trans (if_pos ok)),
      fun ok => exec_next rfl hw ((remoteRequest_run hp).trans (if_neg (by rw [ok]; decide)))⟩
  · refine exec_next rfl rfl ?_
    simp only [visible, runOwner_of_runs h hr, hd, if_true, runDone]
    exact copyLeft_more h.cmd hl
  · refine exec_next rfl rfl ?_
    simp only [visible, runOwner_of_runs h hr, hd, if_true, runDone, hl]
    exact copyLeft_last h.cmd hn hs
  · refine exec_next rfl rfl ?_
    simp [visible, runOwner_of_runs h hr, hd]
  · refine exec_next rfl rfl ?_
    simp only [remoteTimeout, runOwner_of_runs h hr]
    exact endCmd_plain (show stRemote ≠ stDeadline by decide)
  · refine exec_next rfl rfl ?_
    simp only [refused, runningAs_of_runs h, if_neg (List.ne_nil_of_mem hr)]
    exact endCmd_plain (by decide)
  · refine ⟨fun hl => exec_next rfl rfl ((members_lost h hs).trans (memberLost_last h ha he rfl hl)), fun hl => ?_⟩
    obtain ⟨hmem, hcmd⟩ := memberLost_others (x := { status := stRemote, detail := 0x8000 + slot }) h ha he rfl hl
    exact ⟨_, exec_next rfl rfl (members_lost h hs), rfl, hmem, hcmd⟩

end Sys2Proof.Machine
end

section
/-! What starting a command leaves: the queue that it is served from, its array's tiles, the work of its start, and O20. -/

namespace Sys2Proof.Machine

/-! ## What a packet that is sent leaves -/

/-- e is d but for its links, what has left it, and registers from the HBM block on. -/
def Sent (d e : Device) : Prop :=
  ∃ r l o, e = { d with regs := r, links := l, out := o } ∧ ∀ k < 0x10000, rget e k = rget d k

theorem Sent.refl (d : Device) : Sent d d := ⟨d.regs, d.links, d.out, rfl, fun _ _ => rfl⟩

theorem Sent.trans {d e f : Device} (h : Sent d e) (k : Sent e f) : Sent d f := by
  obtain ⟨_, _, _, rfl, hr⟩ := h
  obtain ⟨r, l, o, rfl, hs⟩ := k
  exact ⟨r, l, o, rfl, fun k hk => (hs k hk).trans (hr k hk)⟩

theorem Sent.of_regs {off : Nat} (w : Word) (d : Device) (h : 0x10000 ≤ off) : Sent d (rput off w d) :=
  ⟨_, d.links, d.out, rfl, fun k hk => rget_rput_ne _ _ _ _ (by omega)⟩

theorem Sent.ite {b : Prop} [Decidable b] {d e f : Device} (h : Sent d e) (k : Sent d f) : Sent d (if b then e else f) := by
  split <;> assumption

theorem Sent.foldl {α : Type} {f : Device → α → Device} (hf : ∀ d x, Sent d (f d x)) (l : List α) (d : Device) : Sent d (l.foldl f d) := by
  induction l generalizing d with
  | nil => exact .refl d
  | cons x r ih => exact (hf d x).trans (ih _)

theorem setLink_sent (l : Nat) (x : Link) (d : Device) : Sent d (setLink l x d) := ⟨d.regs, _, d.out, rfl, fun _ _ => rfl⟩
theorem emit_sent (o : Out) (d : Device) : Sent d (emit o d) := ⟨d.regs, d.links, _, rfl, fun _ _ => rfl⟩

/-- The counters of a unit lie above the HBM block (R521). -/
theorem perfOne_sent (u ev : Nat) (part : Option Nat) (k : Nat) (d : Device) : Sent d (perfOne u ev part k d) := by
  have hcnt (i : Nat) : 0x10000 ≤ oUnitCnt u i := by unfold oUnitCnt; omega
  have hhi (i : Nat) : 0x10000 ≤ oUnitCntHi u i := by unfold oUnitCntHi; omega
  have hctl (i : Nat) : 0x10000 ≤ oUnitCtl u i := by unfold oUnitCtl; omega
  unfold perfOne perfUnit
  refine .foldl (fun d i => .ite (.trans ?_ (.ite (.of_regs _ _ (hctl i)) (.refl _))) (.refl d)) _ d
  exact (Sent.of_regs _ d (hhi i)).trans (.of_regs _ _ (hcnt i))

/-- A packet goes out on a link, or waits for one (R433). -/
theorem routeSend_sent (p : Packet) (d : Device) : Sent d (routeSend p d) := by
  have ht (l : Nat) : Sent d (transmit l p d) := by
    unfold transmit sendFlits
    exact .ite (((setLink_sent _ _ d).trans (emit_sent _ _)).trans (perfOne_sent _ _ _ _ _)) (setLink_sent _ _ d)
  unfold routeSend
  split
  · exact ht _
  · split
    · exact setLink_sent _ _ d
    · exact .refl d

/-! ## The bookkeeping of a start -/

/-- Two records of a command that started at one time, in one place, with one phase. -/
def SameStart (c x : Cmd) : Prop :=
  x.id = c.id ∧ x.startAt = c.startAt ∧ x.div = c.div ∧ x.part = c.part ∧ x.words = c.words ∧ x.phase = c.phase

/-- e differs from d only in what a command's start may touch beside memory, clocks, pins, arrays and tiles, and command id stays as
started. -/
structure Begun (id : Nat) (d e : Device) : Prop where
  mem : e.mem = d.mem
  clk : e.clk = d.clk
  pins : e.pins = d.pins
  arrs : e.arrs = d.arrs
  tiles : e.tiles = d.tiles
  cmd : ∀ c, cmdOf d id = some c → ∃ x, cmdOf e id = some x ∧ SameStart c x

theorem SameStart.refl (c : Cmd) : SameStart c c := ⟨rfl, rfl, rfl, rfl, rfl, rfl⟩

theorem SameStart.trans {a b c : Cmd} (h : SameStart a b) (k : SameStart b c) : SameStart a c := by
  obtain ⟨h1, h2, h3, h4, h5, h6⟩ := h
  obtain ⟨k1, k2, k3, k4, k5, k6⟩ := k
  exact ⟨k1.trans h1, k2.trans h2, k3.trans h3, k4.trans h4, k5.trans h5, k6.trans h6⟩

theorem Begun.refl (id : Nat) (d : Device) : Begun id d d := ⟨rfl, rfl, rfl, rfl, rfl, fun c h => ⟨c, h, .refl c⟩⟩

theorem Begun.trans {id : Nat} {d e f : Device} (h : Begun id d e) (k : Begun id e f) : Begun id d f := by
  refine ⟨k.mem.trans h.mem, k.clk.trans h.clk, k.pins.trans h.pins, k.arrs.trans h.arrs, k.tiles.trans h.tiles, fun c hc => ?_⟩
  obtain ⟨x, hx, hs⟩ := h.cmd c hc
  obtain ⟨y, hy, ht⟩ := k.cmd x hx
  exact ⟨y, hy, hs.trans ht⟩

theorem Begun.foldl {α : Type} {id : Nat} {f : Device → α → Device} (hf : ∀ d x, Begun id d (f d x)) (l : List α) (d : Device) :
    Begun id d (l.foldl f d) := by
  induction l generalizing d with
  | nil => exact .refl id d
  | cons x r ih => exact (hf d x).trans (ih _)

/-- A step that leaves the commands. -/
theorem Begun.of_cmds {id : Nat} {d e : Device} (h1 : e.mem = d.mem) (h2 : e.clk = d.clk) (h3 : e.pins = d.pins) (h4 : e.arrs = d.arrs)
    (h5 : e.tiles = d.tiles) (h6 : e.cmds = d.cmds) : Begun id d e :=
  ⟨h1, h2, h3, h4, h5, fun c hc => ⟨c, by rw [cmdOf, h6]; exact hc, .refl c⟩⟩

theorem Reported.begun {id : Nat} {d e : Device} (h : Reported d e) : Begun id d e := by
  obtain ⟨_, _, _, _, _, rfl⟩ := h
  exact .of_cmds rfl rfl rfl rfl rfl rfl

theorem RegsOnly.begun {id : Nat} {d e : Device} (h : RegsOnly d e) : Begun id d e := by
  obtain ⟨_, rfl⟩ := h
  exact .of_cmds rfl rfl rfl rfl rfl rfl

theorem Sent.begun {id : Nat} {d e : Device} (h : Sent d e) : Begun id d e := by
  obtain ⟨_, _, _, rfl, -⟩ := h
  exact .of_cmds rfl rfl rfl rfl rfl rfl

/-- The record of the command itself, advanced. -/
theorem setCmd_begun {id : Nat} {d : Device} {c x : Cmd} (hc : cmdOf d id = some c) (h : SameStart c x) : Begun id d (setCmd x d) := by
  have hid : x.id = id := h.1.trans (cmdOf_id hc)
  refine ⟨rfl, rfl, rfl, rfl, rfl, fun c' hc' => ⟨x, ?_, ?_⟩⟩
  · have : cmdOf d x.id = some c := hid ▸ hc
    exact hid ▸ cmdOf_setCmd_same this
  · obtain rfl : c = c' := Option.some.inj (hc.symm.trans hc')
    exact h

/-! ## What the starts do -/

/-- A read that fails is counted (R253). -/
theorem readFail_regsOnly {d e : Device} {l n st : Nat} (h : readFail d l n = some (st, e)) : RegsOnly d e := by
  unfold readFail at h
  split at h
  · cases h
  next a _ =>
    split at h
    · obtain ⟨-, rfl⟩ := Prod.mk.inj (Option.some.inj h)
      exact countParity_regsOnly a d
    · obtain ⟨-, rfl⟩ := Prod.mk.inj (Option.some.inj h)
      exact .refl d

/-- The read of the pricking list (R276). -/
theorem readPrick_begun {c : Cmd} {d : Device} (hc : cmdOf d c.id = some c) : Begun c.id d (readPrick c d) := by
  have hset {e : Device} (h : Begun c.id d e) {x : Cmd} (hx : SameStart c x) (he : e.cmds = d.cmds) : Begun c.id d (setCmd x e) :=
    h.trans (setCmd_begun (c := c) (by rw [cmdOf, he]; exact hc) hx)
  have hread := hbmRead_regsOnly (mPrick c) 128 (some c.part) d
  have hcmds {e f : Device} (h : RegsOnly e f) : f.cmds = e.cmds := by obtain ⟨_, rfl⟩ := h; rfl
  unfold readPrick
  dsimp only
  split
  · exact .refl _ d
  · split
    · split
      next st e heq =>
        have h := hread.trans (readFail_regsOnly heq)
        exact hset h.begun ⟨rfl, rfl, rfl, rfl, rfl, rfl⟩ (hcmds h)
      next => exact hset hread.begun ⟨rfl, rfl, rfl, rfl, rfl, rfl⟩ (hcmds hread)
    · exact setCmd_begun hc ⟨rfl, rfl, rfl, rfl, rfl, rfl⟩

theorem dumpSkipped_begun (id : Nat) (c : Cmd) (w : Nat) (d : Device) : Begun id d (dumpSkipped c w d) :=
  (raise_reported _ _ _ _ _ _ d).begun.trans (breach_reported _ _ _ _).begun

/-- Watches that a start matches (R542). -/
theorem matchWatches_begun (id : Nat) (d : Device) : Begun id d (matchWatches id d) := by
  have harm (d : Device) (w : Nat) : Begun id d (armWatch id d w) := by
    unfold armWatch
    split
    · exact .refl id d
    next c hc =>
      split
      · split
        · exact dumpSkipped_begun id c w d
        · split
          · exact setCmd_begun hc ⟨rfl, rfl, rfl, rfl, rfl, rfl⟩
          · exact setCmd_begun hc ⟨rfl, rfl, rfl, rfl, rfl, rfl⟩
      · exact .refl id d
  unfold matchWatches
  split
  · split
    · exact .foldl harm _ d
    · exact .refl id d
  · exact .refl id d

/-- A collective whose members have all told is admitted in the step of its start. -/
theorem collStart_begun {id : Nat} {d : Device}
    (h : ∀ c, cmdOf d id = some c → c.startAt = d.clk.time ∧ c.div = fget d oAclkCtrl fAclkCtrlDiv) : Begun id d (collStart id d) := by
  unfold collStart
  split
  next c hc =>
    obtain ⟨h1, h2⟩ := h c hc
    split
    · exact setCmd_begun hc ⟨rfl, h1.symm, h2.symm, rfl, rfl, rfl⟩
    · exact .refl id d
  next => exact .refl id d

/-- One member's descriptor goes out, if there is room for it (R444). -/
def descStep (id : Nat) (d : Device) (m : Nat) : Device :=
  match cmdOf d id with
  | none => d
  | some c =>
    if c.descTo.contains m || !descRoom d m then d
    else
      let d := if (heldDesc d c m).isSome then d else { d with coll := { d.coll with sent := d.coll.sent ++ [(m, cId c)] } }
      sendDesc m c.part (descOf d c) (setCmd { c with descTo := c.descTo ++ [m] } d)

theorem sendDescs_eq (c : Cmd) (d : Device) : sendDescs c d = collStart c.id ((others d c).foldl (descStep c.id) d) := rfl

theorem descStep_begun (id : Nat) (d : Device) (m : Nat) :
    Begun id d (descStep id d m) ∧ ∀ k < 0x10000, rget (descStep id d m) k = rget d k := by
  unfold descStep
  split
  · exact ⟨.refl id d, fun _ _ => rfl⟩
  next c hc =>
    split
    · exact ⟨.refl id d, fun _ _ => rfl⟩
    · have hsend {e : Device} (h1 : Begun id d e) (h2 : e.cmds = d.cmds) (h3 : ∀ k, rget e k = rget d k) :
          let t := sendDesc m c.part (descOf e c) (setCmd { c with descTo := c.descTo ++ [m] } e)
          Begun id d t ∧ ∀ k < 0x10000, rget t k = rget d k := by
        intro t
        obtain ⟨r, l, o, ht, hr⟩ : Sent (setCmd { c with descTo := c.descTo ++ [m] } e) t := routeSend_sent _ _
        have hs : Sent (setCmd { c with descTo := c.descTo ++ [m] } e) t := ⟨r, l, o, ht, hr⟩
        have hset : Begun id e (setCmd { c with descTo := c.descTo ++ [m] } e) :=
          setCmd_begun (c := c) (by rw [cmdOf, h2]; exact hc) ⟨rfl, rfl, rfl, rfl, rfl, rfl⟩
        exact ⟨(h1.trans hset).trans hs.begun, fun k hk => (hr k hk).trans (h3 k)⟩
      by_cases hh : (heldDesc d c m).isSome
      · simp only [hh, if_true]
        exact hsend (.refl id d) rfl fun _ => rfl
      · simp only [hh]
        exact hsend (.of_cmds rfl rfl rfl rfl rfl rfl) rfl fun _ => rfl

theorem descSteps_begun (id : Nat) (l : List Nat) (d : Device) :
    Begun id d (l.foldl (descStep id) d) ∧ ∀ k < 0x10000, rget (l.foldl (descStep id) d) k = rget d k := by
  induction l generalizing d with
  | nil => exact ⟨.refl id d, fun _ _ => rfl⟩
  | cons m r ih =>
    obtain ⟨h1, h2⟩ := descStep_begun id d m
    obtain ⟨h3, h4⟩ := ih (descStep id d m)
    exact ⟨h1.trans h3, fun k hk => (h4 k hk).trans (h2 k hk)⟩

/-- Descriptors go to the other members, and a collective that has them all is admitted, at the time and division of its start. -/
theorem sendDescs_begun {c : Cmd} {d : Device} (hc : cmdOf d c.id = some c) (ht : c.startAt = d.clk.time)
    (hv : c.div = fget d oAclkCtrl fAclkCtrlDiv) : Begun c.id d (sendDescs c d) := by
  rw [sendDescs_eq]
  obtain ⟨h, hr⟩ := descSteps_begun c.id (others d c) d
  refine h.trans (collStart_begun fun c' hc' => ?_)
  obtain ⟨x, hx, -, hs, hd, -⟩ := h.cmd c hc
  obtain rfl : x = c' := Option.some.inj (hx.symm.trans hc')
  exact ⟨by rw [hs, ht, h.clk], by rw [hd, hv, fget, fget, hr _ (by decide)]⟩

/-- The opcodes whose start does no work. -/
def startsPlain (op : Nat) : Prop := op ∈ [0x00, 0x01, 0x11, 0x12, 0x40]

theorem startWork_plain {c : Cmd} (d : Device) (h : startsPlain (opOf c)) : startWork c d = d ∧ usesVector c = false := by
  simp only [startsPlain, List.mem_cons, List.not_mem_nil, or_false] at h
  rcases h with h | h | h | h | h <;> simp [startWork, isVec, usesVector, isColl, h]

/-- A vector opcode without an operation ends at its start (R346). -/
theorem startWork_malformed {c : Cmd} (d : Device) (h : usesVector c = true ∧ isVec c = false) :
    startWork c d = setCmd (endedAs c { status := stMalformed }) d := by
  obtain ⟨hv, hi⟩ := h
  have h10 : opOf c ≠ 0x10 := by
    intro e
    simp [usesVector, e] at hv
  simp only [startWork, if_neg h10, hi, hv, if_true, Bool.false_eq_true, if_false]
  exact endCmd_plain (show stMalformed ≠ stDeadline by decide)

/-- Any other command is at work after its start. -/
theorem startWork_begun {c : Cmd} {d : Device} (hc : cmdOf d c.id = some c) (ht : c.startAt = d.clk.time)
    (hv : c.div = fget d oAclkCtrl fAclkCtrlDiv) (h : ¬ (usesVector c = true ∧ isVec c = false)) : Begun c.id d (startWork c d) := by
  unfold startWork
  split
  · exact (readPrick_begun hc).trans (matchWatches_begun _ _)
  · split
    · exact matchWatches_begun _ _
    next hi =>
      split
      next hu => exact absurd ⟨hu, by simpa using hi⟩ h
      next =>
        split
        · exact sendDescs_begun hc ht hv
        · exact .refl _ d

/-! ## The tiles that begin again (R37) -/

/-- A tile count that a start on these arrays leaves: of another array, band and die. -/
def tileKept (as : List Nat) (k : Nat) : Bool :=
  !(as.contains k || (decide (192 ≤ k) && decide (k < 204) && as.any fun a => decide (k = 192 + bandOf a)) ||
    (decide (204 ≤ k) && as.any fun a => decide (k = 204 + dieOf a)))

theorem tilesAgain_eq (c : Cmd) (d : Device) :
    tilesAgain c d = { d with tiles := d.tiles.filter fun e => tileKept (if usesArrays c then motifList (targetOf c) else []) e.1 } := rfl

theorem tabGet_filter_out {α : Type} (dflt : α) {k : Nat} (p : Nat → Bool) (t : Tab α) (h : p k = false) :
    tabGet dflt k (t.filter fun e => p e.1) = dflt := by
  induction t with
  | nil => rfl
  | cons e r ih =>
    obtain ⟨k', w⟩ := e
    by_cases hp : p k' = true
    · have hk : k' ≠ k := fun e => by rw [e, h] at hp; cases hp
      simp [hp, tabGet, hk, ih]
    · simp [hp, ih]

theorem tiles_tilesAgain (c : Cmd) (d : Device) :
    (∀ a, tabGet 0 a (tilesAgain c d).tiles = tabGet 0 a d.tiles ∨ tabGet 0 a (tilesAgain c d).tiles = 0) ∧
      (usesArrays c = true → ∀ a ∈ motifList (targetOf c), tabGet 0 a (tilesAgain c d).tiles = 0) ∧
      (usesArrays c = false → (tilesAgain c d).tiles = d.tiles) := by
  rw [tilesAgain_eq]
  refine ⟨fun a => ?_, fun h a ha => ?_, fun h => ?_⟩
  · by_cases hk : tileKept (if usesArrays c then motifList (targetOf c) else []) a = true
    · exact .inl (tabGet_filter_in _ _ _ hk)
    · exact .inr (tabGet_filter_out _ _ _ (by simpa using hk))
  · exact tabGet_filter_out _ _ _ (by simp [tileKept, h, ha])
  · exact List.filter_eq_self.mpr fun e _ => by simp [tileKept, h]

/-! ## The start of a command -/

/-- The device when a command's start is recorded, before the work of the start. -/
def startRecorded (c : Cmd) (d : Device) : Device := tilesAgain c (serveQueue c (setCmd c d))

theorem startRecorded_frame (c : Cmd) (d : Device) :
    ∃ v, startRecorded c d = { setCmd c d with served := v, tiles := (startRecorded c d).tiles } ∧ (usesVector c = false → v = d.served) := by
  by_cases h : usesVector c = true
  · exact ⟨d.served.filter (fun x => decide (x ≠ (c.part, targetOf c))) ++ [(c.part, targetOf c)],
      by simp [startRecorded, tilesAgain, serveQueue, h], fun h' => by rw [h] at h'; cases h'⟩
  · exact ⟨d.served, by simp [startRecorded, tilesAgain, serveQueue, h, setCmd], fun _ => rfl⟩

theorem commandStart_starts {d : Device} {id : Nat} {x : Circ} {c : Cmd} (hc : cmdOf d id = some c) (hq : c.phase = .queued)
    (hx : NoErrors x) (he : eventFailed d c = false) (hs : canStart d c = true) :
    commandStart id x d = startWork (startedCmd d x c) (startRecorded (startedCmd d x c) d) := by
  simp [commandStart, hc, hq, he, hs, applyCirc_none hx, startRecorded]

/-- What the work of the start makes of the record of a command that has just been started. -/
theorem startWork_result {c : Cmd} {d : Device} (hc : cmdOf d c.id = some c) (hp : c.phase = .running) (ht : c.startAt = d.clk.time)
    (hv : c.div = fget d oAclkCtrl fAclkCtrlDiv) :
    ∃ c', cmdOf (startWork c d) c.id = some c' ∧ c'.startAt = c.startAt ∧ c'.div = c.div ∧ c'.part = c.part ∧ c'.words = c.words ∧
      (if usesVector c = true ∧ isVec c = false then c'.phase = .ended ∧ c'.done = { status := stMalformed } else c'.phase = .running) ∧
      (startWork c d).mem = d.mem ∧ (startWork c d).clk = d.clk ∧ (startWork c d).pins = d.pins ∧ (startWork c d).arrs = d.arrs ∧
      (startWork c d).tiles = d.tiles ∧ (startsPlain (opOf c) → c' = c) := by
  by_cases h : usesVector c = true ∧ isVec c = false
  · rw [startWork_malformed d h]
    refine ⟨endedAs c { status := stMalformed }, cmdOf_setCmd_same (c := endedAs c { status := stMalformed }) hc, rfl, rfl, rfl, rfl,
      by rw [if_pos h]; exact ⟨rfl, rfl⟩, rfl, rfl, rfl, rfl, rfl, fun hpl => ?_⟩
    rw [(startWork_plain d hpl).2] at h
    cases h.1
  · obtain ⟨hmem, hclk, hpins, harrs, htiles, hcmd⟩ := startWork_begun hc ht hv h
    obtain ⟨c', hc', -, h1, h2, h3, h4, h5⟩ := hcmd c hc
    refine ⟨c', hc', h1, h2, h3, h4, by rw [if_neg h]; exact h5.trans hp, hmem, hclk, hpins, harrs, htiles, fun hpl => ?_⟩
    rw [(startWork_plain d hpl).1, hc] at hc'
    exact (Option.some.inj hc').symm

/-- Settles O20: a start is its record (`startRecorded_frame`, `tiles_tilesAgain`) and the work of its start (`startWork_result`). -/
theorem commandStarts : Obligations.CommandStarts := by
  unfold Obligations.CommandStarts
  refine fun s id x c hc hq hx => ⟨fun he hs => ?_, fun he => exec_next rfl rfl ?_, fun he hs => exec_next rfl rfl ?_⟩
  · let c1 := startedCmd s.dev x c
    obtain ⟨v, hframe, hserved⟩ := startRecorded_frame c1 s.dev
    obtain ⟨hsame, hagain, hnone⟩ := tiles_tilesAgain c1 (serveQueue c1 (setCmd c1 s.dev))
    have hid : c1.id = id := cmdOf_id (c := c) hc
    have hrec : cmdOf (startRecorded c1 s.dev) c1.id = some c1 := by
      have : cmdOf s.dev c1.id = some c := hid ▸ hc
      rw [hframe]
      exact cmdOf_setCmd_same this
    have hst : (serveQueue c1 (setCmd c1 s.dev)).tiles = s.dev.tiles := by unfold serveQueue; split <;> rfl
    rw [hst] at hsame hnone
    obtain ⟨c', hc', h1, h2, h3, h4, h5, hmem, hclk, hpins, harrs, htiles, hplain⟩ :=
      startWork_result hrec rfl (by rw [hframe]; rfl) (by rw [hframe]; rfl)
    refine ⟨_, c', exec_next rfl rfl (commandStart_starts hc hq hx he hs), rfl, hid ▸ hc', h1, h2, h3, h4, h5, fun a => ?_, fun hu a ha => ?_,
      hmem.trans ?_, hclk.trans ?_, hpins.trans ?_, harrs.trans ?_, fun hpl => ⟨?_, fun hu => htiles.trans (hnone hu)⟩⟩
    · rw [htiles]; exact hsame a
    · rw [htiles]; exact hagain hu a ha
    iterate 4 · rw [hframe]; rfl
    · obtain ⟨hwork, hu⟩ := startWork_plain (c := c1) (startRecorded c1 s.dev) hpl
      change startWork c1 (startRecorded c1 s.dev) =
        { setCmd c' s.dev with tiles := (startWork c1 (startRecorded c1 s.dev)).tiles }
      rw [hserved hu] at hframe
      rw [hwork, hplain hpl]
      exact hframe
  · simp only [commandStart, hc, hq, he]
    rfl
  · simp [commandStart, hc, hq, he, hs]

end Sys2Proof.Machine
end

section
/-! Completions: what a command's end leaves of its partition's rings, the record's way to its ring, and O21. -/

namespace Sys2Proof.Machine

/-! ## What the end of a command leaves of the completion rings -/

/-- The registers of partition p's completion rings, and the one that holds the role. -/
def cqReg (p o : Nat) : Prop := (0x40200 + 0x1000 * p ≤ o ∧ o < 0x40300 + 0x1000 * p) ∨ o = oPairStatus

/-- e keeps of d what a record for partition p needs: memory, what has left the device, the commands, the rings and their registers. -/
structure RingsKept (p : Nat) (d e : Device) : Prop where
  rising : Rising e.parts
  mem : e.mem = d.mem
  out : e.out = d.out
  cmds : e.cmds = d.cmds
  held : (partOf e p).held = (partOf d p).held
  cqs : (partOf e p).cqs = (partOf d p).cqs
  regs : ∀ o, cqReg p o → rget e o = rget d o

theorem RingsKept.refl {p : Nat} {d : Device} (h : Rising d.parts) : RingsKept p d d := ⟨h, rfl, rfl, rfl, rfl, rfl, fun _ _ => rfl⟩

theorem RingsKept.trans {p : Nat} {d e f : Device} (h : RingsKept p d e) (k : RingsKept p e f) : RingsKept p d f :=
  ⟨k.rising, k.mem.trans h.mem, k.out.trans h.out, k.cmds.trans h.cmds, k.held.trans h.held, k.cqs.trans h.cqs,
    fun o ho => (k.regs o ho).trans (h.regs o ho)⟩

section
variable {p : Nat} {d : Device} (h : Rising d.parts)
include h

/-- A register that is none of the rings'. -/
theorem RingsKept.rput {off : Nat} (w : Word) (ho : ¬ cqReg p off) : RingsKept p d (rput off w d) :=
  ⟨h, rfl, rfl, rfl, rfl, rfl, fun _ hc => rget_rput_ne _ _ _ _ fun e => ho (e ▸ hc)⟩

theorem RingsKept.fput {off : Nat} (f : Fld) (v : Nat) (ho : ¬ cqReg p off) : RingsKept p d (fput off f v d) := .rput h _ ho
theorem RingsKept.fsat {off : Nat} (f : Fld) (n : Nat) (ho : ¬ cqReg p off) : RingsKept p d (fsat off f n d) := .fput h _ _ ho

/-- A partition's record with the same rings and held records. -/
theorem RingsKept.setPart {k : Nat} {x : Part} (h1 : x.held = (partOf d k).held) (h2 : x.cqs = (partOf d k).cqs) :
    RingsKept p d (setPart k x d) := by
  refine ⟨tabSet_rising _ _ _ _ h, rfl, rfl, rfl, ?_, ?_, fun _ _ => rfl⟩
  all_goals
    by_cases hk : p = k
    · subst hk; rw [partOf, Machine.setPart, tabGet_tabSet_same _ _ _ _ h]; assumption
    · rw [partOf, Machine.setPart, tabGet_tabSet_ne _ _ _ _ _ _ hk]; rfl

theorem setSc_ringsKept (ch : Nat) (x : ScRt) : RingsKept p d (setSc ch x d) := ⟨h, rfl, rfl, rfl, rfl, rfl, fun _ _ => rfl⟩

/-- The scale channel of a command that ends. -/
theorem scEnd_ringsKept (c : Cmd) : RingsKept p d (scEnd c d) := by
  unfold scEnd
  split
  · split
    · exact setSc_ringsKept h _ _
    · exact setSc_ringsKept h _ _
  · exact .refl h

/-- The order event that a command signals (R329). -/
theorem signalEvent_ringsKept {c : Cmd} (hp : c.part = p) : RingsKept p d (signalEvent c d) := by
  have he : sigEvOf c < 64 := bits_lt 28 23 _
  unfold signalEvent
  dsimp only
  split
  · split
    · exact .fput h _ _ (by unfold cqReg oEvent oPairStatus; omega)
    · exact .rput h _ (by unfold cqReg oEventErr oPairStatus; omega)
  · exact .refl h

/-- The counts of aborts (R338, R575). -/
theorem countAbort_ringsKept {c : Cmd} (dn : Done) (hp : c.part = p) : RingsKept p d (countAbort c dn d) := by
  have hreg : ¬ cqReg p (oAbortCounts c.part) := by unfold cqReg oAbortCounts oPairStatus; omega
  have hcount : RingsKept p d (Machine.fsat (oAbortCounts c.part) fAbortCountsAborted 1 d) := .fsat h _ _ hreg
  have haborted : RingsKept p d (if dn.status = stAborted then
      (if abortOn (partOf d c.part) then
        Machine.setPart c.part { partOf d c.part with aborted := (partOf d c.part).aborted + 1 }
          (Machine.fsat (oAbortCounts c.part) fAbortCountsAborted 1 d)
      else Machine.fsat (oAbortCounts c.part) fAbortCountsAborted 1 d) else d) := by
    split
    · split
      · exact hcount.trans (.setPart hcount.rising rfl rfl)
      · exact hcount
    · exact .refl h
  unfold countAbort
  dsimp only
  split
  · have hlate := RingsKept.setPart (p := p) (k := c.part) haborted.rising (x := { partOf _ c.part with abortLate := true }) rfl rfl
    exact (haborted.trans hlate).trans (.fsat hlate.rising _ _ hreg)
  · exact haborted
end

/-! ## A breach while the device is fenced (R390, R474) -/

section
variable {p : Nat} {d : Device} (h : Rising d.parts)
include h

theorem faultLog_ringsKept (code : Nat) : RingsKept p d (faultLog code d) := by
  have hlog (i : Nat) (hi : i < 16) : ¬ cqReg p (oFaultLog i) := by unfold cqReg oFaultLog oPairStatus; omega
  have htime (i : Nat) (hi : i < 16) : ¬ cqReg p (oFaultTime i) := by unfold cqReg oFaultTime oPairStatus; omega
  have hput2 {d : Device} (h : Rising d.parts) (i : Nat) (hi : i < 16) (v w : Word) :
      RingsKept p d (rput (oFaultLog i) v (rput (oFaultTime i) w d)) :=
    have ht := RingsKept.rput h w (htime i hi)
    ht.trans (.rput ht.rising v (hlog i hi))
  have hfold (l : List Nat) : ∀ {d : Device}, Rising d.parts → RingsKept p d (l.foldl (fun d k =>
      rput (oFaultLog (15 - k)) (rget d (oFaultLog (14 - k))) (rput (oFaultTime (15 - k)) (rget d (oFaultTime (14 - k))) d)) d) := by
    induction l with
    | nil => exact fun h => .refl h
    | cons k r ih => exact fun h => (hput2 h _ (by omega) _ _).trans (ih h)
  exact (hfold _ h).trans (hput2 (hfold _ h).rising 0 (by omega) _ _)

theorem journal_ringsKept (t : Nat) (bs : List Byte) : RingsKept p d (journal t bs d) := by
  obtain ⟨⟨r, j, hj⟩, -, -, hr⟩ := journal_frame t bs d
  have hregs (o : Nat) (ho : cqReg p o) : rget (journal t bs d) o = rget d o :=
    hr o (by unfold cqReg oPairStatus at ho; unfold oJnlNextSeq; omega) (by unfold cqReg oPairStatus at ho; unfold oJnlDrops; omega)
  rw [hj] at hregs ⊢
  exact ⟨h, rfl, rfl, rfl, rfl, rfl, hregs⟩

theorem trc_ringsKept (t : Trace) : RingsKept p d { d with trc := t } := ⟨h, rfl, rfl, rfl, rfl, rfl, fun _ _ => rfl⟩

theorem evTrace_ringsKept (e : EvRec) : RingsKept p d (evTrace e d) := by
  unfold evTrace
  split
  · split
    · split
      · exact trc_ringsKept h _
      · split
        · exact trc_ringsKept h _
        · exact trc_ringsKept h _
    · exact .refl h
  · unfold trcPut
    split
    · split
      · exact trc_ringsKept h _
      · have ht := trc_ringsKept (p := p) h { d.trc with
            lostPk := tabSet 0 1 (tabGet 0 1 d.trc.lostPk + 1) d.trc.lostPk
            lostBy := tabSet 0 1 (tabGet 0 1 d.trc.lostBy +
              pktBytes { type := 5, stamp := e.time, payload := leDWords (evBytes e 0), since := d.clk.time }) d.trc.lostBy }
        have hreg : ¬ cqReg p (oTrcLoss 1) := by unfold cqReg oTrcLoss oPairStatus; omega
        exact ht.trans (.fsat (off := oTrcLoss 1) ht.rising _ _ hreg)
    · exact .refl h

theorem evJournal_ringsKept (e : EvRec) : RingsKept p d (evJournal e d) := by
  unfold evJournal
  split
  · split
    · exact faultLog_ringsKept h _
    · exact journal_ringsKept h _ _
  · split
    · exact journal_ringsKept h _ _
    · exact .refl h

/-- A fenced device holds its event records (R474). -/
theorem evDeliver_ringsKept {k : Nat} (e : EvRec) (hf : role d = roleFenced) (hk : k = 0) : RingsKept p d (evDeliver k e d) := by
  have hroom : evRoom d k = false := by simp [evRoom, hf]
  unfold evDeliver
  dsimp only
  rw [hroom, Bool.false_and, if_neg (by decide)]
  have hset := RingsKept.setPart (p := p) (k := k) h (x := { partOf d k with evHeld := (evHold 256 e (partOf d k).evHeld).1 }) rfl rfl
  exact hset.trans (.fsat hset.rising _ _ (by unfold cqReg oEqLost oPairStatus; omega))

theorem raiseAt_ringsKept (e : EvRec) (hf : role d = roleFenced) : RingsKept p d (raiseAt true 0 e d) := by
  unfold raiseAt
  dsimp only
  split
  · have hset (l : List EvRec) := RingsKept.setPart (p := p) (k := 0) h (x := { partOf d 0 with evOpen := l }) rfl rfl
    split
    · exact (hset _).trans (evJournal_ringsKept (hset _).rising e)
    · exact hset _
  · have hset := RingsKept.setPart (p := p) (k := 0) h (x := { partOf d 0 with evOpen := (partOf d 0).evOpen ++ [{ e with count := 0 }] }) rfl rfl
    have hdel := hset.trans (evDeliver_ringsKept hset.rising e hf rfl)
    have htr := evTrace_ringsKept (p := p) hdel.rising e
    exact (hdel.trans htr).trans (evJournal_ringsKept htr.rising e)

theorem breach_ringsKept (hf : role d = roleFenced) : RingsKept p d (breach 1 2 1 d) :=
  have hr : RingsKept p d (raiseDev 0x8003 1 2 1 d) := raiseAt_ringsKept h _ hf
  hr.trans (.fsat hr.rising _ _ (by unfold cqReg oBreachCounts oPairStatus; omega))
end

/-! ## The record's way to its ring (R382 to R385) -/

section
variable {p q : Nat} {d e : Device} (h : RingsKept p d e)
include h

theorem RingsKept.cqEn (hq : q < 16) : cqEn e p q = cqEn d p q := by
  have := h.regs (oCqCtrl p q) (by unfold cqReg oCqCtrl; omega)
  have hf : fget e (oCqCtrl p q) fCqCtrlEnable = fget d (oCqCtrl p q) fCqCtrlEnable := by rw [fget, this, fget]
  rw [Machine.cqEn, fbit, hf, Machine.cqEn, fbit]

theorem RingsKept.cqSize (hq : q < 16) : cqSize e p q = cqSize d p q := by
  have := h.regs (oCqCtrl p q) (by unfold cqReg oCqCtrl; omega)
  simp only [Machine.cqSize, fget, this]

theorem RingsKept.cqOf : cqOf (partOf e p) q = cqOf (partOf d p) q := by rw [Machine.cqOf, h.cqs, Machine.cqOf]

theorem RingsKept.role : role e = role d := by
  have := h.regs oPairStatus (.inr rfl)
  simp only [Machine.role, fget, this]

theorem RingsKept.cqOpen (hq : q < 16) : cqOpen e p q = cqOpen d p q := by
  rw [Machine.cqOpen, Machine.cqOpen, h.cqEn hq, h.role, cqFull, cqFull, h.cqOf, h.cqSize hq]

theorem RingsKept.base (hq : q < 16) : pair64 e (oCqBaseLo p q) (oCqBaseHi p q) = pair64 d (oCqBaseLo p q) (oCqBaseHi p q) := by
  have h1 := h.regs (oCqBaseLo p q) (by unfold cqReg oCqBaseLo; omega)
  have h2 := h.regs (oCqBaseHi p q) (by unfold cqReg oCqBaseHi; omega)
  rw [pair64, pair64, h1, h2]

theorem RingsKept.held_any : ((partOf e p).held.any fun x => decide (x.1 = q)) = (partOf d p).held.any fun x => decide (x.1 = q) := by
  rw [h.held]
end

theorem ringCq_lt (d : Device) (p sq : Nat) : ringCq d p sq < 16 := bits_lt 8 5 _

/-- A message leaves memory and the commands, and sends at most itself (R372). -/
theorem msixSend_frame (fn v : Nat) (d : Device) :
    (msixSend fn v d).mem = d.mem ∧ (msixSend fn v d).cmds = d.cmds ∧ ∃ m, (msixSend fn v d).out = d.out ++ m := by
  unfold msixSend
  split
  · exact ⟨rfl, rfl, [], (List.append_nil _).symm⟩
  · split
    · exact ⟨rfl, rfl, [], (List.append_nil _).symm⟩
    · exact ⟨rfl, rfl, [.msix fn v], rfl⟩

theorem cqMessage_frame (p q : Nat) (d : Device) :
    (cqMessage p q d).mem = d.mem ∧ (cqMessage p q d).cmds = d.cmds ∧ (∃ m, (cqMessage p q d).out = d.out ++ m) ∧
      ((cqOf (partOf d p) q).irqPending = false → cqMessage p q d = d) := by
  unfold cqMessage
  dsimp only
  split
  next hm =>
    obtain ⟨h1, h2, m, h3⟩ := msixSend_frame p (fget d (oCqCtrl p q) fCqCtrlVector)
      (setPart p (setCq q { cqOf (partOf d p) q with since := 0, irqPending := false } (partOf d p)) d)
    exact ⟨h1, h2, ⟨m, h3⟩, fun hi => by rw [hi] at hm; cases hm.1⟩
  next => exact ⟨rfl, rfl, ⟨[], (List.append_nil _).symm⟩, fun _ => rfl⟩

/-- A record written to its ring: its last three words, then its first, then at most a message. -/
theorem cqWrite_result (p q : Nat) (r : Rec) {d : Device} (hp : Rising d.parts) :
    let n := (cqOf (partOf d p) q).written
    let a := pair64 d (oCqBaseLo p q) (oCqBaseHi p q) + 16 * (n % cqSize d p q)
    (cqWrite p q r d).mem = d.mem ∧ (cqWrite p q r d).cmds = d.cmds ∧
      ∃ m, (cqWrite p q r d).out = d.out ++ [.hostWrite (a + 4) (recTail r),
          .hostWrite a (recFirst r (if n / cqSize d p q % 2 = 0 then 1 else 0))] ++ m ∧
        (r.irq = false → r.status = stOk → r.rtype = 0 → (cqOf (partOf d p) q).irqPending = false → m = []) := by
  intro n a
  let irq := r.irq || decide (r.status ≠ stOk) || decide (r.rtype ≠ 0)
  let x : CqRt := { cqOf (partOf d p) q with
    written := n + 1, since := (cqOf (partOf d p) q).since + 1, irqPending := (cqOf (partOf d p) q).irqPending || irq }
  let d1 := emit (.hostWrite a (recFirst r (if n / cqSize d p q % 2 = 0 then 1 else 0))) (emit (.hostWrite (a + 4) (recTail r)) d)
  let d2 := setPart p (setCq q x (partOf d1 p)) d1
  have hstep : cqWrite p q r d = cqMessage p q d2 := rfl
  have hx : x ≠ {} := fun e => by
    have : n + 1 = 0 := congrArg CqRt.written e
    omega
  have hown : cqOf (partOf d2 p) q = x := by
    have : partOf d2 p = setCq q x (partOf d1 p) := tabGet_tabSet_same _ _ _ _ hp
    rw [this]
    exact tabGet_tabSet_val _ _ _ _ hx
  have hout : d2.out = d.out ++ [.hostWrite (a + 4) (recTail r),
      .hostWrite a (recFirst r (if n / cqSize d p q % 2 = 0 then 1 else 0))] := List.append_assoc _ [_] [_]
  obtain ⟨hmem, hcmds, ⟨m, hm⟩, hnone⟩ := cqMessage_frame p q d2
  rw [hstep]
  refine ⟨hmem, hcmds, m, by rw [hm, hout], fun h1 h2 h3 h4 => ?_⟩
  have hquiet : (cqOf (partOf d2 p) q).irqPending = false := by
    rw [hown]
    show ((cqOf (partOf d p) q).irqPending || (r.irq || decide (r.status ≠ stOk) || decide (r.rtype ≠ 0))) = false
    simp [h1, h2, h3, h4]
  rw [hnone hquiet] at hm
  exact List.append_right_eq_self.mp hm.symm

/-- Records of one ring go in order: one that is open and has none held takes the next (R384). -/
theorem cqPost_open {p q : Nat} {d : Device} (r : Rec) (h : cqOpen d p q = true)
    (hn : ((partOf d p).held.any fun x => decide (x.1 = q)) = false) : cqPost p q r d = cqWrite p q r d := by
  simp [cqPost, h, hn]

/-- A ring that is off holds the record. -/
theorem cqPost_off {p q : Nat} {d : Device} (r : Rec) (h : cqEn d p q = false) :
    cqPost p q r d = setPart p { partOf d p with held := (partOf d p).held ++ [(q, r)] } d := by
  have ho : cqOpen d p q = false := by rw [cqOpen, h]; rfl
  have he : cqEn (setPart p { partOf d p with held := (partOf d p).held ++ [(q, r)] } d) p q = false := h
  simp only [cqPost, ho, Bool.false_and, Bool.false_eq_true, if_false, cqNoteFull, he]

/-! ## The completion -/

/-- The device when a completion's record is about to be posted. -/
def completed (id : Nat) (c : Cmd) (d : Device) : Device :=
  let d := countAbort c (reported (partOf d c.part) c.done) (signalEvent c d)
  let d := if fixedTime c ∧ role d = roleFenced then breach 1 2 1 d else d
  let x := partOf d c.part
  let d := setPart c.part (if serialLater (stepOf c) x.lastStep then { x with lastStep := stepOf c } else x) (scEnd c d)
  { d with cmds := d.cmds.filter (fun x => decide (x.id ≠ id)), clk := { d.clk with busyAt := d.clk.time } }

/-- What stands before the command leaves. -/
theorem completed_kept {id : Nat} {c : Cmd} {d : Device} (h : Rising d.parts) :
    ∃ e, RingsKept c.part d e ∧
      completed id c d = { e with cmds := e.cmds.filter (fun x => decide (x.id ≠ id)), clk := { e.clk with busyAt := e.clk.time } } := by
  let d2 := countAbort c (reported (partOf d c.part) c.done) (signalEvent c d)
  let d3 := if fixedTime c ∧ role d2 = roleFenced then breach 1 2 1 d2 else d2
  let x := partOf d3 c.part
  let d4 := setPart c.part (if serialLater (stepOf c) x.lastStep then { x with lastStep := stepOf c } else x) (scEnd c d3)
  have h1 : RingsKept c.part d (signalEvent c d) := signalEvent_ringsKept h rfl
  have h2 : RingsKept c.part d d2 := h1.trans (countAbort_ringsKept h1.rising _ rfl)
  have h3 : RingsKept c.part d d3 := by
    by_cases hf : fixedTime c ∧ role d2 = roleFenced
    · rw [show d3 = breach 1 2 1 d2 from if_pos hf]
      exact h2.trans (breach_ringsKept h2.rising hf.2)
    · rw [show d3 = d2 from if_neg hf]
      exact h2
  have h4 := scEnd_ringsKept (p := c.part) h3.rising c
  have hsame : partOf (scEnd c d3) c.part = x := by
    unfold scEnd
    split
    · split <;> rfl
    · rfl
  refine ⟨d4, (h3.trans h4).trans (.setPart h4.rising ?_ ?_), rfl⟩
  all_goals rw [hsame]; split <;> rfl

theorem completionWrite_posts {id : Nat} {c : Cmd} {d : Device} (hc : cmdOf d id = some c) (he : c.phase = .ended) (h1 : c.dumpIn = [])
    (h2 : c.dumpOut = []) (hm : c.member = none) (ht : turnToEnd d c = true) (hr : cqRoom d c.part (ringCq d c.part c.sq) = true) :
    completionWrite id d =
      cqPost c.part (ringCq d c.part c.sq) (cmdRec c (reported (partOf d c.part) c.done)) (completed id c d) := by
  simp only [completionWrite, hc, he, h1, h2, hm, ht, hr]
  rfl

section
variable {s : State} {id : Nat} {c : Cmd} (hc : cmdOf s.dev id = some c) (he : c.phase = .ended) (h1 : c.dumpIn = []) (h2 : c.dumpOut = [])
  (hparts : Rising s.dev.parts)
include hc he h1 h2

/-- The end of a member's part is told to the device of the command. -/
theorem completionWrite_member {dev n : Nat} (hm : c.member = some (dev, n)) :
    completionWrite id s.dev = sendPacket dev c.part true
      (.shareDone n c.done.status c.done.flags c.done.detail c.done.tilePos c.done.tileCh)
      (scEnd c { s.dev with cmds := s.dev.cmds.filter fun x => decide (x.id ≠ id) }) := by
  simp only [completionWrite, hc, he, h1, h2, hm, memberEnd, cmdOf_id hc]
  rfl

theorem completionWrite_waits (hm : c.member = none) (ht : turnToEnd s.dev c = false) : completionWrite id s.dev = s.dev := by
  simp [completionWrite, hc, he, h1, h2, hm, ht]

include hparts

/-- In its turn, with its ring open, the record is written. -/
theorem completionWrite_open (hm : c.member = none) (ht : turnToEnd s.dev c = true) :
    let p := c.part
    let q := ringCq s.dev p c.sq
    let dn := reported (partOf s.dev p) c.done
    let x := cqOf (partOf s.dev p) q
    let k := cqSize s.dev p q
    let a := pair64 s.dev (oCqBaseLo p q) (oCqBaseHi p q) + 16 * (x.written % k)
    let e := completionWrite id s.dev
    (∀ h ∈ (partOf s.dev p).held, h.1 ≠ q) → cqOpen s.dev p q = true →
      ∃ m, e.cmds = s.dev.cmds.filter (fun x => decide (x.id ≠ id)) ∧ e.mem = s.dev.mem ∧
        e.out = s.dev.out ++ [.hostWrite (a + 4) (recTail (cmdRec c dn)),
          .hostWrite a (recFirst (cmdRec c dn) (if x.written / k % 2 = 0 then 1 else 0))] ++ m ∧
        (irqOf c = false → dn.status = stOk → x.irqPending = false → m = []) := by
  intro p q dn x k a e hheld hopen
  have hq : q < 16 := ringCq_lt _ _ _
  have hany : ((partOf s.dev p).held.any fun y => decide (y.1 = q)) = false := List.any_eq_false.mpr fun y hy => by simp [hheld y hy]
  obtain ⟨f, hk, hdone⟩ := completed_kept (id := id) (c := c) hparts
  have hstep : e = cqWrite p q (cmdRec c dn) (completed id c s.dev) := by
    have hroom : cqRoom s.dev p q = true := by simp [cqRoom, hopen, hany]
    refine (completionWrite_posts hc he h1 h2 hm ht hroom).trans (cqPost_open _ ?_ ?_)
    · rw [hdone]; exact (hk.cqOpen hq).trans hopen
    · rw [hdone]; exact hk.held_any.trans hany
  let g : Device := { f with cmds := f.cmds.filter (fun x => decide (x.id ≠ id)), clk := { f.clk with busyAt := f.clk.time } }
  have hx : cqOf (partOf g p) q = x := hk.cqOf
  have hsize : cqSize g p q = k := hk.cqSize hq
  have hbase : pair64 g (oCqBaseLo p q) (oCqBaseHi p q) = pair64 s.dev (oCqBaseLo p q) (oCqBaseHi p q) := hk.base hq
  obtain ⟨hmem, hcmds, m, hout, hnone⟩ := cqWrite_result p q (cmdRec c dn) (d := g) hk.rising
  rw [hx, hsize, hbase] at hout
  rw [hx] at hnone
  rw [hstep, hdone]
  refine ⟨m, hcmds.trans ?_, hmem.trans hk.mem, hout.trans ?_, fun hi hs hp => hnone hi hs rfl hp⟩
  · show f.cmds.filter _ = _
    rw [hk.cmds]
  · show f.out ++ _ ++ m = _
    rw [hk.out]

/-- In its turn, with its ring off and room in the buffer, the record is held. -/
theorem completionWrite_held (hm : c.member = none) (ht : turnToEnd s.dev c = true) :
    let p := c.part
    let q := ringCq s.dev p c.sq
    let e := completionWrite id s.dev
    cqEn s.dev p q = false → (partOf s.dev p).held.length < 256 →
      e.cmds = s.dev.cmds.filter (fun x => decide (x.id ≠ id)) ∧ e.mem = s.dev.mem ∧ e.out = s.dev.out ∧
        (partOf e p).held = (partOf s.dev p).held ++ [(q, cmdRec c (reported (partOf s.dev p) c.done))] := by
  intro p q e hoff hlen
  have hq : q < 16 := ringCq_lt _ _ _
  obtain ⟨f, hk, hdone⟩ := completed_kept (id := id) (c := c) hparts
  have hstep : e = setPart p { partOf (completed id c s.dev) p with
      held := (partOf (completed id c s.dev) p).held ++ [(q, cmdRec c (reported (partOf s.dev p) c.done))] } (completed id c s.dev) := by
    have hroom : cqRoom s.dev p q = true := by simp [cqRoom, hlen]
    refine (completionWrite_posts hc he h1 h2 hm ht hroom).trans (cqPost_off _ ?_)
    rw [hdone]; exact (hk.cqEn hq).trans hoff
  rw [hstep, hdone]
  refine ⟨?_, hk.mem, hk.out, ?_⟩
  · show f.cmds.filter _ = _
    rw [hk.cmds]
  · rw [partOf, setPart, tabGet_tabSet_same _ _ _ _ hk.rising, ← hk.held]
    rfl
end

/-- A command's record has record type 0 (R382). -/
theorem recFirst_cmdRec (c : Cmd) (dn : Done) (phase : Nat) :
    recFirst (cmdRec c dn) phase = leBytes 4 (dn.status + dn.flags * 2 ^ 8 + phase * 2 ^ 15 + seqOf c * 2 ^ 16) := by
  simp [recFirst, cmdRec]

/-- Settles O21: what stands before the record through `completed_kept`, the record's way through `cqWrite_result`. -/
theorem completionRecordWritten : Obligations.CompletionRecordWritten := by
  unfold Obligations.CompletionRecordWritten
  intro s id c hc he h1 h2 hcan
  obtain ⟨-, -, -, -, hparts, -⟩ := hcan
  intro p q dn left
  refine ⟨fun hm ht hh => ⟨fun ho => ?_, fun hoff hlen => ?_⟩, fun hm ht => exec_next rfl rfl (completionWrite_waits hc he h1 h2 hm ht),
    fun dev n hm => exec_next rfl rfl (completionWrite_member hc he h1 h2 hm)⟩
  · obtain ⟨m, hcmds, hmem, hout, hnone⟩ := completionWrite_open hc he h1 h2 hparts hm ht hh ho
    rw [recFirst_cmdRec] at hout
    exact ⟨_, m, exec_next rfl rfl rfl, rfl, hcmds, hmem, hout, hnone⟩
  · obtain ⟨hcmds, hmem, hout, hheld⟩ := completionWrite_held hc he h1 h2 hparts hm ht hoff hlen
    exact ⟨_, exec_next rfl rfl rfl, rfl, hcmds, hmem, hout, hheld⟩

end Sys2Proof.Machine
end

section
/-! The steps of an array: what a job is, what drives, swaps and drains leave, and O35. -/

namespace Sys2Proof.Machine

/-! ## Jobs -/

/-- What it means that an array has work under way for a command that runs. -/
theorem jobAt_some {d : Device} {a : Nat} {c : Cmd} {ss : List Share} {s : Share} {p : Prog} (h : jobAt d a = some (c, ss, s, p)) :
    jobAny d a = some (c, ss, s, p) ∧ (arrOf d a).prog = some p ∧ s.arr = a ∧ c.stop = none ∧ cmdOf d c.id = some c := by
  obtain ⟨hany, hstop⟩ := Option.filter_eq_some_iff.mp h
  have hjob : jobOf d a = some (c, ss, s, p) := by
    unfold jobAny at hany
    split at hany
    · cases hany
    · exact hany
  unfold jobOf at hjob
  split at hjob
  · cases hjob
  next q hq =>
    split at hjob
    next c' hc' =>
      obtain ⟨s', hs', he⟩ := Option.map_eq_some_iff.mp hjob
      simp only [Prod.mk.injEq] at he
      obtain ⟨rfl, -, rfl, rfl⟩ := he
      unfold runningAs at hc'
      split at hc'
      next x hx =>
        split at hc'
        · obtain rfl := Option.some.inj hc'
          refine ⟨hany, hq, by simpa using List.find?_some hs', by simpa using hstop, ?_⟩
          rw [cmdOf_id hx]
          exact hx
        · cases hc'
      next => cases hc'
    next => cases hjob

theorem arrOf_setArr_prog {a : Nat} {x : Arr} {q : Prog} (d : Device) (h : x.prog = some q) : arrOf (setArr a x d) a = x :=
  tabGet_tabSet_val _ _ _ _ fun e => by rw [e] at h; cases h

theorem arrOf_setArr_ne {a b : Nat} (x : Arr) (d : Device) (h : b ≠ a) : arrOf (setArr a x d) b = arrOf d b := tabGet_tabSet_ne _ _ _ _ _ _ h

theorem RegsOnly.arrOf {d e : Device} (h : RegsOnly d e) (a : Nat) : arrOf e a = arrOf d a := by obtain ⟨_, rfl⟩ := h; rfl
theorem RegsOnly.outside {d e : Device} (h : RegsOnly d e) : e.mem = d.mem ∧ e.cmds = d.cmds ∧ e.out = d.out ∧ SameOutside d e := by
  obtain ⟨_, rfl⟩ := h
  exact ⟨rfl, rfl, rfl, rfl, rfl, rfl, rfl, rfl, rfl, rfl, rfl, rfl, rfl, rfl⟩

/-! ## Weight and segment swaps (R76, R80) -/

/-- The load that a pass leaves in the shadow latches, the counts with it, and its faults: the next pass's, or the next group's first. -/
def shadowLoad (d : Device) (c : Cmd) (a : Nat) (s : Share) (p : Prog) : Latches × Nat × Faults :=
  match p.passes[p.pass + 1]?, if p.pass + 1 < p.passes.length then none else loadAhead d c s p with
  | some r, _ => loadOf d c a s p.group p.snap r
  | none, some (l, m, _) => (l, m, [])
  | none, none => ({}, 0, [])

/-- What a pass leaves in its array. -/
def drivenArr (d : Device) (c : Cmd) (a : Nat) (s : Share) (p : Prog) (q : Pass) : Arr :=
  let x := arrOf d a
  let ahead := (if p.pass + 1 < p.passes.length then none else loadAhead d c s p).map fun y => y.2.2
  { x with latch := x.latchShadow, latchShadow := latched (shadowLoad d c a s p).1 ((shadowLoad d c a s p).2.2 ++ ahead.getD []),
           active := (drivePass d c a s p.group p.taps p.snap x.latchShadow q x.active).1
           prog := some { p with pass := p.pass + 1, seg := p.seg + 1, ahead := ahead } }

/-- A pass without faults changes its array, and counts. -/
theorem weightSwap_drives {d : Device} {a : Nat} {c : Cmd} {ss : List Share} {s : Share} {p : Prog} {q : Pass}
    (hj : jobAt d a = some (c, ss, s, p)) (hopen : p.closed = false) (hseg : p.seg < interval c) (hq : p.passes[p.pass]? = some q)
    (hfed : feedFaults d c a s p.group p.snap q = [])
    (hload : ∀ r, p.passes[p.pass + 1]? = some r → (loadOf d c a s p.group p.snap r).2.2 = []) :
    RegsOnly (setArr a (drivenArr d c a s p q) d) (weightSwap a d) := by
  have hfl : (shadowLoad d c a s p).2.2 = [] := by
    unfold shadowLoad
    split
    next _ _ r h => exact hload r h
    next => rfl
    next => rfl
  have hstep : weightSwap a d = faulted c ss s (shadowLoad d c a s p).2.2 (perfArr a 0x05 (some c.part) 1
      (satCount a c.part ((drivePass d c a s p.group p.taps p.snap (arrOf d a).latchShadow q (arrOf d a).active).2 +
        (shadowLoad d c a s p).2.1) (setArr a (drivenArr d c a s p q) d))) := by
    have hc : ¬ (p.closed = true ∨ interval c ≤ p.seg) := not_or.mpr ⟨by rw [hopen]; decide, by omega⟩
    simp only [weightSwap, hj, hq, if_neg hc, hfed, if_true, List.nil_append]
    rfl
  rw [hstep, hfl, faulted, if_pos rfl]
  exact (satCount_regsOnly _ _ _ _).trans (perfArr_regsOnly _ _ _ _ _)

theorem segmentSwap_drains {d : Device} {a : Nat} {c : Cmd} {ss : List Share} {s : Share} {p : Prog} (hj : jobAt d a = some (c, ss, s, p))
    (he : segmentEnds c p = true) :
    let fin := decide (p.passes.length ≤ p.pass)
    let dr : Drain := { group := p.group, fin := fin, mask := p.mask, tags := p.tags, snap := p.snap, fetch := p.fetch, div := p.div }
    let p' : Prog := { p with seg := 0, segs := p.segs + 1, mask := if fin then p.mask else (p.mask + 1) % 65536, closed := fin,
                              drain := some dr }
    segmentSwap a d = setArr a { arrOf d a with active := {}, shadow := (arrOf d a).active, prog := some p' } d := by
  simp only [segmentSwap, hj, he, if_true]

/-! ## What a drain leaves (R80, R164, R168) -/

/-- e is d but for registers, memory and its errors, commands, scatter queues, samples and trace, and no parity unit has begun to fail. -/
def Drained (d e : Device) : Prop :=
  ∃ r m x cs sc n t, e = { d with regs := r, mem := m, merr := x, cmds := cs, scat := sc, smpCount := n, trc := t } ∧
    (d.merr.parity = [] → x.parity = [])

theorem Drained.refl (d : Device) : Drained d d := ⟨d.regs, d.mem, d.merr, d.cmds, d.scat, d.smpCount, d.trc, rfl, id⟩

theorem Drained.trans {d e f : Device} (h : Drained d e) (k : Drained e f) : Drained d f := by
  obtain ⟨_, _, x, _, _, _, _, rfl, hx⟩ := h
  obtain ⟨r, m, y, cs, sc, n, t, rfl, hy⟩ := k
  exact ⟨r, m, y, cs, sc, n, t, rfl, hy ∘ hx⟩

theorem Drained.foldl {α : Type} {f : Device → α → Device} (hf : ∀ d x, Drained d (f d x)) (l : List α) (d : Device) :
    Drained d (l.foldl f d) := by
  induction l generalizing d with
  | nil => exact .refl d
  | cons x r ih => exact (hf d x).trans (ih _)

theorem Stored.drained {d e : Device} (h : Stored d e) : Drained d e := by
  obtain ⟨r, m, x, rfl, hx⟩ := h
  exact ⟨r, m, x, d.cmds, d.scat, d.smpCount, d.trc, rfl, hx⟩

theorem RegsOnly.drained {d e : Device} (h : RegsOnly d e) : Drained d e := h.stored.drained

theorem setCmd_drained (c : Cmd) (d : Device) : Drained d (setCmd c d) :=
  ⟨d.regs, d.mem, d.merr, _, d.scat, d.smpCount, d.trc, rfl, id⟩

theorem stopWith_drained (n : Nat) (x : Done) (d : Device) : Drained d (stopWith n x d) := by
  unfold stopWith
  split
  · split
    · exact setCmd_drained _ d
    · exact .refl d
  · exact .refl d

theorem Drained.parity {d e : Device} (h : Drained d e) (hp : d.merr.parity = []) : e.merr.parity = [] := by
  obtain ⟨_, _, _, _, _, _, _, rfl, hx⟩ := h
  exact hx hp

/-! ### Writes of drains and outputs -/

/-- Bits of a row store written to equal memories make equal memories. -/
theorem storeBytes_mem_congr {l : Nat} (bs : List Byte) {d e : Device} (h : e.mem = d.mem) (hl : 2 ^ 40 ≤ l) :
    (storeBytes l bs e).mem = (storeBytes l bs d).mem := by
  induction bs generalizing l d e with
  | nil => exact h
  | cons b r ih =>
    refine ih ?_ (by omega)
    rw [memKey_scratch e hl, memKey_scratch d hl]
    exact congrArg (tabSet 0 l b) h

theorem bytesAt_congr {l : Nat} (n : Nat) {d e : Device} (h : e.mem = d.mem) (hl : 2 ^ 40 ≤ l) : bytesAt e l n = bytesAt d l n := by
  refine List.map_congr_left fun k _ => ?_
  rw [byteAt, byteAt, memKey_scratch e (by omega), memKey_scratch d (by omega), memGet, memGet, h]

theorem setRowBits_mem_congr (a b n v : Nat) {d e : Device} (h : e.mem = d.mem) : (setRowBits a b n v e).mem = (setRowBits a b n v d).mem := by
  have hl := aperture_le_rowAddr a (b / 8)
  simp only [setRowBits, bytesAt_congr _ h hl]
  exact storeBytes_mem_congr _ h hl

/-- One field written, if it is. -/
def applyWr (a : Nat) (d : Device) (w : Wr) : Device :=
  match w.2.2 with
  | some v => setRowBits a w.1 w.2.1 v d
  | none => d

theorem applyWrites_eq (a : Nat) (ws : List Wr) (d : Device) : applyWrites a ws d = ws.foldl (applyWr a) d := rfl

theorem applyWrites_mem_congr (a : Nat) (ws : List Wr) {d e : Device} (h : e.mem = d.mem) :
    (applyWrites a ws e).mem = (applyWrites a ws d).mem := by
  rw [applyWrites_eq, applyWrites_eq]
  induction ws generalizing d e with
  | nil => exact h
  | cons w r ih =>
    refine ih ?_
    unfold applyWr
    split
    · exact setRowBits_mem_congr _ _ _ _ h
    · exact h

theorem applyWrites_frame (a : Nat) (ws : List Wr) (d : Device) : ∃ m, applyWrites a ws d = { d with mem := m } := by
  rw [applyWrites_eq]
  induction ws generalizing d with
  | nil => exact ⟨d.mem, rfl⟩
  | cons w r ih =>
    obtain ⟨m, hm⟩ : ∃ m, applyWr a d w = { d with mem := m } := by
      unfold applyWr
      split
      · exact storeBytes_frame _ _ d
      · exact ⟨d.mem, rfl⟩
    obtain ⟨m', hm'⟩ := ih { d with mem := m }
    exact ⟨m', by rw [List.foldl_cons, hm, hm']⟩

theorem applyWrites_drained (a : Nat) (ws : List Wr) (d : Device) : Drained d (applyWrites a ws d) := by
  obtain ⟨m, h⟩ := applyWrites_frame a ws d
  exact ⟨d.regs, m, d.merr, d.cmds, d.scat, d.smpCount, d.trc, h, id⟩

/-- With no failing unit the writes are made. -/
theorem commit_plain {d : Device} (a : Nat) (all : Bool) (ws : List Wr) (h : d.merr.parity = []) :
    commit a all ws d = (applyWrites a ws d, none) := by
  have hf : mergeFault d a all ws = none := by rw [mergeFault, if_pos h]
  have hp : (applyWrites a ws d).merr.parity = [] := (applyWrites_drained a ws d).parity h
  simp only [commit, hf, hp, if_true]

theorem putWord_drained (a w v : Nat) (d : Device) : Drained d (putWord a w v d) := (put_stored _ _ d).drained

theorem tkWrite_drained (c : Cmd) (a cs : Nat) (l : List TkRec) (d : Device) : Drained d (tkWrite c a cs l d) :=
  .foldl (fun d _ => putWord_drained _ _ _ d) _ d

theorem axis0Update_drained (c : Cmd) (a : Nat) (s : Share) (dr : Drain) (outs : List CellOut) (d : Device) :
    Drained d (axis0Update c a s dr outs d) := .foldl (fun d _ => tkWrite_drained _ _ _ _ d) _ d

theorem predict_drained (c : Cmd) (a : Nat) (s : Share) (dr : Drain) (sa : Nat) (cells : List (Nat × Nat × Nat × Nat)) (d : Device) :
    Drained d (predict c a s dr sa cells d).1 := by
  refine .foldl (fun d h => ?_) _ d
  split
  · exact putWord_drained _ _ _ d
  · exact .refl d

/-! ### Lines of a scatter (R216 to R224) -/

theorem setBank_drained (b k : Nat) (l : List ScatLine) (d : Device) : Drained d (setBank b k l d) :=
  ⟨d.regs, d.mem, d.merr, d.cmds, _, d.smpCount, d.trc, rfl, id⟩

theorem retireLine_drained (b : Nat) (x : ScatLine) (d : Device) : Drained d (retireLine b x d).1 := by
  unfold retireLine
  dsimp only
  split
  · exact (countParity_regsOnly _ d).drained
  · refine (perfOne_regsOnly _ _ _ _ d).drained.trans (.foldl (fun d e => ?_) _ _)
    exact (storeBytes_stored _ _ d).drained.trans (satCount_regsOnly _ _ _ _).drained

theorem retireBank_drained (b k : Nat) (d : Device) : Drained d (retireBank b k d).1 := by
  unfold retireBank
  split
  · exact .refl d
  · exact (setBank_drained _ _ _ d).trans (retireLine_drained _ _ _)

theorem issueLine_drained (b : Nat) (x : ScatLine) (r : Device × Option (Nat × Nat)) : Drained r.1 (issueLine b x r).1 := by
  unfold issueLine
  dsimp only
  split
  · have hstall := (fsat_regsOnly (oScatterStall b) fScatterStallStalls 1 r.1).trans (perfOne_regsOnly b 0x12 (some (bandOwner r.1 b)) 1 _)
    exact (hstall.drained.trans (retireBank_drained _ _ _)).trans (setBank_drained _ _ _ _)
  · exact setBank_drained _ _ _ _

/-- Folds that carry something beside the device. -/
theorem Drained.foldl_fst {α β : Type} {f : Device × β → α → Device × β} (hf : ∀ r x, Drained r.1 (f r x).1) (l : List α) (r : Device × β) :
    Drained r.1 (l.foldl f r).1 := by
  induction l generalizing r with
  | nil => exact .refl r.1
  | cons x l ih => exact (hf r x).trans (ih _)

/-! ### The outputs of a tile group -/

theorem mergeTile_drained {d : Device} (c : Cmd) (a : Nat) (sn : Snap) (cells : List (Nat × Nat × Nat × Nat)) (h : d.merr.parity = []) :
    Drained d (mergeTile c a sn cells d).1 := by
  unfold mergeTile
  simp only [commit_plain _ _ _ h]
  exact applyWrites_drained _ _ d

/-- Folds over devices with no failing unit. -/
theorem Drained.foldl_of_parity {α : Type} {f : Device → α → Device} (hf : ∀ d x, d.merr.parity = [] → Drained d (f d x)) (l : List α)
    {d : Device} (h : d.merr.parity = []) : Drained d (l.foldl f d) := by
  induction l generalizing d with
  | nil => exact .refl d
  | cons x r ih => exact (hf d x h).trans (ih ((hf d x h).parity h))

theorem scMax_regsOnly (ch w : Nat) (d : Device) : RegsOnly d (scMax ch w d) := by
  unfold scMax; exact .ite (fput_regsOnly _ _ _ d) (.refl d)

theorem countOuts_drained (c : Cmd) (a : Nat) (outs : List CellOut) (d : Device) : Drained d (countOuts c a outs d) := by
  unfold countOuts
  dsimp only
  have hmax (l : List OutVal) (k : Nat) : RegsOnly d (if mSc c = 0 then d else
      l.foldl (fun d o => scMax (mScNum c) (captured c o.x) d) (fsat (oScClipped (mScNum c)) fScClippedClipped k d)) :=
    .ite (.refl d) ((fsat_regsOnly _ _ _ d).trans (.foldl (fun d _ => scMax_regsOnly _ _ d) _ _))
  refine Drained.trans ?_ ((satCount_regsOnly a c.part _ _).trans (perfArr_regsOnly a 0x0A (some c.part) _ _)).drained
  split
  · exact (hmax _ _).drained.trans (setCmd_drained _ _)
  · exact (hmax _ _).drained

/-- The tiles of a group whose stores answer reach the end of their group, whichever way its outputs take. -/
theorem finishGroup_ends (c : Cmd) (ss : List Share) (s : Share) (sa : Nat) (dr : Drain) (sums : List ((Nat × Nat) × Nat)) {d : Device}
    (st : List (List Nat)) (h : d.merr.parity = []) :
    ∃ e, Drained d e ∧ finishGroup c ss s sa dr sums (d, st) = tilesDone c s dr (e, st) := by
  have hstage (cells : List (Nat × Nat × Nat × Nat)) : stageFaults d c s.arr s dr cells = [] := by rw [stageFaults, if_pos h]
  unfold finishGroup
  simp only [hstage, commit_plain _ _ _ h]
  split
  · refine ⟨_, .foldl_of_parity (fun d τ hd => ?_) _ h, rfl⟩
    exact (mergeTile_drained _ _ _ _ hd).trans (satCount_regsOnly _ _ _ _).drained
  · split
    · have hlines := Drained.foldl_fst (fun r j => Drained.foldl_fst (fun r l => issueLine_drained (bandOf s.arr) l r)
        (bankLines c ss s.arr (siteOf dr.snap j) (groupTile c s dr.group)
          (((liveCells c s dr.group sums).filter fun y => decide (y.2.1 = j)).map fun y => ((groupCh c s dr.group).1 + y.2.2.1, y.2.2.2))) r)
        (distinct ((liveCells c s dr.group sums).map fun y => y.2.1)) (d, none)
      split
      · exact ⟨_, hlines.trans (stopWith_drained _ _ _), rfl⟩
      · exact ⟨_, hlines, rfl⟩
    · split
      · exact ⟨_, (predict_drained _ _ _ _ _ _ d).trans (satCount_regsOnly _ _ _ _).drained, rfl⟩
      · have hdone (e : Device) (k : Nat) (outs : List CellOut) (he : Drained d e) :
            Drained d (countOuts c s.arr outs (satCount s.arr c.part k e)) :=
          (he.trans (satCount_regsOnly _ _ _ _).drained).trans (countOuts_drained _ _ _ _)
        by_cases ht : mTopk c ≠ 0 ∧ mTkAxis c = 0
        · simp only [if_pos ht]
          exact ⟨_, hdone _ _ _ (axis0Update_drained _ _ _ _ _ d), rfl⟩
        · simp only [if_neg ht]
          exact ⟨_, hdone _ _ _ (applyWrites_drained _ _ d), rfl⟩

/-! ### The tiles of the group -/

theorem trcPut_drained (n : Nat) (p : TPkt) (d : Device) : Drained d (trcPut n p d) := by
  have htrc (t : Trace) : Drained d { d with trc := t } := ⟨d.regs, d.mem, d.merr, d.cmds, d.scat, d.smpCount, t, rfl, id⟩
  unfold trcPut
  split
  · split
    · exact htrc _
    · exact (htrc _).trans (fsat_regsOnly _ _ _ _).drained
  · exact .refl d

theorem sampleOut_drained (bs : List Byte) (d : Device) : Drained d (sampleOut bs d) := by
  have hcount (n : Nat) : Drained d { d with smpCount := n } := ⟨d.regs, d.mem, d.merr, d.cmds, d.scat, n, d.trc, rfl, id⟩
  unfold sampleOut
  dsimp only
  split
  · refine (hcount (d.smpCount + 1)).trans ?_
    unfold putHbm
    split
    · exact (put_stored _ _ _).drained
    · exact .refl _
  · exact trcPut_drained _ _ d

theorem samples_drained (c : Cmd) (a c0 : Nat) (dr : Drain) (l : List (Bool × (Nat × Nat))) (x : Device × List (List Nat)) :
    Drained x.1 (samples c a c0 dr l x).1 := by
  induction l generalizing x with
  | nil => exact .refl x.1
  | cons y r ih =>
    obtain ⟨b, t⟩ := y
    cases b with
    | false => exact ih x
    | true => exact (sampleOut_drained _ x.1).trans (ih _)

/-- The tiles counted at an array, its band and its die (R37). -/
def tilesCounted (a n : Nat) (t : Tab Nat) : Tab Nat :=
  let add (k : Nat) (t : Tab Nat) : Tab Nat := tabSet 0 k ((tabGet 0 k t + n) % 2 ^ 32) t
  add a (add (192 + bandOf a) (add (204 + dieOf a) t))

theorem tilesDone_drained (c : Cmd) (s : Share) (dr : Drain) (x : Device × List (List Nat)) :
    Drained { x.1 with tiles := tilesCounted s.arr (groupTiles c s dr.group).length x.1.tiles } (tilesDone c s dr x).1 :=
  (perfArr_regsOnly _ _ _ _ _).drained.trans (samples_drained _ _ _ _ _ _)

theorem tabGet_tilesCounted {a n : Nat} {t : Tab Nat} (ha : a < 192) (h : Rising t) :
    tabGet 0 a (tilesCounted a n t) = (tabGet 0 a t + n) % 2 ^ 32 := by
  have hrise (k v : Nat) {t : Tab Nat} (h : Rising t) : Rising (tabSet 0 k v t) := tabSet_rising _ _ _ _ h
  rw [tilesCounted, tabGet_tabSet_same _ _ _ _ (hrise _ _ (hrise _ _ h)), tabGet_tabSet_ne _ _ _ _ _ _ (by omega),
    tabGet_tabSet_ne _ _ _ _ _ _ (by omega)]

/-! ### The drains -/

theorem Drained.arrOf {d e : Device} (h : Drained d e) (a : Nat) : arrOf e a = arrOf d a := by
  obtain ⟨_, _, _, _, _, _, _, rfl, -⟩ := h; rfl

theorem Drained.out {d e : Device} (h : Drained d e) : e.out = d.out := by obtain ⟨_, _, _, _, _, _, _, rfl, -⟩ := h; rfl
theorem Drained.tiles {d e : Device} (h : Drained d e) : e.tiles = d.tiles := by obtain ⟨_, _, _, _, _, _, _, rfl, -⟩ := h; rfl

/-- TIME of the first fetch of the group whose drain is under way. -/
def drainFetch (d : Device) (a : Nat) : Nat :=
  match (arrOf d a).prog with | some p => (match p.drain with | some dr => dr.fetch | none => 0) | none => 0

theorem drainEnd_eq (a : Nat) (st : List Nat) (d : Device) :
    drainEnd a st d = (drainGo a (d, stampsOf (drainFetch d a) (st.length / 4) st)).1 := rfl

/-- A chain with a hop to the member still open goes on. -/
theorem chainDone_open {c : Cmd} {ss : List Share} {s : Share} {x : Device × List (List Nat)} (hc : cmdOf x.1 c.id = some c)
    (h : ∃ h ∈ (chainHops ss s).1, ∀ k ∈ c.hops, (allHops ss)[k]? ≠ some h) : chainDone c ss s x = x := by
  obtain ⟨h, hmem, hno⟩ := h
  have hall : ((chainHops ss s).1.all fun h => c.hops.any fun k => decide ((allHops ss)[k]? = some h)) = false := by
    refine List.all_eq_false.mpr ⟨h, hmem, ?_⟩
    simpa using hno
  unfold chainDone
  dsimp only
  split
  · rfl
  · split
    next hc' =>
      obtain rfl := Option.some.inj (hc.symm.trans hc')
      split
      · rw [hall, Bool.false_and, if_neg (by decide)]
      · rfl
    · rfl

/-- An array whose drain has been taken over. -/
def drainedArr (d : Device) (a : Nat) (p : Prog) : Arr := { arrOf d a with shadow := {}, prog := some { p with drain := none } }

section
variable {d : Device} {a : Nat} {c : Cmd} {ss : List Share} {s : Share} {p : Prog} {dr : Drain}
  (hj : jobAt d a = some (c, ss, s, p)) (hdr : p.drain = some dr) (hp : d.merr.parity = [])
include hj hdr hp

/-- A drain takes over the shadow set, and goes to the output stage, to the chain slot or to the promotion buffer. -/
theorem drainGo_result (st : List (List Nat)) (hfree : (dr.fin && inChain c s && p.slot.isSome) = false) :
    ∃ e, RegsOnly (setArr a (drainedArr d a p) d) e ∧
      drainGo a (d, st) =
        if dr.fin && !inChain c s then finishGroup c ss s p.sa dr (drainSums d c a s dr (arrOf d a).shadow).1 (e, st)
        else
          let f := applyWrites a (slotWrites c (if dr.fin then chainLevel c s else freeLevel dr.mask)
            (drainSums d c a s dr (arrOf d a).shadow).1) e
          if dr.fin then chainDone c ss s (setProg a { p with drain := none, slot := some dr } f, st) else (f, st) := by
  obtain ⟨hany, -, -, hstop, -⟩ := jobAt_some hj
  have hslot : slotFault d c a s dr = none := by rw [slotFault, if_pos hp]
  have hgo : ((dr.fin && inChain c s && p.slot.isSome) || (!dr.fin && c.stop.isSome)) = false := by rw [hfree, hstop]; simp
  obtain ⟨r, hr⟩ := (satCount_regsOnly a c.part (drainSums d c a s dr (arrOf d a).shadow).2 d).trans
    (perfArr_regsOnly a 0x06 (some c.part) 1 _)
  refine ⟨{ setArr a (drainedArr d a p) d with regs := r }, ⟨r, rfl⟩, ?_⟩
  have hparity (x : Arr) : (setArr a x { d with regs := r }).merr.parity = [] := hp
  simp only [drainGo, hany, hdr, hgo, hslot, Bool.false_eq_true, if_false]
  rw [hr]
  simp only [commit_plain a false _ (hparity _)]
  rfl


/-- An intermediate drain puts its sums in the promotion buffer. -/
theorem drainEnd_intermediate (st : List Nat) (hfin : dr.fin = false) :
    ∃ e, RegsOnly (setArr a (drainedArr d a p) d) e ∧
      drainEnd a st d = applyWrites a (slotWrites c (freeLevel dr.mask) (drainSums d c a s dr (arrOf d a).shadow).1) e := by
  have hfree : (dr.fin && inChain c s && p.slot.isSome) = false := by rw [hfin]; rfl
  obtain ⟨e, he, hgo⟩ := drainGo_result hj hdr hp (stampsOf (drainFetch d a) (st.length / 4) st) hfree
  refine ⟨e, he, ?_⟩
  rw [drainEnd_eq, hgo]
  simp [hfin]

/-- The final drain of a member of a chain, a hop to it still open, puts its sums in the chain slot. -/
theorem drainEnd_chain (st : List Nat) (hfin : dr.fin = true) (hin : inChain c s = true) (hslot : p.slot = none)
    (hopen : ∃ h ∈ (chainHops ss s).1, ∀ k ∈ c.hops, (allHops ss)[k]? ≠ some h) :
    ∃ e, RegsOnly (setArr a (drainedArr d a p) d) e ∧
      drainEnd a st d = setProg a { p with drain := none, slot := some dr }
        (applyWrites a (slotWrites c (chainLevel c s) (drainSums d c a s dr (arrOf d a).shadow).1) e) := by
  have hfree : (dr.fin && inChain c s && p.slot.isSome) = false := by rw [hslot, Option.isSome_none, Bool.and_false]
  obtain ⟨-, -, -, -, hcmd⟩ := jobAt_some hj
  obtain ⟨e, he, hgo⟩ := drainGo_result hj hdr hp (stampsOf (drainFetch d a) (st.length / 4) st) hfree
  refine ⟨e, he, ?_⟩
  rw [drainEnd_eq, hgo]
  simp only [hfin, hin, Bool.not_true, Bool.and_false, Bool.false_eq_true, if_false, if_true]
  have hkept (ws : List Wr) (q : Prog) : cmdOf (setProg a q (applyWrites a ws e)) c.id = some c := by
    obtain ⟨_, rfl⟩ := he
    obtain ⟨m, hm⟩ := applyWrites_frame a ws _
    rw [hm]
    exact hcmd
  rw [chainDone_open (hkept _ _) hopen]

/-- Any other final drain completes the group's tiles. -/
theorem drainEnd_final (st : List Nat) (hfin : dr.fin = true) (hin : inChain c s = false) :
    ∃ e, RegsOnly (setArr a (drainedArr d a p) d) e ∧
      ∃ f, Drained e f ∧ Drained { f with tiles := tilesCounted s.arr (groupTiles c s dr.group).length f.tiles } (drainEnd a st d) := by
  have hfree : (dr.fin && inChain c s && p.slot.isSome) = false := by rw [hin, Bool.and_false, Bool.false_and]
  obtain ⟨e, he, hgo⟩ := drainGo_result hj hdr hp (stampsOf (drainFetch d a) (st.length / 4) st) hfree
  have hparity : e.merr.parity = [] := by obtain ⟨_, rfl⟩ := he; exact hp
  obtain ⟨f, hf, hdone⟩ := finishGroup_ends c ss s p.sa dr (drainSums d c a s dr (arrOf d a).shadow).1
    (stampsOf (drainFetch d a) (st.length / 4) st) hparity
  refine ⟨e, he, f, hf, ?_⟩
  rw [drainEnd_eq, hgo]
  simp only [hfin, hin, Bool.not_false, Bool.and_true, if_true, hdone]
  exact tilesDone_drained c s dr (f, _)

end

/-- What a drain that writes partial sums leaves. -/
theorem drain_written {d e : Device} {a : Nat} {p : Prog} (he : RegsOnly (setArr a (drainedArr d a p) d) e) (ws : List Wr) :
    arrOf (applyWrites a ws e) a = drainedArr d a p ∧ (∀ b, b ≠ a → arrOf (applyWrites a ws e) b = arrOf d b) ∧
      (applyWrites a ws e).mem = (applyWrites a ws d).mem ∧ (applyWrites a ws e).cmds = d.cmds ∧ (applyWrites a ws e).out = d.out ∧
      SameOutside d (applyWrites a ws e) := by
  obtain ⟨r, rfl⟩ := he
  have hmem := applyWrites_mem_congr a ws (d := d) (e := { setArr a (drainedArr d a p) d with regs := r }) rfl
  obtain ⟨m, hm⟩ := applyWrites_frame a ws { setArr a (drainedArr d a p) d with regs := r }
  rw [hm] at hmem ⊢
  exact ⟨arrOf_setArr_prog d rfl, fun b hb => arrOf_setArr_ne _ d hb, hmem, rfl, rfl, rfl, rfl, rfl, rfl, rfl, rfl, rfl, rfl, rfl, rfl, rfl⟩

/-- A new record of an array's work changes that alone. -/
theorem setProg_leaves (a : Nat) (q : Prog) (d : Device) :
    arrOf (setProg a q d) a = { arrOf d a with prog := some q } ∧ (∀ b, b ≠ a → arrOf (setProg a q d) b = arrOf d b) ∧
      (setProg a q d).mem = d.mem ∧ (setProg a q d).cmds = d.cmds ∧ (setProg a q d).out = d.out ∧
      ∀ e, SameOutside e d → SameOutside e (setProg a q d) :=
  ⟨arrOf_setArr_prog d rfl, fun _ hb => arrOf_setArr_ne _ d hb, rfl, rfl, rfl, fun _ h => h⟩

section
variable {d : Device} {a : Nat} {c : Cmd} {ss : List Share} {s : Share} {p : Prog} {dr : Drain}
  (hj : jobAt d a = some (c, ss, s, p)) (hdr : p.drain = some dr) (hp : d.merr.parity = [])
include hj hdr hp

theorem drainEnd_intermediate_leaves (st : List Nat) (hfin : dr.fin = false) :
    let e := drainEnd a st d
    (arrOf e a).shadow = {} ∧ (arrOf e a).prog = some { p with drain := none } ∧ (∀ b, b ≠ a → arrOf e b = arrOf d b) ∧
      e.mem = (applyWrites a (slotWrites c (freeLevel dr.mask) (drainSums d c a s dr (arrOf d a).shadow).1) d).mem ∧
      e.cmds = d.cmds ∧ e.out = d.out ∧ SameOutside d e := by
  obtain ⟨f, hf, hend⟩ := drainEnd_intermediate hj hdr hp st hfin
  obtain ⟨hown, hkept⟩ := drain_written hf (slotWrites c (freeLevel dr.mask) (drainSums d c a s dr (arrOf d a).shadow).1)
  dsimp only
  rw [hend, hown]
  exact ⟨rfl, rfl, hkept⟩

theorem drainEnd_chain_leaves (st : List Nat) (hfin : dr.fin = true) (hin : inChain c s = true) (hslot : p.slot = none)
    (hopen : ∃ h ∈ (chainHops ss s).1, ∀ k ∈ c.hops, (allHops ss)[k]? ≠ some h) :
    let e := drainEnd a st d
    (arrOf e a).shadow = {} ∧ (arrOf e a).prog = some { p with drain := none, slot := some dr } ∧ (∀ b, b ≠ a → arrOf e b = arrOf d b) ∧
      e.mem = (applyWrites a (slotWrites c (chainLevel c s) (drainSums d c a s dr (arrOf d a).shadow).1) d).mem ∧
      e.cmds = d.cmds ∧ e.out = d.out ∧ SameOutside d e := by
  obtain ⟨f, hf, hend⟩ := drainEnd_chain hj hdr hp st hfin hin hslot hopen
  obtain ⟨hown, hother, hmem, hcmds, hout, hsame⟩ :=
    drain_written hf (slotWrites c (chainLevel c s) (drainSums d c a s dr (arrOf d a).shadow).1)
  obtain ⟨hown', hother', hmem', hcmds', hout', hsame'⟩ := setProg_leaves a { p with drain := none, slot := some dr }
    (applyWrites a (slotWrites c (chainLevel c s) (drainSums d c a s dr (arrOf d a).shadow).1) f)
  dsimp only
  rw [hend, hown', hown]
  exact ⟨rfl, rfl, fun b hb => (hother' b hb).trans (hother b hb), hmem'.trans hmem, hcmds'.trans hcmds, hout'.trans hout, hsame' d hsame⟩

theorem drainEnd_final_leaves (st : List Nat) (ha : a < 192) (hfin : dr.fin = true) (hin : inChain c s = false) (hr : Rising d.tiles) :
    let e := drainEnd a st d
    (arrOf e a).shadow = {} ∧ (arrOf e a).prog = some { p with drain := none } ∧ (∀ b, b ≠ a → arrOf e b = arrOf d b) ∧
      tabGet 0 a e.tiles = (tabGet 0 a d.tiles + (groupTiles c s dr.group).length) % 2 ^ 32 ∧ e.out = d.out := by
  obtain ⟨-, -, hsa, -⟩ := jobAt_some hj
  obtain ⟨f, hf, g, hg, hend⟩ := drainEnd_final hj hdr hp st hfin hin
  have harr (b : Nat) : arrOf (drainEnd a st d) b = arrOf (setArr a (drainedArr d a p) d) b :=
    ((hend.arrOf b).trans (hg.arrOf b)).trans (hf.arrOf b)
  have hown : arrOf (drainEnd a st d) a = drainedArr d a p := (harr a).trans (arrOf_setArr_prog d rfl)
  obtain ⟨-, -, hout, -⟩ := hf.outside
  have htiles : f.tiles = d.tiles := by obtain ⟨_, rfl⟩ := hf; rfl
  dsimp only
  rw [hown]
  refine ⟨rfl, rfl, fun b hb => (harr b).trans (arrOf_setArr_ne _ d hb), ?_, hend.out.trans (hg.out.trans hout)⟩
  rw [hend.tiles, hsa]
  change tabGet 0 a (tilesCounted a _ g.tiles) = _
  rw [hg.tiles, htiles]
  exact tabGet_tilesCounted ha hr
end

/-! ## The start of a tile group (R168) -/

/-- Each number names a command that is admitted in one as in the other. -/
def SameAdmission (d e : Device) : Prop := ∀ n, (cmdOf e n).map (·.admitted) = (cmdOf d n).map (·.admitted)

/-- e is d but for registers and commands, and no command's admission has changed. -/
def Stops (d e : Device) : Prop := (∃ r cs, e = { d with regs := r, cmds := cs }) ∧ SameAdmission d e

/-- e is d but for registers, commands, the sampler's state and array a, and no command's admission has changed. -/
def GroupWork (a : Nat) (d e : Device) : Prop :=
  (∃ r cs sm ar, e = { d with regs := r, cmds := cs, smp := sm, arrs := ar }) ∧ (∀ b, b ≠ a → arrOf e b = arrOf d b) ∧ SameAdmission d e

/-- A tile group in progress at array a: of command n, group g, its last segment still to come. -/
def InGroup (d : Device) (a n g : Nat) : Prop := ∃ q, (arrOf d a).prog = some q ∧ q.id = n ∧ q.group = g ∧ q.closed = false

theorem SameAdmission.refl (d : Device) : SameAdmission d d := fun _ => rfl
theorem SameAdmission.trans {d e f : Device} (h : SameAdmission d e) (k : SameAdmission e f) : SameAdmission d f := fun n => (k n).trans (h n)
theorem SameAdmission.of_cmds {d e : Device} (h : e.cmds = d.cmds) : SameAdmission d e := fun n => by rw [cmdOf, h, cmdOf]

theorem setCmd_sameAdmission {d : Device} {c x : Cmd} (hc : cmdOf d x.id = some c) (h : x.admitted = c.admitted) :
    SameAdmission d (setCmd x d) := by
  intro n
  by_cases hn : n = x.id
  · rw [hn, cmdOf_setCmd_same hc, hc, Option.map_some, Option.map_some, h]
  · rw [cmdOf_setCmd_ne hn]

theorem Stops.refl (d : Device) : Stops d d := ⟨⟨d.regs, d.cmds, rfl⟩, .refl d⟩

theorem Stops.trans {d e f : Device} (h : Stops d e) (k : Stops e f) : Stops d f := by
  obtain ⟨⟨_, _, rfl⟩, h⟩ := h
  obtain ⟨⟨r, cs, rfl⟩, k⟩ := k
  exact ⟨⟨r, cs, rfl⟩, h.trans k⟩

theorem RegsOnly.stops {d e : Device} (h : RegsOnly d e) : Stops d e := by
  obtain ⟨r, rfl⟩ := h
  exact ⟨⟨r, d.cmds, rfl⟩, .of_cmds rfl⟩

theorem setCmd_stops {d : Device} {c x : Cmd} (hc : cmdOf d x.id = some c) (h : x.admitted = c.admitted) : Stops d (setCmd x d) :=
  ⟨⟨d.regs, _, rfl⟩, setCmd_sameAdmission hc h⟩

theorem stopWith_stops (n : Nat) (x : Done) (d : Device) : Stops d (stopWith n x d) := by
  unfold stopWith
  split
  next c hc =>
    split
    · exact setCmd_stops (c := c) (by rw [cmdOf_id hc]; exact hc) rfl
    · exact .refl d
  next => exact .refl d

theorem countFault_regsOnly (fs : Faults) (f : Nat × Nat) (d : Device) : RegsOnly d (countFault fs f d) := by
  unfold countFault
  split
  · exact countParity_regsOnly _ d
  · exact .ite (fsat_regsOnly _ _ _ d) (.refl d)
  · exact fsat_regsOnly _ _ _ d
  · exact .refl d

theorem stopFaults_stops (c : Cmd) (s : Share) (g : Nat) (fs : Faults) (d : Device) : Stops d (stopFaults c s g fs d) := by
  unfold stopFaults
  split
  · exact .refl d
  · exact (stopWith_stops _ _ d).trans (countFault_regsOnly _ _ _).stops

theorem GroupWork.trans {a : Nat} {d e f : Device} (h : GroupWork a d e) (k : GroupWork a e f) : GroupWork a d f := by
  obtain ⟨⟨_, _, _, _, rfl⟩, h1, h2⟩ := h
  obtain ⟨⟨r, cs, sm, ar, rfl⟩, k1, k2⟩ := k
  exact ⟨⟨r, cs, sm, ar, rfl⟩, fun b hb => (k1 b hb).trans (h1 b hb), h2.trans k2⟩

theorem Stops.groupWork {a : Nat} {d e : Device} (h : Stops d e) : GroupWork a d e := by
  obtain ⟨⟨r, cs, rfl⟩, h⟩ := h
  exact ⟨⟨r, cs, d.smp, d.arrs, rfl⟩, fun _ _ => rfl, h⟩

theorem Stops.inGroup {a n g : Nat} {d e : Device} (h : Stops d e) (k : InGroup d a n g) : InGroup e a n g := by
  obtain ⟨⟨_, _, rfl⟩, -⟩ := h
  exact k

theorem setArr_groupWork (a : Nat) (x : Arr) (d : Device) : GroupWork a d (setArr a x d) :=
  ⟨⟨d.regs, d.cmds, d.smp, _, rfl⟩, fun _ hb => arrOf_setArr_ne _ d hb, .of_cmds rfl⟩

theorem setArr_inGroup {a : Nat} {x : Arr} {q : Prog} (d : Device) (h : x.prog = some q) (hq : q.closed = false) :
    InGroup (setArr a x d) a q.id q.group := ⟨q, by rw [arrOf_setArr_prog d h, h], rfl, rfl, hq⟩

theorem smp_groupWork (a : Nat) (d : Device) (sm : Tab Word) : GroupWork a d { d with smp := sm } :=
  ⟨⟨d.regs, d.cmds, sm, d.arrs, rfl⟩, fun _ _ => rfl, .of_cmds rfl⟩

theorem smpDraw_groupWork (a : Nat) (d : Device) : GroupWork a d (smpDraw a d).2 := by
  unfold smpDraw
  split
  · exact smp_groupWork a d _
  · exact smp_groupWork a d d.smp

/-- Drawing tags advances the sampler alone (R528). -/
theorem drawTags_groupWork (a n : Nat) (d : Device) : GroupWork a d (drawTags a n d).2 := by
  induction n generalizing d with
  | zero => exact smp_groupWork a d d.smp
  | succ n ih => exact (smpDraw_groupWork a d).trans (ih _)

/-- What a dense restart counts and stops after it has set its array up. -/
theorem restartDense_stops (c : Cmd) (n : Nat) (fs fs' : Faults) (s : Share) (g : Nat) (d : Device) :
    let d1 := fsat oSpFallbacks fSpFallbacksGroups 1 (satCount s.arr c.part n d)
    let d2 := match cmdOf d1 c.id with | some c => setCmd { c with fell := true } d1 | none => d1
    Stops d (if fs = [] then d2 else stopFaults c s g fs' d2) := by
  intro d1 d2
  have h1 : Stops d d1 := ((satCount_regsOnly _ _ _ d).trans (fsat_regsOnly _ _ _ _)).stops
  have h2 : Stops d d2 := by
    refine h1.trans ?_
    simp only [d2]
    split
    next x hx => exact setCmd_stops (c := x) (by rw [cmdOf_id hx]; exact hx) rfl
    next => exact .refl d1
  split
  · exact h2
  · exact h2.trans (stopFaults_stops _ _ _ _ _)

/-- A group restarted densely is the same group of the same command (R215). -/
theorem restartDense_group (c : Cmd) (ss : List Share) (s : Share) (p : Prog) (d : Device) :
    GroupWork s.arr d (restartDense c ss s p d) ∧ InGroup (restartDense c ss s p d) s.arr p.id p.group := by
  obtain ⟨x, hd, q, hx, hc, hid, hg⟩ : ∃ x : Arr, Stops (setArr s.arr x d) (restartDense c ss s p d) ∧
      ∃ q : Prog, x.prog = some q ∧ q.closed = false ∧ q.id = p.id ∧ q.group = p.group :=
    ⟨_, restartDense_stops c _ _ _ s p.group _, _, rfl, rfl, rfl, rfl⟩
  have hin := setArr_inGroup (a := s.arr) d hx hc
  rw [hid, hg] at hin
  exact ⟨(setArr_groupWork _ _ _).trans hd.groupWork, hd.inGroup hin⟩

/-- Faults found stop the command or restart the group; either way the group goes on. -/
theorem faulted_group (c : Cmd) (ss : List Share) (s : Share) (found : Faults) {d : Device} {n g : Nat} (h : InGroup d s.arr n g) :
    GroupWork s.arr d (faulted c ss s found d) ∧ InGroup (faulted c ss s found d) s.arr n g := by
  have hstop {e : Device} (k : Stops d e) : GroupWork s.arr d e ∧ InGroup e s.arr n g := ⟨k.groupWork, k.inGroup h⟩
  obtain ⟨q, hq, rfl, rfl, -⟩ := h
  unfold faulted
  rw [hq]
  dsimp only
  split
  · exact hstop (.refl d)
  · split
    · split
      · exact restartDense_group c ss s q d
      · exact hstop (stopFaults_stops _ _ _ _ d)
    · exact hstop (stopFaults_stops _ _ _ _ d)

/-- The start of a tile group puts it in progress at its array. -/
theorem startGroup_group (c : Cmd) (ss : List Share) (s : Share) (p : Prog) (g : Nat) (d : Device) :
    GroupWork s.arr d (startGroup c ss s p g d) ∧ InGroup (startGroup c ss s p g d) s.arr p.id g := by
  obtain ⟨found, e, y, he, hr, q, hy, hc, hid, hg⟩ : ∃ (found : Faults) (e : Device) (y : Arr), startGroup c ss s p g d = faulted c ss s found e ∧
      RegsOnly (setArr s.arr y (drawTags s.arr (groupTiles c s g).length d).2) e ∧
      ∃ q : Prog, y.prog = some q ∧ q.closed = false ∧ q.id = p.id ∧ q.group = g := by
    refine ⟨_, _, _, rfl, (satCount_regsOnly _ _ _ _).trans (.ite ((perfArr_regsOnly _ _ _ _ _).trans (perfArr_regsOnly _ _ _ _ _)) (.refl _)),
      _, rfl, rfl, rfl, rfl⟩
  have hw : GroupWork s.arr d e := ((drawTags_groupWork _ _ d).trans (setArr_groupWork _ y _)).trans hr.stops.groupWork
  have hin : InGroup e s.arr p.id g := by
    have := setArr_inGroup (a := s.arr) (drawTags s.arr (groupTiles c s g).length d).2 hy hc
    rw [hid, hg] at this
    exact hr.stops.inGroup this
  rw [he]
  obtain ⟨h1, h2⟩ := faulted_group c ss s found hin
  exact ⟨hw.trans h1, h2⟩

/-! ## The start of a command's first tile group (R301) -/

/-- Pins and clocks as before, and no command's admission has changed. -/
structure Prepared (d e : Device) : Prop where
  pins : e.pins = d.pins
  clk : e.clk = d.clk
  admission : SameAdmission d e

theorem Prepared.refl (d : Device) : Prepared d d := ⟨rfl, rfl, .refl d⟩
theorem Prepared.trans {d e f : Device} (h : Prepared d e) (k : Prepared e f) : Prepared d f :=
  ⟨k.pins.trans h.pins, k.clk.trans h.clk, h.admission.trans k.admission⟩

theorem Prepared.foldl {α : Type} {f : Device → α → Device} (hf : ∀ d x, Prepared d (f d x)) (l : List α) (d : Device) :
    Prepared d (l.foldl f d) := by
  induction l generalizing d with
  | nil => exact .refl d
  | cons x r ih => exact (hf d x).trans (ih _)

theorem Prepared.ite {b : Prop} [Decidable b] {d e f : Device} (h : Prepared d e) (k : Prepared d f) : Prepared d (if b then e else f) := by
  split <;> assumption

theorem Reported.prepared {d e : Device} (h : Reported d e) : Prepared d e := by
  obtain ⟨_, _, _, _, _, rfl⟩ := h
  exact ⟨rfl, rfl, .of_cmds rfl⟩

theorem Stored.prepared {d e : Device} (h : Stored d e) : Prepared d e := by
  obtain ⟨_, _, _, rfl, -⟩ := h
  exact ⟨rfl, rfl, .of_cmds rfl⟩

theorem RegsOnly.prepared {d e : Device} (h : RegsOnly d e) : Prepared d e := h.stored.prepared

theorem Stops.prepared {d e : Device} (h : Stops d e) : Prepared d e := by
  obtain ⟨⟨_, _, rfl⟩, h⟩ := h
  exact ⟨rfl, rfl, h⟩

theorem GroupWork.prepared {a : Nat} {d e : Device} (h : GroupWork a d e) : Prepared d e := by
  obtain ⟨⟨_, _, _, _, rfl⟩, -, h⟩ := h
  exact ⟨rfl, rfl, h⟩

theorem setArr_prepared (a : Nat) (x : Arr) (d : Device) : Prepared d (setArr a x d) := ⟨rfl, rfl, .of_cmds rfl⟩
theorem setSc_prepared (ch : Nat) (x : ScRt) (d : Device) : Prepared d (setSc ch x d) := ⟨rfl, rfl, .of_cmds rfl⟩

theorem dropKept_prepared (l : List Nat) (d : Device) : Prepared d (dropKept l d) :=
  .foldl (fun d _ => .ite (setArr_prepared _ _ d) (.refl d)) l d

/-- The checks of the stores that a command reads first count what fails (R130, R234). -/
theorem earlyFault_regsOnly {d e : Device} {c : Cmd} {ss : List Share} {x : Done} (h : earlyFault d c ss = some (x, e)) : RegsOnly d e := by
  unfold earlyFault at h
  dsimp only at h
  split at h
  next r hr =>
    obtain rfl := Option.some.inj h
    split at hr
    · obtain ⟨s, -, hs⟩ := List.exists_of_findSome?_eq_some hr
      split at hs
      · split at hs
        · obtain ⟨-, rfl⟩ := Prod.mk.inj (Option.some.inj hs)
          exact countParity_regsOnly _ d
        · split at hs
          · obtain ⟨-, rfl⟩ := Prod.mk.inj (Option.some.inj hs)
            exact .refl d
          · cases hs
      · cases hs
    · cases hr
  next =>
    split at h
    · obtain ⟨s, -, hs⟩ := List.exists_of_findSome?_eq_some h
      split at hs
      · obtain ⟨-, rfl⟩ := Prod.mk.inj (Option.some.inj hs)
        exact countParity_regsOnly _ d
      · split at hs
        · obtain ⟨-, rfl⟩ := Prod.mk.inj (Option.some.inj hs)
          exact fsat_regsOnly _ _ _ d
        · cases hs
    · cases h

theorem scClose_prepared (ch part policy : Nat) (d : Device) : Prepared d (scClose ch part policy d) := by
  have hput (off : Nat) (f : Fld) (v : Nat) (d : Device) : Prepared d (fput off f v d) := (fput_regsOnly off f v d).prepared
  have hhist (l : List Nat) : Prepared d (setHist ch l d) := (RegsOnly.foldl (fun d k => rput_regsOnly _ _ d) _ d).prepared
  have hsticky (e : Device) : Prepared e (fput (oScStatus ch) fScStatusUnderSticky 1 (fput (oScStatus ch) fScStatusUnderRun 0
      (fsat (oScEvents ch) fScEventsUnderCount 1 e))) :=
    ((fsat_regsOnly _ _ _ e).prepared.trans (hput _ _ _ _)).trans (hput _ _ _ _)
  exact (hhist _).trans (.ite (.ite (.ite (hsticky _) ((hsticky _).trans (raise_reported _ _ _ _ _ _ _).prepared)) (hput _ _ _ _))
    (hput _ _ _ _))

/-- A scale channel's step that opens, or is joined (R143). -/
theorem scUse_prepared (c : Cmd) (ch n : Nat) (d : Device) : Prepared d (scUse c ch n d) := by
  have hopen (x : ScRt) (v w : Word) (d : Device) : Prepared d (rput (oScStep ch) v (rput (oScState ch) w (setSc ch x d))) :=
    (setSc_prepared ch x d).trans ((rput_regsOnly _ w _).trans (rput_regsOnly _ v _)).prepared
  unfold scUse
  dsimp only
  split
  · split
    · exact (scClose_prepared _ _ _ d).trans (hopen _ _ _ _)
    · exact hopen _ _ _ d
  · split
    · exact .refl d
    · exact (fput_regsOnly _ _ _ d).prepared

theorem putWord_prepared (a w v : Nat) (d : Device) : Prepared d (putWord a w v d) := (put_stored _ _ d).prepared

theorem tkWrite_prepared (c : Cmd) (a cs : Nat) (l : List TkRec) (d : Device) : Prepared d (tkWrite c a cs l d) :=
  .foldl (fun d _ => putWord_prepared _ _ _ d) _ d

/-- An array made ready for a command (R37, R86, R247). -/
theorem initArr_prepared (c : Cmd) (ss : List Share) (s : Share) (d : Device) : Prepared d (initArr c ss s d) := by
  have hset (x : Arr) : Prepared d (zeroTiles s.arr (setArr s.arr x d)) := ⟨rfl, rfl, .of_cmds rfl⟩
  have hmap (w n : Nat) (d : Device) : Prepared d ((List.range n).foldl (fun d k => putWord s.arr (w + k) 0 d) d) :=
    .foldl (fun d _ => putWord_prepared _ _ _ d) _ d
  have htk (n : Nat) (d : Device) : Prepared d ((List.range n).foldl (fun d cs => tkWrite c s.arr cs [] d) d) :=
    .foldl (fun d _ => tkWrite_prepared _ _ _ _ d) _ d
  have hsat (n : Nat) (d : Device) : Prepared d (satCount s.arr c.part n d) := (satCount_regsOnly _ _ _ d).prepared
  have hready (x : Arr) (b b' : Prop) [Decidable b] [Decidable b'] (n w m : Nat) :
      let d1 := zeroTiles s.arr (setArr s.arr x d)
      let d2 := if b then satCount s.arr c.part n d1 else d1
      Prepared d (if b' then (List.range m).foldl (fun d k => putWord s.arr (w + k) 0 d) d2 else d2) := by
    intro d1 d2
    have h2 : Prepared d d2 := .ite ((hset x).trans (hsat _ _)) (hset x)
    exact .ite (h2.trans (hmap _ _ _)) h2
  unfold initArr
  dsimp only
  split
  · exact (hready _ _ _ _ _ _).trans (htk _ _)
  · exact hready _ _ _ _ _ _

theorem SameAdmission.isSome {d e : Device} (h : SameAdmission d e) (n : Nat) : (cmdOf e n).isSome = (cmdOf d n).isSome := by
  rw [← Option.isSome_map, h n, Option.isSome_map]

/-- A command recorded as admitted is so. -/
theorem setCmd_admits {d : Device} {x : Cmd} (h : (cmdOf d x.id).isSome = true) (ha : x.admitted = true) :
    (cmdOf (setCmd x d) x.id).map (·.admitted) = some true := by
  obtain ⟨c, hc⟩ := Option.isSome_iff_exists.mp h
  rw [cmdOf_setCmd_same hc, Option.map_some, ha]

/-- Preparing the arrays admits the command, whichever way it goes on. -/
theorem prepare_admits {c : Cmd} {d : Device} (h : c ∈ d.cmds) :
    (prepare c d).pins = d.pins ∧ (prepare c d).clk = d.clk ∧ (cmdOf (prepare c d) c.id).map (·.admitted) = some true := by
  have hc : (cmdOf d c.id).isSome = true := List.find?_isSome.mpr ⟨c, h, by simp⟩
  have hset {e f : Device} {x : Cmd} (he : Prepared d e) (hf : Prepared (setCmd x e) f) (hid : x.id = c.id) (hx : x.admitted = true) :
      f.pins = d.pins ∧ f.clk = d.clk ∧ (cmdOf f c.id).map (·.admitted) = some true := by
    refine ⟨hf.pins.trans he.pins, hf.clk.trans he.clk, (hf.admission c.id).trans ?_⟩
    rw [← hid]
    exact setCmd_admits (by rw [he.admission.isSome, hid]; exact hc) hx
  unfold prepare
  dsimp only
  split
  next x e he => exact hset ((earlyFault_regsOnly he).prepared.trans (dropKept_prepared _ e)) (.refl _) rfl rfl
  next =>
    have huse : Prepared d (if mSc c ≠ 0 ∧ c.scaled = false then scUse c (mScNum c) (scaleDiv (decide (mOK c = 0)) (mPo c)) d else d) :=
      .ite (scUse_prepared _ _ _ d) (.refl d)
    have hstop (n w : Nat) (l : List Nat) (x : Done) (d : Device) : Prepared d (countParity n (stopWith w x (dropKept l d))) :=
      ((dropKept_prepared l d).trans (stopWith_stops w x _).prepared).trans (countParity_regsOnly n _).prepared
    have hinit (x : Cmd) (ss : List Share) (d : Device) : Prepared d (ss.foldl (fun d s => initArr x ss s d) d) :=
      .foldl (fun d s => initArr_prepared x ss s d) ss d
    have hstale (o p k a b t : Nat) (f : Fld) (d : Device) : Prepared d (fsat o f 1 (raise p k a b 0 t d)) :=
      (raise_reported _ _ _ _ _ _ d).prepared.trans (fsat_regsOnly _ _ _ _).prepared
    split
    · exact hset huse (hstop _ _ _ _ _) rfl rfl
    · refine hset huse (Prepared.trans (.ite (hstale _ _ _ _ _ _ _ _) (.refl _)) (hinit _ _ _)) ?_ ?_ <;> rfl

/-- The first tile start admits its command, and may start the first group. -/
theorem tileStart_admits {d : Device} {a : Nat} {c : Cmd} (hf : (d.cmds.find? fun c => decide (c.phase = .running) && decide (opOf c = 0x10) &&
      !waitsDump c && !c.admitted && !domainOf c && (motifList (targetOf c)).contains a) = some c)
    (hm : matmulCheck d c = none) (hr : mReal c ≠ 0) (hs : stepFree d c = true) :
    (tileStart a d).pins = d.pins ∧ (tileStart a d).clk = d.clk ∧ (cmdOf (tileStart a d) c.id).map (·.admitted) = some true := by
  have hadmit : admitFor a d = prepare c d := by
    simp only [admitFor, hf, hm, hs, decide_eq_true hr, Option.isNone_none, Bool.and_self, if_true]
  have hgo : Prepared (prepare c d) (tileStart a d) := by
    unfold tileStart
    rw [hadmit]
    dsimp only
    split
    · exact .refl _
    · exact .ite (startGroup_group _ _ _ _ _ _).1.prepared (.refl _)
  obtain ⟨hpins, hclk, hadm⟩ := prepare_admits (List.mem_of_find?_eq_some hf)
  exact ⟨hgo.pins.trans hpins, hgo.clk.trans hclk, (hgo.admission c.id).trans hadm⟩

/-- The other tile starts start the next group. -/
theorem tileStart_next {d : Device} {a : Nat} {c : Cmd} {ss : List Share} {s : Share} {p : Prog}
    (hall : ∀ x ∈ d.cmds, opOf x = 0x10 → x.admitted = true) (hj : jobAt d a = some (c, ss, s, p)) (hc : p.closed = true)
    (hn : p.next < groupsOf c s) : tileStart a d = startGroup c ss s p p.next d := by
  have hadmit : admitFor a d = d := by
    have hnone : (d.cmds.find? fun c => decide (c.phase = .running) && decide (opOf c = 0x10) && !waitsDump c && !c.admitted &&
        !domainOf c && (motifList (targetOf c)).contains a) = none := by
      refine List.find?_eq_none.mpr fun x hx h => ?_
      simp only [Bool.and_eq_true, decide_eq_true_eq, Bool.not_eq_true'] at h
      obtain ⟨⟨⟨⟨⟨-, hop⟩, -⟩, hno⟩, -⟩, -⟩ := h
      rw [hall x hx hop] at hno
      cases hno
    simp only [admitFor, hnone]
  simp only [tileStart, hadmit, hj, hc, hn, decide_true, Bool.and_self, if_true]

theorem GroupWork.outside {a : Nat} {d e : Device} (h : GroupWork a d e) : e.mem = d.mem ∧ e.out = d.out ∧ SameOutside d e := by
  obtain ⟨⟨_, _, _, _, rfl⟩, -⟩ := h
  exact ⟨rfl, rfl, rfl, rfl, rfl, rfl, rfl, rfl, rfl, rfl, rfl, rfl, rfl⟩

/-- What a pass leaves in the shadow latches, by what comes next. -/
theorem drivenArr_shadow {d : Device} {c : Cmd} {a : Nat} {s : Share} {p : Prog} (q : Pass)
    (hload : ∀ r, p.passes[p.pass + 1]? = some r → (loadOf d c a s p.group p.snap r).2.2 = []) :
    (∀ r, p.passes[p.pass + 1]? = some r → (drivenArr d c a s p q).latchShadow = latched (loadOf d c a s p.group p.snap r).1 []) ∧
      (p.passes[p.pass + 1]? = none → ∀ y, (if p.pass + 1 < p.passes.length then none else loadAhead d c s p) = some y →
        (drivenArr d c a s p q).latchShadow = latched y.1 y.2.2) := by
  refine ⟨fun r hr => ?_, fun hn y hy => ?_⟩
  · obtain ⟨hlt, -⟩ := List.getElem?_eq_some_iff.mp hr
    simp only [drivenArr, shadowLoad, hr, if_pos hlt, hload r hr]
    rfl
  · simp only [drivenArr, shadowLoad, hn, hy]
    rfl

/-- Settles O35: each step through what it leaves: `tileStart_admits`, `startGroup_group`, `weightSwap_drives`, `segmentSwap_drains` and the
three drains. -/
theorem arraySteps : Obligations.ArraySteps := by
  unfold Obligations.ArraySteps
  have hwf {a : Nat} (ha : a < 192) : arrayOk a = true := decide_eq_true ha
  refine ⟨fun s a c ha hf hm hr hs => ?_, fun s a c ss sh p ha hall hj => ⟨fun hc hn => ?_, fun q ho hg hq hfed hload => ?_, fun he => ?_,
    fun dr st hdr hpar => ?_⟩⟩
  · obtain ⟨hpins, hclk, hadm⟩ := tileStart_admits hf hm hr hs
    obtain ⟨c', hc', ha'⟩ := Option.map_eq_some_iff.mp hadm
    exact ⟨_, c', exec_next rfl (hwf ha) rfl, rfl, hc', ha', hpins, hclk⟩
  · obtain ⟨-, -, hsa, -⟩ := jobAt_some hj
    obtain ⟨hw, q, hq, hid, hg, ho⟩ := startGroup_group c ss sh p p.next s.dev
    rw [hsa] at hw hq
    obtain ⟨hmem, hout, hsame⟩ := hw.outside
    exact ⟨_, q, exec_next rfl (hwf ha) (tileStart_next hall hj hc hn), rfl, hq, hid, hg, ho, hw.2.1, hmem, hout, hsame⟩
  · intro later
    have hw := weightSwap_drives hj ho hg hq hfed hload
    have hown : arrOf (weightSwap a s.dev) a = drivenArr s.dev c a sh p q := (hw.arrOf a).trans (arrOf_setArr_prog s.dev rfl)
    obtain ⟨hmem, hcmds, hout, hsame⟩ := hw.outside
    obtain ⟨hnext, hahead⟩ := drivenArr_shadow q hload
    refine ⟨_, exec_next rfl (hwf ha) rfl, rfl, ?_⟩
    dsimp only
    rw [hown]
    exact ⟨rfl, rfl, rfl, hnext, hahead, fun b hb => (hw.arrOf b).trans (arrOf_setArr_ne _ _ hb), hmem, hcmds, hout, hsame⟩
  · exact exec_next rfl (hwf ha) (segmentSwap_drains hj he)
  · intro sums
    exact ⟨fun hfin => ⟨_, exec_next rfl (hwf ha) rfl, rfl, drainEnd_intermediate_leaves hj hdr hpar st hfin⟩,
      fun hfin hin hslot hopen => ⟨_, exec_next rfl (hwf ha) rfl, rfl, drainEnd_chain_leaves hj hdr hpar st hfin hin hslot hopen⟩,
      fun hfin hin hrise => ⟨_, exec_next rfl (hwf ha) rfl, rfl, drainEnd_final_leaves hj hdr hpar st ha hfin hin hrise⟩⟩

end Sys2Proof.Machine
end

section
/-! Bytes stored and counters advanced: what a store in the scratch aperture leaves of every byte, where counters lie, and what
bytes and numbers say of one another. -/

namespace Sys2Proof.Machine

/-! ## Counters leave memory where it lies (R402, R403, R409) -/

/-- The registers of the HBM block, which say where an address of HBM lies. -/
def hbmRegs (d : Device) : Tab Word := d.regs.filter fun e => decide (0x10000 ≤ e.1 ∧ e.1 < 0x20000)

/-- The stack-local region that a register enables, as (base, n GiB) in GiB. -/
def regionAt (d : Device) (n : Nat) : Option (Nat × Nat) :=
  let w := (tabGet 0 (oHbmRegion n) d.regs).toNat
  if bits 0 0 w = 1 then some (bits 6 1 w * 6, bits 12 7 w + 1) else none

theorem regions_eq (d : Device) : regions d = ((List.range 8).map (regionAt d)).filterMap id := by
  rw [List.filterMap_map]
  rfl

theorem regions_hbmRegs (d : Device) : regions { d with regs := hbmRegs d } = regions d := by
  rw [regions_eq, regions_eq, List.map_congr_left fun n hn => ?_]
  have hin : decide (0x10000 ≤ oHbmRegion n ∧ oHbmRegion n < 0x20000) = true := by
    have := List.mem_range.mp hn
    exact decide_eq_true (by unfold oHbmRegion; omega)
  simp only [regionAt, hbmRegs, tabGet_filter_in _ (fun k => decide (0x10000 ≤ k ∧ k < 0x20000)) d.regs hin]

theorem retiredAt_hbmRegs (d : Device) {k : Nat} (hk : k < 6) (page : Nat) :
    retiredAt { d with regs := hbmRegs d } k page = retiredAt d k page := by
  simp only [retiredAt, hbmRegs, List.filter_filter]
  congr 2
  refine List.filter_congr fun e _ => ?_
  by_cases h : oRetireEntry k 0 ≤ e.1 ∧ e.1 < oRetireEntry k 128
  · have : 0x10000 ≤ e.1 ∧ e.1 < 0x20000 := by simp only [oRetireEntry] at h; omega
    simp [this]
  · rcases Decidable.not_and_iff_not_or_not.mp h with h | h <;> simp [h]

theorem memKey_hbmRegs (d : Device) (l : Nat) : memKey { d with regs := hbmRegs d } l = memKey d l := by
  have hm : hbmMap { d with regs := hbmRegs d } l = hbmMap d l := by simp only [hbmMap, regions_hbmRegs]
  unfold memKey
  split
  next h => simp only [stackKey, hm, retiredAt_hbmRegs d (hbmMap_bounds d h).1]
  next => rfl

/-- e is d but for counters: registers outside the HBM block. -/
def Counted (d e : Device) : Prop := RegsOnly d e ∧ hbmRegs e = hbmRegs d

theorem Counted.refl (d : Device) : Counted d d := ⟨.refl d, rfl⟩

theorem Counted.trans {d e f : Device} (h : Counted d e) (k : Counted e f) : Counted d f := ⟨h.1.trans k.1, k.2.trans h.2⟩

theorem Counted.ite {b : Prop} [Decidable b] {d e f : Device} (h : Counted d e) (k : Counted d f) : Counted d (if b then e else f) := by
  split <;> assumption

theorem Counted.foldl {α : Type} {f : Device → α → Device} (hf : ∀ d x, Counted d (f d x)) (l : List α) (d : Device) :
    Counted d (l.foldl f d) := by
  induction l generalizing d with
  | nil => exact .refl d
  | cons x r ih => exact (hf d x).trans (ih _)

/-- Counters leave every byte. -/
theorem Counted.byteAt {d e : Device} (h : Counted d e) (l : Nat) : byteAt e l = byteAt d l := by
  obtain ⟨⟨r, rfl⟩, hreg⟩ := h
  have hkey : memKey { d with regs := r } l = memKey d l := by
    rw [← memKey_hbmRegs d, ← memKey_hbmRegs { d with regs := r }, hreg]
  rw [Machine.byteAt, hkey]
  rfl

theorem Counted.bytesAt {d e : Device} (h : Counted d e) (l n : Nat) : bytesAt e l n = bytesAt d l n :=
  List.map_congr_left fun _ _ => h.byteAt _

theorem rput_counted {off : Nat} (w : Word) (d : Device) (h : 0x20000 ≤ off) : Counted d (rput off w d) :=
  ⟨rput_regsOnly off w d, tabSet_filter_out _ w (fun k => decide (0x10000 ≤ k ∧ k < 0x20000)) d.regs (decide_eq_false (by omega))⟩

theorem fsat_counted {off : Nat} (f : Fld) (n : Nat) (d : Device) (h : 0x20000 ≤ off) : Counted d (fsat off f n d) := rput_counted _ d h

theorem perfUnit_counted {ctl cnt hi : Nat → Nat} (n ev : Nat) (part : Option Nat) (k : Nat) (d : Device) (h1 : ∀ i, 0x20000 ≤ ctl i)
    (h2 : ∀ i, 0x20000 ≤ cnt i) (h3 : ∀ i, 0x20000 ≤ hi i) : Counted d (perfUnit n ctl cnt hi ev part k d) := by
  unfold perfUnit
  refine .foldl (fun d i => .ite (.trans ?_ (.ite (rput_counted _ _ (h1 i)) (.refl _))) (.refl d)) _ d
  exact (rput_counted _ d (h3 i)).trans (rput_counted _ _ (h2 i))

theorem perfArr_counted (a ev : Nat) (part : Option Nat) (k : Nat) (d : Device) : Counted d (perfArr a ev part k d) :=
  perfUnit_counted _ _ _ _ d (fun _ => by unfold oArrCtl; omega) (fun _ => by unfold oArrCnt; omega) fun _ => by unfold oArrCntHi; omega

theorem perfOne_counted (u ev : Nat) (part : Option Nat) (k : Nat) (d : Device) : Counted d (perfOne u ev part k d) :=
  perfUnit_counted _ _ _ _ d (fun _ => by unfold oUnitCtl; omega) (fun _ => by unfold oUnitCnt; omega) fun _ => by unfold oUnitCntHi; omega

theorem satCount_counted (a part n : Nat) (d : Device) : Counted d (satCount a part n d) := by
  unfold satCount
  exact .ite (.refl d) ((fsat_counted _ _ d (by unfold oSatCount; omega)).trans (perfArr_counted _ _ _ _ _))

/-! ## Stores in the scratch aperture -/

/-- What a store leaves of memory, place by place. -/
theorem memGet_storeBytes {l : Nat} (bs : List Byte) {d : Device} (hl : 2 ^ 40 ≤ l) (hw : Memory.wf d) (k : Nat) :
    memGet (storeBytes l bs d) k = if l ≤ k ∧ k < l + bs.length then bs.getD (k - l) 0 else memGet d k := by
  induction bs generalizing l d with
  | nil => rw [if_neg (by simp)]; rfl
  | cons b r ih =>
    rw [storeBytes, memKey_scratch d hl, ih (by omega) (memSet_wf l b d hw), List.length_cons]
    by_cases hk : k = l
    · subst hk
      rw [if_neg (by omega), if_pos (by omega), Nat.sub_self, List.getD_cons_zero]
      exact tabGet_tabSet_same _ _ _ _ hw.1
    · have hold : memGet (memSet l b d) k = memGet d k := tabGet_tabSet_ne _ _ _ _ _ _ hk
      by_cases hin : l + 1 ≤ k ∧ k < l + 1 + r.length
      · obtain ⟨j, rfl⟩ : ∃ j, k = l + 1 + j := ⟨k - (l + 1), by omega⟩
        rw [if_pos hin, if_pos (by omega), Nat.add_sub_cancel_left, show l + 1 + j - l = j + 1 by omega, List.getD_cons_succ]
      · rw [if_neg hin, if_neg (by omega), hold]

theorem memKey_storeBytes (l : Nat) (bs : List Byte) (d : Device) (k : Nat) : memKey (storeBytes l bs d) k = memKey d k := by
  obtain ⟨m, hm⟩ := storeBytes_frame l bs d
  rw [hm]
  rfl

/-- An address is its own place in memory, or is of HBM, and then both lie below the stores. -/
theorem memKey_cases (d : Device) (l : Nat) : memKey d l = l ∨ (memKey d l < 2 ^ 40 ∧ l < 2 ^ 40) := by
  by_cases h : isHbm l = true
  · exact .inr ⟨memKey_hbm d h, Nat.lt_trans (of_decide_eq_true h) (by decide)⟩
  · exact .inl (if_neg h)

/-- What a store leaves of every byte. -/
theorem byteAt_storeBytes {l : Nat} (bs : List Byte) {d : Device} (hl : 2 ^ 40 ≤ l) (hw : Memory.wf d) (k : Nat) :
    byteAt (storeBytes l bs d) k = if l ≤ k ∧ k < l + bs.length then bs.getD (k - l) 0 else byteAt d k := by
  rw [byteAt, memKey_storeBytes, memGet_storeBytes bs hl hw]
  rcases memKey_cases d k with h | ⟨h1, h2⟩
  · rw [byteAt, h]
  · rw [if_neg (by omega), if_neg (by omega), byteAt]

theorem byteAt_storeBytes_out {l k : Nat} {bs : List Byte} {d : Device} (hl : 2 ^ 40 ≤ l) (hw : Memory.wf d)
    (h : k < l ∨ l + bs.length ≤ k) : byteAt (storeBytes l bs d) k = byteAt d k := by
  rw [byteAt_storeBytes bs hl hw, if_neg (by omega)]

/-- Bytes stored are read back. -/
theorem bytesAt_storeBytes {l n : Nat} {bs : List Byte} {d : Device} (hl : 2 ^ 40 ≤ l) (hw : Memory.wf d) (hn : bs.length = n) :
    bytesAt (storeBytes l bs d) l n = bs := by
  subst hn
  refine List.ext_getElem (by simp [bytesAt]) fun k h1 h2 => ?_
  have hk : k < bs.length := h2
  simp only [bytesAt, List.getElem_map, List.getElem_range]
  rw [byteAt_storeBytes bs hl hw, if_pos (by omega), Nat.add_sub_cancel_left, ← List.getElem_eq_getD]

/-- Bytes beside a store are read as before. -/
theorem bytesAt_storeBytes_out {l k n : Nat} {bs : List Byte} {d : Device} (hl : 2 ^ 40 ≤ l) (hw : Memory.wf d)
    (h : k + n ≤ l ∨ l + bs.length ≤ k) : bytesAt (storeBytes l bs d) k n = bytesAt d k n :=
  List.map_congr_left fun i hi => byteAt_storeBytes_out hl hw (by have := List.mem_range.mp hi; omega)

/-! ## Bytes and numbers (R9, R10) -/

@[simp] theorem length_leBytes (n v : Nat) : (leBytes n v).length = n := by
  induction n generalizing v with
  | zero => rfl
  | succ n ih => rw [leBytes, List.length_cons, ih]

theorem leNat_leBytes (n v : Nat) : leNat (leBytes n v) = v % 256 ^ n := by
  induction n generalizing v with
  | zero => rw [leBytes, leNat, Nat.pow_zero, Nat.mod_one]
  | succ n ih =>
    have hb : (BitVec.ofNat 8 v).toNat = v % 256 := BitVec.toNat_ofNat v 8
    have hp : 256 ^ (n + 1) = 256 * 256 ^ n := Nat.pow_succ'
    rw [leBytes, leNat, ih, hb, hp, Nat.mod_mul]

/-- A number in a field's range is what its bits say. -/
theorem signed_unsigned {z : Int} (h1 : -2147483648 ≤ z) (h2 : z ≤ 2147483647) : signed 32 (unsigned 32 z % 256 ^ 4) = z := by
  have h : unsigned 32 z = (z % 4294967296).toNat := rfl
  rw [h, signed]
  split <;> omega

theorem clip_bounds {lo hi : Int} (z : Int) (h : lo ≤ hi) : lo ≤ clip lo hi z ∧ clip lo hi z ≤ hi := by
  unfold clip
  split
  · exact ⟨Int.le_refl _, h⟩
  · split
    · exact ⟨h, Int.le_refl _⟩
    · omega

end Sys2Proof.Machine
end

section
/-! Accumulator images: what ACC_SAVE stores, what ACC_LOAD takes, and O16. -/

namespace Sys2Proof.Machine

/-- Without memory errors a write is a store. -/
theorem put_plain {d : Device} (h1 : d.merr.poison = []) (h2 : d.merr.parity = []) (l : Nat) (bs : List Byte) :
    put l bs d = storeBytes l bs d := by rw [put, writeMem_plain h1 h2]

/-- Without failing units no read of a store fails. -/
theorem parityIn_none {d : Device} (h : d.merr.parity = []) (lo hi : Nat) : parityIn d lo hi = [] := by simp [parityIn, h]

/-! ## The image and the record (R187, R189) -/

theorem length_flatMap_range {α : Type} (n k : Nat) (f : Nat → List α) (h : ∀ i, (f i).length = k) :
    ((List.range n).flatMap f).length = n * k := by
  rw [List.length_flatMap, List.map_congr_left fun i _ => h i, List.map_const', List.sum_replicate_nat, List.length_range]

theorem length_imageOf (x : AccSet) : (imageOf x).length = 524288 :=
  length_flatMap_range 256 2048 _ fun _ => length_flatMap_range 512 4 _ fun _ => length_leBytes 4 _

/-- The bytes of a state record. -/
def recordOf (k : Option Kept) : List Byte := (keptWords k).flatMap (leBytes 4)

theorem length_recordOf (k : Option Kept) : (recordOf k).length = 64 := by
  cases k <;> simp [recordOf, keptWords]

/-- An image ends below its array's words. -/
theorem image_below_words (a : Nat) (c : Cmd) (o : Nat) : rowAddr a (512 * accRow c) + 524288 ≤ wordAddr a o := by
  have h : accRow c < 8192 := bits_lt 12 0 _
  unfold rowAddr wordAddr
  omega

/-! ## ACC_SAVE (R187, R189) -/

/-- A device with the image and the record of array a stored where a command has them. -/
def imageSaved (c : Cmd) (a : Nat) (d : Device) : Device :=
  storeBytes (wordAddr a (4 * accSt c)) (recordOf (arrOf d a).kept)
    (storeBytes (rowAddr a (512 * accRow c)) (imageOf (arrOf d a).active) d)

theorem imageSaved_bytes {c : Cmd} {a : Nat} {d : Device} (hw : Memory.wf d) :
    bytesAt (imageSaved c a d) (rowAddr a (512 * accRow c)) 524288 = imageOf (arrOf d a).active ∧
      bytesAt (imageSaved c a d) (wordAddr a (4 * accSt c)) 64 = recordOf (arrOf d a).kept ∧
      ∀ l, (l < rowAddr a (512 * accRow c) ∨ rowAddr a (512 * accRow c) + 524288 ≤ l) →
        (l < wordAddr a (4 * accSt c) ∨ wordAddr a (4 * accSt c) + 64 ≤ l) → SameByte d (imageSaved c a d) l := by
  have hrow := aperture_le_rowAddr a (512 * accRow c)
  have hword := aperture_le_wordAddr a (4 * accSt c)
  have hw' := storeBytes_wf (rowAddr a (512 * accRow c)) (imageOf (arrOf d a).active) d hw
  refine ⟨?_, bytesAt_storeBytes hword hw' (length_recordOf _), fun l h1 h2 => ?_⟩
  · rw [imageSaved, bytesAt_storeBytes_out hword hw' (.inl (image_below_words a c _)), bytesAt_storeBytes hrow hw (length_imageOf _)]
  · rw [SameByte, imageSaved, byteAt_storeBytes_out hword hw' (by rwa [length_recordOf]),
      byteAt_storeBytes_out hrow hw (by rwa [length_imageOf])]

theorem imageSaved_frame (c : Cmd) (a : Nat) (d : Device) : ∃ m, imageSaved c a d = { d with mem := m } := by
  obtain ⟨m, hm⟩ := storeBytes_frame (rowAddr a (512 * accRow c)) (imageOf (arrOf d a).active) d
  rw [imageSaved, hm]
  exact storeBytes_frame _ _ _

/-! ## The image as ACC_LOAD takes it (R188) -/

/-- The entries that an image holds from a row on, those that are 0 left out. -/
def imageEntries (d : Device) (a row n : Nat) : Tab Int :=
  ((List.range n).map fun k => (k, imageEnt d a row k)).filterMap fun v => if v.2.1 = 0 then none else some (v.1, v.2.1)

/-- What an array holds once a command has loaded an image: the set's entries, exponents that are free values, the kept record. -/
def imageLoaded (c : Cmd) (a : Nat) (d : Device) : Arr :=
  { arrOf d a with
    active := { ent := imageEntries d a (accRow c) 131072, xa := (List.range 256).map (Config.loadedExp d.free),
                xw := (List.range 512).map fun k => Config.loadedExp d.free (256 + k) }
    kept := keptOf fun k => wsWord d a (accSt c + k) }

theorem imageLoaded_ent (c : Cmd) (a : Nat) (d : Device) : (imageLoaded c a d).active.ent = imageEntries d a (accRow c) 131072 := by
  rw [imageLoaded]

theorem imageLoaded_kept (c : Cmd) (a : Nat) (d : Device) : (imageLoaded c a d).kept = keptOf fun k => wsWord d a (accSt c + k) := by
  rw [imageLoaded]

/-- A table made of the values that are not 0 reads each of them. -/
theorem tabGet_filterMap_nonzero {β : Type} (f : Nat → Int × β) (k : Nat) (l : List Nat) :
    tabGet 0 k ((l.map fun j => (j, f j)).filterMap fun v => if v.2.1 = 0 then none else some (v.1, v.2.1)) =
      if k ∈ l then (f k).1 else 0 := by
  induction l with
  | nil => rfl
  | cons j r ih =>
    rw [List.map_cons, List.filterMap_cons]
    by_cases hz : (f j).1 = 0
    · simp only [hz, if_true, ih, List.mem_cons]
      by_cases hk : k = j
      · subst hk; simp [hz]
      · simp [hk]
    · by_cases hk : j = k
      · subst hk; simp [hz, tabGet]
      · have hk' : ¬k = j := fun h => hk h.symm
        simp only [hz, if_false, tabGet, hk, ih, List.mem_cons, hk', false_or]

/-- An entry of an image is its word, clipped to s20 (R188). -/
theorem tabGet_imageEntries (d : Device) (a row : Nat) {n k : Nat} (hk : k < n) :
    tabGet 0 k (imageEntries d a row n) = clip (-524288) 524287 (signed 32 (leNat (bytesAt d (rowAddr a (512 * row + 4 * k)) 4))) := by
  rw [imageEntries, tabGet_filterMap_nonzero, if_pos (List.mem_range.mpr hk), imageEnt, ent20]

/-! ## The commands, not refused -/

/-- A running command's record once it has ended, in a device with the same commands. -/
theorem Runs.cmdOf_ended {d e : Device} {id op : Nat} {c : Cmd} {y : Done} (h : Runs d id op c) (he : e.cmds = d.cmds) :
    cmdOf (setCmd (endedAs c y) e) id = some (endedAs c y) := by
  obtain rfl := cmdOf_id h.cmd
  exact cmdOf_setCmd_same (c := endedAs c y) (x := c) (by rw [cmdOf, he]; exact h.cmd)

section
variable {d : Device} {id : Nat} {c : Cmd} {x : Circ} (hx : NoErrors x) (hpar : d.merr.parity = []) (hpoi : d.merr.poison = [])
  (hk : accCheck d c = none) (hh : heldArray d (motifArrays (targetOf c)).1 = false)
include hx hpar hk hh

include hpoi in
/-- ACC_SAVE, not refused, stores both and ends. -/
theorem accSave_stores (hr : Runs d id 0x11 c) :
    accSave id x d = setCmd (endedAs c {}) (imageSaved c (motifArrays (targetOf c)).1 d) := by
  obtain ⟨m, hm⟩ := storeBytes_frame (rowAddr (motifArrays (targetOf c)).1 (512 * accRow c))
    (imageOf (arrOf d (motifArrays (targetOf c)).1).active) d
  simp only [accSave, runningAs_of_runs hr, applyCirc_none hx, hk, hr.not_stopped, hh, Bool.false_eq_true, if_false, put_plain hpoi hpar]
  rw [endCmd_deadline_plain hr.throughput, imageSaved, hm, put_plain (d := { d with mem := m }) hpoi hpar]
  rfl

/-- ACC_LOAD, not refused, takes them, counts saturations and ends. -/
theorem accLoad_takes (hr : Runs d id 0x12 c)
    (hres : keptReserved (fun k => wsWord d (motifArrays (targetOf c)).1 (accSt c + k)) = false) :
    ∃ e, RegsOnly (setArr (motifArrays (targetOf c)).1 (imageLoaded c (motifArrays (targetOf c)).1 d) (drawFree d).2) e ∧
      accLoad id x d = setCmd (endedAs c {}) e := by
  have hrow : rowsParity d (motifArrays (targetOf c)).1 (accRow c * 4096) (1024 * 4096) = [] := by
    rw [rowsParity, if_neg (by decide), parityIn_none hpar]
  have hword : wordsParity d (motifArrays (targetOf c)).1 (accSt c) 16 = [] := parityIn_none hpar _ _
  simp only [accLoad, runningAs_of_runs hr, applyCirc_none hx, hk, hr.not_stopped, hh, hrow, hword, hres, List.append_nil,
    Bool.false_eq_true, if_false]
  rw [endCmd_deadline_plain hr.throughput]
  exact ⟨_, satCount_regsOnly _ _ _ _, rfl⟩
end

/-- Settles O16: the stores of ACC_SAVE (`imageSaved_bytes`), and what ACC_LOAD takes (`accLoad_takes`). -/
theorem accumulatorImages : Obligations.AccumulatorImages := by
  unfold Obligations.AccumulatorImages
  refine ⟨fun s id x c hr hx hc hpar hpoi hk hh => ?_, fun s id x c hr hx hc hpar hpoi hk hh hres => ?_⟩
  · obtain ⟨hrow, hword, hbytes⟩ := imageSaved_bytes (c := c) (a := (motifArrays (targetOf c)).1) hc.1
    obtain ⟨m, hm⟩ := imageSaved_frame c (motifArrays (targetOf c)).1 s.dev
    have hsave := accSave_stores hx hpar hpoi hk hh hr
    rw [hm] at hrow hword hbytes hsave
    refine ⟨_, exec_next rfl rfl hsave, rfl, ?_, ⟨rfl, rfl, rfl, rfl, rfl, rfl, rfl, rfl, rfl, rfl, rfl⟩, rfl, rfl, rfl, hrow, hword,
      fun l _ h1 h2 => hbytes l h1 h2⟩
    exact hr.cmdOf_ended (e := { s.dev with mem := m }) rfl
  · obtain ⟨e, he, hload⟩ := accLoad_takes hx hpar hk hh hr hres
    obtain ⟨-, -, -, -, -, hrise, -⟩ := hc
    obtain ⟨hmem, hcmds, hout, hsame⟩ := he.outside
    have hown : arrOf e (motifArrays (targetOf c)).1 = imageLoaded c (motifArrays (targetOf c)).1 s.dev :=
      (he.arrOf _).trans (tabGet_tabSet_same _ _ _ _ hrise)
    refine ⟨_, exec_next rfl rfl hload, rfl, hr.cmdOf_ended hcmds, hsame, hmem, hout, ?_⟩
    intro a
    have harr : arrOf (setCmd (endedAs c {}) e) a = imageLoaded c a s.dev := hown
    refine ⟨?_, fun k hk' => ?_, fun b hb => (he.arrOf b).trans (arrOf_setArr_ne _ _ hb)⟩
    · rw [harr, imageLoaded_kept]
    · rw [harr, imageLoaded_ent, tabGet_imageEntries s.dev a (accRow c) hk']

end Sys2Proof.Machine
end

section
/-! Chains: what a hop leaves, and O36. -/

namespace Sys2Proof.Machine

theorem RegsOnly.setCmd {d e : Device} (h : RegsOnly d e) (c : Cmd) : RegsOnly (setCmd c d) (setCmd c e) := by
  obtain ⟨r, rfl⟩ := h
  exact ⟨r, rfl⟩

/-- A command's new record, and counters, leave the rest. -/
theorem setCmd_counted_leaves {d e : Device} {c : Cmd} (h : RegsOnly (setCmd c d) e) :
    e.mem = d.mem ∧ (∀ a, arrOf e a = arrOf d a) ∧ e.cmds = (setCmd c d).cmds ∧ e.out = d.out ∧
      ∀ f, SameOutside f d → SameOutside f e := by
  obtain ⟨_, rfl⟩ := h
  exact ⟨rfl, fun _ => rfl, rfl, rfl, fun _ h => h⟩

/-- A chain waits for a hop to the member that its command, as it now stands, has not made. -/
theorem chainDone_waits {c c' : Cmd} {ss : List Share} {s : Share} {x : Device × List (List Nat)} (hc : cmdOf x.1 c.id = some c')
    (h : ∃ h ∈ (chainHops ss s).1, ∀ k ∈ c'.hops, (allHops ss)[k]? ≠ some h) : chainDone c ss s x = x := by
  obtain ⟨h, hmem, hno⟩ := h
  have hall : ((chainHops ss s).1.all fun h => c'.hops.any fun k => decide ((allHops ss)[k]? = some h)) = false :=
    List.all_eq_false.mpr ⟨h, hmem, by simpa using hno⟩
  unfold chainDone
  dsimp only
  split
  · rfl
  · split
    next hc' =>
      obtain rfl := Option.some.inj (hc.symm.trans hc')
      simp only [hall, Bool.false_and, Bool.false_eq_true, if_false]
      split <;> rfl
    · rfl

/-- The sums that a hop forms, by entry and channel (R172). -/
def hopSums (d : Device) (c : Cmd) (sx sy : Share) (g : Nat) : List ((Nat × Nat) × Nat) :=
  (cellsOf c sy g).map fun k =>
    (k, (addFull (mFp c) (evOf c) (slotGet d c sx.arr (chainLevel c sx) k.1 k.2) (slotGet d c sy.arr (chainLevel c sy) k.1 k.2)).1)

/-- A device whose chain slots have taken part in a hop: the sums written at the receiver, the sender's slot free. -/
def hopMade (d : Device) (c : Cmd) (sx sy : Share) (g : Nat) (px : Prog) : Device :=
  setProg sx.arr { px with slot := none } (applyWrites sy.arr (slotWrites c (chainLevel c sy) (hopSums d c sx sy g)) d)

/-- A hop that may be made adds, frees the sender's slot, notes itself and counts; then the chain may be done. -/
theorem chainHop_adds {d : Device} {id m : Nat} {c : Cmd} {sx sy : Share} {dr : Drain} {px py : Prog} (hr : Runs d id 0x10 c)
    (hp : d.merr.parity = []) (hh : hopReady d c (shares d c) m = some (sx, sy, dr, px, py)) :
    ∃ e, RegsOnly (setCmd { c with hops := c.hops ++ [m] } (hopMade d c sx sy dr.group px)) e ∧
      chainHop id m d = (chainDone c (shares d c) sy (e, [])).1 := by
  simp only [chainHop, chainGo, runningAs_of_runs hr, hh, hp, if_true, commit_plain _ _ _ hp, List.map_map]
  exact ⟨_, ((satCount_regsOnly sy.arr c.part _ _).setCmd _).trans (perfOne_regsOnly _ _ _ _ _), rfl⟩

/-- What the sums and the freed slot of a hop leave. -/
theorem hopMade_leaves (d : Device) (c : Cmd) (sx sy : Share) (g : Nat) (px : Prog) :
    let e := hopMade d c sx sy g px
    e.mem = (applyWrites sy.arr (slotWrites c (chainLevel c sy) (hopSums d c sx sy g)) d).mem ∧
      (arrOf e sx.arr).prog = some { px with slot := none } ∧ (∀ b, b ≠ sx.arr → arrOf e b = arrOf d b) ∧
      e.cmds = d.cmds ∧ e.out = d.out ∧ SameOutside d e := by
  obtain ⟨m, hm⟩ := applyWrites_frame sy.arr (slotWrites c (chainLevel c sy) (hopSums d c sx sy g)) d
  obtain ⟨hown, hother, hmem, hcmds, hout, hsame⟩ := setProg_leaves sx.arr { px with slot := none } { d with mem := m }
  dsimp only [hopMade]
  rw [hm, hown]
  exact ⟨hmem, rfl, hother, hcmds, hout, hsame d ⟨rfl, rfl, rfl, rfl, rfl, rfl, rfl, rfl, rfl, rfl, rfl⟩⟩

/-- Settles O36: the hop adds (`chainHop_adds`), and a hop still open keeps the chain from its end (`chainDone_waits`). -/
theorem chainHopAddsPartials : Obligations.ChainHopAddsPartials := by
  unfold Obligations.ChainHopAddsPartials
  intro s id m c sx sy dr px py hr hp hh hopen
  obtain ⟨e, he, hgo⟩ := chainHop_adds hr hp hh
  obtain ⟨hmem, hprog, hother, hcmds, hout, hsame⟩ := hopMade_leaves s.dev c sx sy dr.group px
  obtain ⟨hmem', harr, hcmds', hout', hsame'⟩ := setCmd_counted_leaves he
  have hnoted : e.cmds = (setCmd { c with hops := c.hops ++ [m] } s.dev).cmds := by rw [hcmds', setCmd, hcmds, setCmd]
  have hc : cmdOf e c.id = some { c with hops := c.hops ++ [m] } := by
    rw [cmdOf, hnoted]
    exact cmdOf_setCmd_same (c := { c with hops := c.hops ++ [m] }) (x := c) (by rw [cmdOf_id hr.cmd]; exact hr.cmd)
  have hwait : chainDone c (shares s.dev c) sy (e, []) = (e, []) := by
    obtain ⟨h, hin, hno⟩ := hopen
    refine chainDone_waits hc ⟨h, hin, fun k hk hkh => ?_⟩
    obtain ⟨hkm, hkc⟩ := hno k hkh
    rcases List.mem_append.mp hk with hk | hk
    · exact hkc hk
    · exact hkm (List.mem_singleton.mp hk)
  exact ⟨_, exec_next rfl rfl (hgo.trans (congrArg Prod.fst hwait)), rfl, hmem'.trans hmem, (congrArg Arr.prog (harr _)).trans hprog,
    fun b hb => (harr b).trans (hother b hb), hnoted, hout'.trans hout, hsame' _ hsame⟩

end Sys2Proof.Machine
end

section
/-! Scatter banks, tallies and waits: what a bank's oldest line and a tally's increment leave, and O37. -/

namespace Sys2Proof.Machine

/-- Without memory errors no address reads badly. -/
theorem firstBad_none {d : Device} (h1 : d.merr.poison = []) (h2 : d.merr.parity = []) (l n : Nat) : firstBad d l n = none :=
  if_pos ⟨h1, h2⟩

theorem Counted.wf {d e : Device} (h : Counted d e) (hw : Memory.wf d) : Memory.wf e := by
  obtain ⟨⟨_, rfl⟩, -⟩ := h
  exact hw

theorem Counted.merr {d e : Device} (h : Counted d e) : e.merr = d.merr := by
  obtain ⟨⟨_, rfl⟩, -⟩ := h
  rfl

/-! ## A word that is added to (R162, R223, R268) -/

/-- A device of which counters, then a word of four bytes in the stores, then counters have changed. -/
def WordSet (l v : Nat) (d e : Device) : Prop := ∃ f, Counted d f ∧ Counted (storeBytes l (leBytes 4 v) f) e

/-- What a word set in the stores leaves: its value, every other byte, and the rest of the device. -/
theorem WordSet.leaves {l v : Nat} {d e : Device} (h : WordSet l v d e) (hl : 2 ^ 40 ≤ l) (hw : Memory.wf d) :
    leNat (bytesAt e l 4) = v % 256 ^ 4 ∧ (∀ k, (k < l ∨ l + 4 ≤ k) → SameByte d e k) ∧
      e.scat = d.scat ∧ e.arrs = d.arrs ∧ e.cmds = d.cmds ∧ e.out = d.out ∧ SameOutside d e := by
  obtain ⟨f, hf, he⟩ := h
  have hwf : Memory.wf f := hf.wf hw
  obtain ⟨hmem, hframe⟩ : leNat (bytesAt e l 4) = v % 256 ^ 4 ∧ ∀ k, (k < l ∨ l + 4 ≤ k) → SameByte d e k := by
    refine ⟨?_, fun k hk => ?_⟩
    · rw [he.bytesAt, bytesAt_storeBytes hl hwf (length_leBytes 4 v), leNat_leBytes]
    · rw [SameByte, he.byteAt, byteAt_storeBytes_out hl hwf (by rw [length_leBytes]; exact hk), hf.byteAt]
  obtain ⟨⟨r, rfl⟩, -⟩ := hf
  obtain ⟨m, hm⟩ := storeBytes_frame l (leBytes 4 v) { d with regs := r }
  obtain ⟨⟨r', rfl⟩, -⟩ := he
  refine ⟨hmem, hframe, ?_⟩
  rw [hm]
  exact ⟨rfl, rfl, rfl, rfl, rfl, rfl, rfl, rfl, rfl, rfl, rfl, rfl, rfl, rfl, rfl⟩

/-! ## Banks (R223) -/

/-- An addition of a line, saturated (R162). -/
def lineSum (d : Device) (l : Nat) (z : Int) : Int := clip (-2147483648) 2147483647 (signed 32 (leNat (bytesAt d l 4)) + z)

/-- A line of one addition that reads without an error sets the word that it adds to. -/
theorem scatterRetire_sets {d : Device} {b k e : Nat} {z : Int} {x : ScatLine} {r : List ScatLine} (hpar : d.merr.parity = [])
    (hpoi : d.merr.poison = []) (hb : bankOf d b k = x :: r) (ha : x.adds = [(e, z)]) :
    let l := bandAddr b (64 * x.line) + 4 * e
    WordSet l (unsigned 32 (lineSum d l z)) (setBank b k r d) (scatterRetire b k d) := by
  intro l
  have hbad (n : Nat) : firstBad (setBank b k r d) (bandAddr b (64 * x.line)) n = none := firstBad_none hpoi hpar _ n
  have hcount := perfOne_counted b 0x11 (some (bandOwner (setBank b k r d) b)) 1 (setBank b k r d)
  have hread : bytesAt (perfOne b 0x11 (some (bandOwner (setBank b k r d) b)) 1 (setBank b k r d)) l 4 = bytesAt d l 4 :=
    (hcount.bytesAt l 4).trans rfl
  refine ⟨_, hcount, ?_⟩
  simp only [scatterRetire, retireBank, hb, retireLine, hbad, Option.isSome_none, Bool.false_eq_true, if_false, ha, List.foldl_cons,
    List.foldl_nil]
  rw [hread]
  exact satCount_counted _ _ _ _

theorem bankOf_setBank_same {d : Device} (b k : Nat) (r : List ScatLine) (h : Rising d.scat) : bankOf (setBank b k r d) b k = r :=
  tabGet_tabSet_same _ _ _ _ h

theorem bankOf_setBank_ne {b k b' k' : Nat} (r : List ScatLine) (d : Device) (hk : k < 64) (hk' : k' < 64) (h : ¬(b' = b ∧ k' = k)) :
    bankOf (setBank b k r d) b' k' = bankOf d b' k' := tabGet_tabSet_ne _ _ _ _ _ _ (by omega)

/-! ## Tallies (R268) -/

/-- An array whose due increment of a tally has been taken. -/
def tallyTaken (d : Device) (a n : Nat) : Arr := { arrOf d a with held := (arrOf d a).held.erase n }

theorem tallyIncrement_due {d : Device} {a n : Nat} (hn : n ∈ (arrOf d a).held) (hh : heldArray d a = false) :
    tallyIncrement a n d = tallyUp a n (setArr a (tallyTaken d a n) d) := by
  simp [tallyIncrement, hh, hn, tallyTaken]

/-- A tally whose word reads without an error is set. -/
theorem tallyUp_sets {d : Device} (a n : Nat) (hpar : d.merr.parity = []) (hpoi : d.merr.poison = []) :
    WordSet (wordAddr a (4 * (65472 + n))) (leNat (bytesAt d (wordAddr a (4 * (65472 + n))) 4) + 1) d (tallyUp a n d) := by
  have hcount := perfArr_counted a 0x0C none 1 d
  have hbad := firstBad_none (hcount.merr ▸ hpoi) (hcount.merr ▸ hpar) (wordAddr a (4 * (65472 + n))) 4
  have hread : wsWord (perfArr a 0x0C none 1 d) a (65472 + n) = leNat (bytesAt d (wordAddr a (4 * (65472 + n))) 4) :=
    congrArg leNat (hcount.bytesAt _ 4)
  refine ⟨_, hcount, ?_⟩
  simp only [tallyUp, hbad, hread, Option.isSome_none, Bool.false_eq_true, if_false]
  exact .refl _

theorem tallyIncrement_waits {d : Device} {a : Nat} (n : Nat) (h : heldArray d a = true) : tallyIncrement a n d = d := by
  simp [tallyIncrement, h]

/-! ## Waits (R256, R257, R259, R262) -/

/-- Each kind of wait that a step reports is counted in its register. -/
theorem applyCirc_waits (d : Device) (p : Nat) {a b : Nat} (n : Nat) (ha : a < 192) (hb : b < 12) :
    applyCirc p { rowWaits := [(a, n)] } d = fsat (oRowRetry a) fRowRetryRetries n d ∧
    applyCirc p { wordWaits := [(a, n)] } d = fsat (oWordRetry a) fWordRetryRetries n d ∧
    applyCirc p { bandWaits := [(b, n)] } d = fsat (oBandRetry b) fBandRetryRetries n d ∧
    applyCirc p { collisions := [(a, n)] } d = fsat (oRowCollision a) fRowCollisionCollisions n d := by
  refine ⟨?_, ?_, ?_, ?_⟩ <;> simp [applyCirc, countWaits, ha, hb]

/-- Settles O37: the word that a bank's line or a tally sets (`WordSet.leaves`), and the waits counted. -/
theorem banksAndTallies : Obligations.BanksAndTallies := by
  unfold Obligations.BanksAndTallies
  refine ⟨fun s b k e z x r hb hk hc hs hpar hpoi hq ha _ _ => ?_, fun s a n ha hn hc hpar hpoi hmem => ⟨fun hh => ?_, fun hh => ?_⟩,
    fun d p a b n ha hb => applyCirc_waits d p n ha hb⟩
  · intro l
    have hl : 2 ^ 40 ≤ l := Nat.le_trans (aperture_le_bandAddr b (64 * x.line)) (Nat.le_add_right _ _)
    obtain ⟨hval, hbytes, hscat, harrs, hcmds, hout, hsame⟩ := (scatterRetire_sets hpar hpoi hq ha).leaves hl hc.1
    have hbank (b' k' : Nat) : bankOf (scatterRetire b k s.dev) b' k' = bankOf (setBank b k r s.dev) b' k' := by
      rw [bankOf, hscat, bankOf]
    obtain ⟨h1, h2⟩ := clip_bounds (lo := -2147483648) (hi := 2147483647) (signed 32 (leNat (bytesAt s.dev l 4)) + z) (by decide)
    refine ⟨_, exec_next rfl (by simp [Instr.wf, hb, hk]) rfl, rfl, (hbank b k).trans (bankOf_setBank_same b k r hs),
      fun b' k' _ hk' hne => (hbank b' k').trans (bankOf_setBank_ne r s.dev hk hk' hne), ?_, fun l' _ hl' => hbytes l' hl',
      hcmds, harrs, hout, hsame⟩
    exact (congrArg (signed 32) hval).trans (signed_unsigned h1 h2)
  · obtain ⟨hval, hbytes, -, harrs, hcmds, hout, hsame⟩ :=
      (tallyUp_sets (d := setArr a (tallyTaken s.dev a n) s.dev) a n hpar hpoi).leaves (aperture_le_wordAddr _ _) hc.1
    obtain ⟨-, -, -, -, -, hrise, -⟩ := hc
    refine ⟨_, exec_next rfl (by simp [Instr.wf, arrayOk, ha, hn]) (tallyIncrement_due hmem hh), rfl, hval, ?_,
      fun l' _ hl' => hbytes l' hl', hcmds, hout, hsame⟩
    exact (congrArg (tabGet {} a) harrs).trans (tabGet_tabSet_same _ _ _ _ hrise)
  · exact exec_next rfl (by simp [Instr.wf, arrayOk, ha, hn]) (tallyIncrement_waits n hh)

end Sys2Proof.Machine
end

section
/-! Order events: what a completing command's signal leaves of its event's registers, and O22. -/

namespace Sys2Proof.Machine

/-- A counter that fills its register advances as a word does. -/
theorem rget_fwrap_word {off : Nat} {f : Fld} (n : Nat) {d : Device} (h : Rising d.regs) (hf : f = ⟨31, 0⟩) :
    rget (fwrap off f n d) off = rget d off + BitVec.ofNat 32 n := by
  subst hf
  have hw := (rget d off).isLt
  apply BitVec.eq_of_toNat_eq
  rw [fwrap, rget_fput_same off _ _ d h (by decide) (by decide), setBits_eq _ _ _ _ (by decide), BitVec.toNat_add, BitVec.toNat_ofNat, fget]
  simp only [bits]
  omega

theorem oEvent_ne_oEventErr {p e k : Nat} (he : e < 64) : oEvent p e ≠ oEventErr p k := by unfold oEvent oEventErr; omega

theorem sigEvOf_lt (c : Cmd) : sigEvOf c < 64 := bits_lt 28 23 _

theorem signalEvent_counts {c : Cmd} (d : Device) (hs : sigEnOf c = true) (h : c.done.status = stOk ∨ c.done.status = stDeadline) :
    signalEvent c d = fwrap (oEvent c.part (sigEvOf c)) fEventCount 1 d := by
  rw [signalEvent, if_pos hs]
  exact if_pos h

theorem signalEvent_fails {c : Cmd} (d : Device) (hs : sigEnOf c = true) (h : ¬(c.done.status = stOk ∨ c.done.status = stDeadline)) :
    signalEvent c d = rput (oEventErr c.part (sigEvOf c / 32))
      (rget d (oEventErr c.part (sigEvOf c / 32)) ||| BitVec.ofNat 32 (2 ^ (sigEvOf c % 32))) d := by
  rw [signalEvent, if_pos hs]
  exact if_neg h

/-- Settles O22: the count advances as a word (`rget_fwrap_word`); ERR lies in a register of its own. -/
theorem orderEventSignalled : Obligations.OrderEventSignalled := by
  unfold Obligations.OrderEventSignalled
  intro d c hc hs
  obtain ⟨-, -, -, hr, -⟩ := hc
  refine ⟨fun hok => ?_, fun h1 h2 => ?_⟩
  · rw [signalEvent_counts d hs hok]
    exact rget_fwrap_word 1 hr rfl
  · rw [signalEvent_fails d hs (not_or.mpr ⟨h1, h2⟩)]
    refine ⟨?_, rget_rput_ne _ _ _ _ (oEvent_ne_oEventErr (sigEvOf_lt c))⟩
    have hbit : sigEvOf c % 32 < 32 := Nat.mod_lt _ (by decide)
    rw [rget_rput_same _ _ _ hr, BitVec.getLsbD_or, BitVec.getLsbD_ofNat, Nat.testBit_two_pow_self, decide_eq_true hbit]
    simp

end Sys2Proof.Machine
end

section
/-! Refusals and deadlines: a vector command that its checks refuse, a FIXED_TIME NOP that ends late, and O12. -/

namespace Sys2Proof.Machine

/-- Each vector command of R347 is well formed and is one opcode's work. -/
theorem exec_vectorRow {op id : Nat} {x : Circ} {i : Instr} (h : (op, i) ∈ vectorRows id x) :
    i.wf = true ∧ ∀ s, exec i s = run i (vecWork op id x) s := by
  simp only [vectorRows, List.mem_cons, Prod.mk.injEq, List.not_mem_nil, or_false] at h
  rcases h with ⟨rfl, rfl⟩ | ⟨rfl, rfl⟩ | ⟨rfl, rfl⟩ | ⟨rfl, rfl⟩ | ⟨rfl, rfl⟩ | ⟨rfl, rfl⟩ | ⟨rfl, rfl⟩ | ⟨rfl, rfl⟩ |
    ⟨rfl, rfl⟩ | ⟨rfl, rfl⟩ | ⟨rfl, rfl⟩ | ⟨rfl, rfl⟩ | ⟨rfl, rfl⟩ <;> exact ⟨rfl, fun _ => rfl⟩

/-- The checks of a vector command refuse with MALFORMED, PERMISSION or REMOTE (R301, R346, R350). -/
theorem vecCheck_status {d : Device} {c : Cmd} {y : Done} (h : vecCheck d c = some y) :
    y.status = stMalformed ∨ y.status = stPermission ∨ y.status = stRemote := by
  unfold vecCheck at h
  split at h
  · cases h; exact .inl rfl
  · split at h
    · cases h; exact .inr (.inl rfl)
    · split at h
      · cases h; exact .inr (.inr rfl)
      · cases h

/-- A refused vector command changes itself alone. -/
theorem vecWork_refused {d : Device} {id : Nat} {x : Circ} {c : Cmd} {y : Done} (hr : Runs d id (opOf c) c) (hx : NoErrors x)
    (hh : vecHeld d c = false) (hk : vecCheck d c = some y) : vecWork (opOf c) id x d = setCmd (endedAs c y) d := by
  have hy : y.status ≠ stDeadline := by rcases vecCheck_status hk with h | h | h <;> rw [h] <;> decide
  simp only [vecWork, runningAs_of_runs hr, hh, applyCirc_none hx, hk, Bool.false_eq_true, if_false, endCmd_plain hy]

/-- Work of a budget of 0 that ends more than 2 µs after its start (R331, R332, R340). -/
theorem deadline_missed {c : Cmd} {took : Nat} (hf : fixedTime c = true) (ht : 12800 < took) :
    deadline c 0 took {} = { status := stDeadline, detail := min ((took - 12800 + 6399) / 6400) 0xFFFF } := by
  have hdue : 0 * c.div + 12800 = 12800 := by omega
  have hup : ceilDiv (took - 12800) 6400 = (took - 12800 + 6399) / 6400 := by unfold ceilDiv; omega
  rw [deadline, deadlinePll, hdue, hup]
  exact if_pos ⟨hf, rfl, ht⟩

theorem oAclkCtrl_ne_oDeadlineMisses (p : Nat) : oAclkCtrl ≠ oDeadlineMisses p := by unfold oAclkCtrl oDeadlineMisses; omega

/-- A missed deadline is counted; while ACLK is not slower than at the start nothing else changes (R474). -/
theorem endCmd_missed {c : Cmd} {x : Done} {d : Device} (hx : x.status = stDeadline) (hd : fget d oAclkCtrl fAclkCtrlDiv ≤ c.div) :
    endCmd c x d = fsat (oDeadlineMisses c.part) fDeadlineMissesMisses 1 (setCmd (endedAs c x) d) := by
  have hdiv : fget (fsat (oDeadlineMisses c.part) fDeadlineMissesMisses 1 (setCmd (endedAs c x) d)) oAclkCtrl fAclkCtrlDiv =
      fget d oAclkCtrl fAclkCtrlDiv := fget_fput_ne _ _ _ _ _ _ (oAclkCtrl_ne_oDeadlineMisses c.part)
  simp only [endCmd, if_pos hx]
  exact if_neg (by rw [← endedAs, hdiv]; omega)

/-- A FIXED_TIME command waits for no dump (R545). -/
theorem runningAs_fixedTime {d : Device} {id : Nat} {c : Cmd} {ops : Nat → Bool} (hc : cmdOf d id = some c) (hp : c.phase = .running)
    (ho : ops (opOf c) = true) (hf : fixedTime c = true) : runningAs d id ops = some c := by
  simp [runningAs, hc, hp, ho, waitsDump, hf]

theorem nop_late {d : Device} {id : Nat} {x : Circ} {c : Cmd} (hc : cmdOf d id = some c) (hp : c.phase = .running) (ho : opOf c = 0x00)
    (hs : c.stop = none) (hf : fixedTime c = true) (hk : nopCheck d c = none) : nop id x d = endCmd c (deadline c 0 x.took {}) d := by
  simp only [nop, runningAs_fixedTime (ops := (· = 0x00)) hc hp (decide_eq_true ho) hf, hk, hs]

/-- Settles O12: a refusal by `vecWork_refused`, the late NOP by `nop_late` and `endCmd_missed`. -/
theorem refusalsAndDeadlines : Obligations.RefusalsAndDeadlines := by
  unfold Obligations.RefusalsAndDeadlines
  refine ⟨fun s id x c i y hi hr hx hh hk => ?_, fun s id x c hc hp ho hs hf hk hd ht => exec_next rfl rfl ?_⟩
  · obtain ⟨hw, he⟩ := exec_vectorRow hi
    exact ⟨exec_next (he s) hw (vecWork_refused hr hx hh hk), vecCheck_status hk⟩
  · rw [nop_late hc hp ho hs hf hk, deadline_missed hf ht]
    exact endCmd_missed rfl hd

end Sys2Proof.Machine
end

section
/-! Submission entries and lists: the turn of a ring, what becomes of an entry, the commands handed over, and O25. -/

namespace Sys2Proof.Machine

theorem partOf_setPart_same {d : Device} (p : Nat) (x : Part) (h : Rising d.parts) : partOf (setPart p x d) p = x :=
  tabGet_tabSet_same _ _ _ _ h

/-! ## Turns (R381) -/

theorem mem_of_nextAfter {n last q : Nat} {l : List Nat} (h : nextAfter n last l = some q) : q ∈ l :=
  List.contains_iff_mem.mp (List.find?_some h)

/-- A ring whose turn it is has an entry that can be taken. -/
theorem entryTurn_ready {d : Device} {p q : Nat} (h : entryTurn d p q = true) : entryReady d p q = true := by
  obtain ⟨⟨-, hring⟩, -⟩ : (_ ∧ nextAfter 16 (partOf d p).ringLast (ringsReady d p (partOf d p)) = some q) ∧ _ := by
    simpa only [entryTurn, Bool.and_eq_true, decide_eq_true_eq] using h
  obtain ⟨e, he, rfl⟩ := List.mem_map.mp (mem_of_nextAfter hring)
  exact (Bool.and_eq_true_iff.mp (List.mem_filter.mp he).2).2

/-- The device when a ring's entry is read in its turn. -/
def entryAsked (p q : Nat) (d : Device) : Device := askEntry p q (turnTo p q d)

section
variable {d : Device} {p q : Nat} (hp : Rising d.parts)
include hp

theorem partOf_turnTo : partOf (turnTo p q d) p = { partOf d p with ringLast := q } :=
  partOf_setPart_same (d := { d with fetchLast := p }) p _ hp

theorem partOf_entryAsked : partOf (entryAsked p q d) p = { partOf d p with ringLast := q } := partOf_turnTo hp

theorem ringOf_entryAsked : ringOf (partOf (entryAsked p q d) p) q = ringOf (partOf d p) q := by rw [partOf_entryAsked hp]; rfl

theorem entryReady_turnTo : entryReady (turnTo p q d) p q = entryReady d p q := by
  simp only [entryReady, takesEntries, partOf_turnTo hp]
  rfl

theorem cqRoom_entryAsked (k : Nat) : cqRoom (entryAsked p q d) p k = cqRoom d p k := by
  simp only [cqRoom, cqOpen, cqFull, partOf_entryAsked hp]
  rfl
end

theorem entryConsume_waits {d : Device} {p q : Nat} (h : entryTurn d p q = false) (e list : List Word) (good : Nat) (c : Circ) :
    entryConsume p q e list good c d = d := by simp [entryConsume, h]

/-! ## An entry in its turn (R376, R379, R380) -/

theorem isAbortEntry_of_isListEntry {lg : Bool} {e : List Word} (h : isListEntry lg e = true) : isAbortEntry lg e = false := by
  have h0 : ew e 2 17 17 = 0 := by
    simp only [isListEntry, Bool.and_eq_true, decide_eq_true_eq] at h
    exact h.1.1.1.1
  simp [isAbortEntry, h0]

section
variable {d : Device} {p q : Nat} {e : List Word} (hp : Rising d.parts) (ht : entryTurn d p q = true)
include hp ht

theorem entryConsume_stale (list : List Word) (good : Nat) (c : Circ) (hv : entryValid d p q e = false) :
    entryConsume p q e list good c d = staleStop p q (entryAsked p q d) := by
  have hready := (entryReady_turnTo hp).trans (entryTurn_ready ht)
  have hv' : entryValid (askEntry p q (turnTo p q d)) p q e = false := hv
  simp only [entryConsume, ht, entryTake, hready, hv', if_true, Bool.false_eq_true, if_false, entryAsked]

variable (hv : entryValid d p q e = true)
include hv

/-- A valid entry in its turn is an abort, a list, or answered as malformed. -/
theorem entryConsume_valid (list : List Word) (good : Nat) (c : Circ) :
    entryConsume p q e list good c d =
      if isAbortEntry (sqLegacy d p q) e then takeAbort p q (entryAsked p q d)
      else if isListEntry (sqLegacy d p q) e then
        let d1 := applyCirc p c (askList e (entryAsked p q d))
        let r := entryList d1 e list good
        if r.1 = [] then entryFails p q stMemory 0 d1 else listOpen p q r.1 r.2 d1
      else entryFails p q stMalformed 0 (entryAsked p q d) := by
  have hready := (entryReady_turnTo hp).trans (entryTurn_ready ht)
  have hv' : entryValid (askEntry p q (turnTo p q d)) p q e = true := hv
  simp only [entryConsume, ht, entryTake, hready, hv', if_true]
  rfl

theorem entryConsume_abort (list : List Word) (good : Nat) (c : Circ) (ha : isAbortEntry (sqLegacy d p q) e = true) :
    entryConsume p q e list good c d = takeAbort p q (entryAsked p q d) :=
  (entryConsume_valid hp ht hv list good c).trans (if_pos ha)

/-- An entry that is neither a list nor an abort is answered and passed. -/
theorem entryConsume_malformed (list : List Word) (good : Nat) (c : Circ) (hl : isListEntry (sqLegacy d p q) e = false)
    (ha : isAbortEntry (sqLegacy d p q) e = false) (hr : cqRoom d p (ringCq d p q) = true) :
    entryConsume p q e list good c d = headAdvance p q (entryError p q stMalformed 0 (entryAsked p q d)) := by
  rw [entryConsume_valid hp ht hv list good c, ha, hl]
  exact if_pos ((cqRoom_entryAsked hp _).trans hr)
end

/-! ## Lists (R308, R376, R380) -/

/-- What the fetcher writes and asks for leaves the words of a list in device memory. -/
theorem localList_congr (d : Device) (ps : Tab Part) (k : Nat) (o : List Out) (n l : Nat) :
    localList { d with parts := ps, fetchLast := k, out := o } l n = localList d l n := by
  induction n generalizing l with
  | zero => rfl
  | succ n ih => rw [localList, ih, localList]; rfl

theorem entryList_congr (d : Device) (ps : Tab Part) (k : Nat) (o : List Out) (e list : List Word) (good : Nat) :
    entryList { d with parts := ps, fetchLast := k, out := o } e list good = entryList d e list good := by
  simp only [entryList, localList_congr]

theorem askList_eq (e : List Word) (d : Device) :
    askList e d = { d with out := d.out ++ if ew e 2 16 16 = 0 then [.hostRead (listAddr e) (64 * ew e 2 15 0)] else [] } := by
  unfold askList
  split
  · rfl
  · rw [List.append_nil]

theorem entryList_askList (d : Device) (p q : Nat) (e list : List Word) (good : Nat) :
    entryList (askList e (entryAsked p q d)) e list good = entryList d e list good := by
  rw [askList_eq]
  exact entryList_congr d _ _ _ e list good

/-- A list of at least one word that can be read begins to be read. -/
theorem entryConsume_list {d : Device} {p q : Nat} {e : List Word} (hp : Rising d.parts) (ht : entryTurn d p q = true)
    (hv : entryValid d p q e = true) (list : List Word) (good : Nat) {c : Circ} (hc : NoErrors c)
    (hl : isListEntry (sqLegacy d p q) e = true) (hw : (entryList d e list good).1 ≠ []) :
    entryConsume p q e list good c d =
      listOpen p q (entryList d e list good).1 (entryList d e list good).2 (askList e (entryAsked p q d)) := by
  rw [entryConsume_valid hp ht hv list good c, isAbortEntry_of_isListEntry hl, hl]
  simp only [applyCirc_none hc, entryList_askList, Bool.false_eq_true, if_false, if_true, if_neg hw]

/-! ## Commands handed over (R308, R380, R611) -/

theorem perfOne_reported (u ev : Nat) (part : Option Nat) (k : Nat) (d : Device) : Reported d (perfOne u ev part k d) :=
  perfUnit_reported _ _ _ _ _ _ _ d

/-- HEAD's advance counts and moves a ring on: the clocks run as before. -/
theorem headAdvance_reported (p q : Nat) (d : Device) : Reported d (headAdvance p q d) := by
  have hhead : Reported d (if sqLegacy d p q then fwrap (oSqState p q) fSqStateHead 1 d
      else if headOf d p q + 1 = sqSize d p q then fwrap (oSqState p q) fSqStateExpGen 1 (fput (oSqState p q) fSqStateHead 0 d)
      else fwrap (oSqState p q) fSqStateHead 1 d) :=
    .ite (fwrap_reported _ _ _ d) (.ite ((fput_reported _ _ _ d).trans (fwrap_reported _ _ _ _)) (fwrap_reported _ _ _ d))
  unfold headAdvance
  refine (hhead.trans (perfOne_reported 16 0x24 (some p) 1 _)).trans ?_
  exact .ite ((setPart_reported _ _ _).trans (fput_reported _ _ _ _)) (setPart_reported _ _ _)

theorem listAfter_reported (p q seq : Nat) (l : ListRead) (rest : List Word) (d : Device) : Reported d (listAfter p q seq l rest d) :=
  .ite (headAdvance_reported p q d) (setPart_reported _ _ d)

theorem Reported.clk {d e : Device} (h : Reported d e) : e.clk = d.clk := by
  obtain ⟨_, _, _, _, _, rfl⟩ := h
  rfl

theorem wakeRun_run {d : Device} (h : d.clk.power = .run) : wakeRun d = { d with clk := { d.clk with busyAt := d.clk.time } } := by
  simp only [wakeRun, h]

section
variable {d : Device} {p q : Nat} {l : ListRead} {ws rest : List Word} {bad : Bool} (hl : (ringOf (partOf d p) q).reading = some l)
  (hok : dispatchOk d p = true) (hn : nextCommand (sqLegacy d p q) (rget d (oSqCtrl p q)).toNat l = some (ws, bad, rest))
include hl hok hn

theorem dispatch_queued (hrun : d.clk.power = .run) (hq : (queueOf (listCmd d p q l ws bad)).isSome = true)
    (hroom : queueRoom d (listCmd d p q l ws bad) = true) :
    let e := listAfter p q (seqOf (listCmd d p q l ws bad)) l rest (addCmd (listCmd d p q l ws bad) d)
    dispatch p q d = { e with clk := { e.clk with busyAt := e.clk.time } } := by
  intro e
  obtain ⟨g, hg⟩ := Option.isSome_iff_exists.mp hq
  have he : e.clk.power = .run := by rw [(listAfter_reported _ _ _ _ _ _).clk]; exact hrun
  rw [← wakeRun_run he]
  simp only [dispatch, hl, hok, hn, hg, hroom, if_true]
  rfl

theorem dispatch_full (hq : (queueOf (listCmd d p q l ws bad)).isSome = true)
    (hroom : queueRoom d (listCmd d p q l ws bad) = false) : dispatch p q d = d := by
  obtain ⟨g, hg⟩ := Option.isSome_iff_exists.mp hq
  simp only [dispatch, hl, hok, hn, hg, hroom, if_true, Bool.false_eq_true, if_false]

theorem dispatch_unqueued (hq : queueOf (listCmd d p q l ws bad) = none) :
    dispatch p q d = completionWrite d.nextId (listAfter p q (seqOf (listCmd d p q l ws bad)) l rest
      (addCmd (fetchMalformed (listCmd d p q l ws bad)) d)) := by
  simp only [dispatch, hl, hok, hn, hq, if_true]
  rfl
end

/-- Settles O25: an entry by what it is (`entryConsume_list`, `entryConsume_malformed`, `entryConsume_stale`), the next command of a list
by its queue (`dispatch_queued`, `dispatch_full`, `dispatch_unqueued`). -/
theorem listsAreFetched : Obligations.ListsAreFetched := by
  unfold Obligations.ListsAreFetched
  refine ⟨fun s p q good e list x hp hq he hc hx => ?_, fun s p q l ws rest bad hp hq hl hok hrun hn => ?_⟩
  · obtain ⟨-, -, -, -, hparts, -⟩ := hc
    have hw : (Instr.entryConsume p q e list good x).wf = true := by simp [Instr.wf, partOk, ringOk, hp, hq, he]
    refine ⟨fun ht => exec_next rfl hw (entryConsume_waits ht e list good x), fun ht => ⟨rfl, fun hv hl hne => ?_,
      fun hv hl ha hr => exec_next rfl hw (entryConsume_malformed hparts ht hv list good x hl ha hr), fun hv => ?_⟩⟩
    · refine exec_next rfl hw ((entryConsume_list hparts ht hv list good hx hl hne).trans ?_)
      rw [askList_eq, ← ringOf_entryAsked hparts]
      rfl
    · refine exec_next rfl hw ((entryConsume_stale hparts ht list good x hv).trans ?_)
      rw [← ringOf_entryAsked hparts]
      rfl
  · have hw : (Instr.dispatch p q).wf = true := by simp [Instr.wf, partOk, ringOk, hp, hq]
    refine ⟨fun hqu hroom => exec_next rfl hw (dispatch_queued hl hok hn hrun hqu (decide_eq_true hroom)),
      fun hqu hfull => exec_next rfl hw (dispatch_full hl hok hn hqu (decide_eq_false (Nat.not_lt.mpr hfull))), fun hqu => ?_⟩
    exact exec_next rfl hw (dispatch_unqueued hl hok hn hqu)

end Sys2Proof.Machine
end

section
/-! Aborts: the control entry, the acknowledgement, what taking effect makes of the partition's commands, and O26. -/

namespace Sys2Proof.Machine

/-! ## The control entry and the acknowledgement (R339, R384, R386, R388) -/

section
variable {d : Device} {p : Nat}

theorem abortRequest_recorded (q k : Nat) (h : (partOf d p).abort = .none) :
    abortRequest p q k d = setPart p { partOf d p with abort := .requested q k, aborted := 0, abortLate := false } d := by
  simp only [abortRequest, h]

theorem abortRequest_ignored (q k : Nat) (h : (partOf d p).abort ≠ .none) : abortRequest p q k d = d := by
  unfold abortRequest
  split
  · contradiction
  · rfl

theorem abortEntry_taken {q : Nat} {e : List Word} (hp : Rising d.parts) (ht : entryTurn d p q = true)
    (ha : isAbortEntry (sqLegacy d p q) e = true) (hv : entryValid d p q e = true) :
    abortEntry p q e d = takeAbort p q (entryAsked p q d) :=
  (if_pos ha).trans (entryConsume_abort hp ht hv [] 0 {} ha)

theorem abortAck_waits (h : ∃ c ∈ d.cmds, c.part = p) : abortAck p d = d := by
  have hany : (d.cmds.any fun c => decide (c.part = p)) = true := by simpa using h
  unfold abortAck
  dsimp only
  split
  · rw [hany]; rfl
  · rfl

theorem abortAck_posts {q k : Nat} (ha : (partOf d p).abort = .effective q k) (hn : ∀ c ∈ d.cmds, c.part ≠ p)
    (hr : cqRoom d p (ringCq d p q) = true) :
    let x := partOf d p
    let e := setPart p { x with abort := .none, aborted := 0, abortLate := false } d
    abortAck p d = cqPost p (ringCq e p q)
      { flags := if x.abortLate then flagLate else 0, rtype := 2, tilePos := x.aborted, sq := q, slot := k } e := by
  have hany : (d.cmds.any fun c => decide (c.part = p)) = false := by simpa using hn
  simp only [abortAck, ha, hany, hr, Bool.not_true, Bool.or_self, Bool.false_eq_true, if_false]
end

/-! ## What an abort does to one command (R271, R338) -/

theorem waitCheck_status {d : Device} {c : Cmd} {y : Done} (h : waitCheck d c = some y) : y.status ≠ stDeadline := by
  unfold waitCheck at h
  split at h
  · cases h; decide
  · exact lateCheck_status h

/-- The checks of NOP and WAIT_TALLY look at registers alone. -/
theorem nopCheck_cmds (d : Device) (l : List Cmd) (c : Cmd) : nopCheck { d with cmds := l } c = nopCheck d c := rfl
theorem waitCheck_cmds (d : Device) (l : List Cmd) (c : Cmd) : waitCheck { d with cmds := l } c = waitCheck d c := rfl

/-- A command without parts stops none. -/
theorem stopOthers_alone {c : Cmd} (h : c.shared = []) (d : Device) : stopOthers c d = d := by simp [stopOthers, awaited, h]

theorem abortedAs_id (d : Device) (pr : List (Nat × Nat)) (c : Cmd) : (abortedAs d pr c).id = c.id := by
  unfold abortedAs
  repeat' split
  all_goals rfl

/-- A command that its checks end, or ABORTED where they find nothing, changes itself alone. -/
theorem endCmd_aborted {c : Cmd} {o : Option Done} (h : ∀ y, o = some y → y.status ≠ stDeadline) (d : Device) :
    endCmd c (o.getD (refusedWith stAborted)) d = setCmd (endedAs c (o.getD { status := stAborted })) d := by
  refine endCmd_plain ?_
  cases o with
  | none => decide
  | some y => exact h y rfl

/-- Of commands with different ids, one id names one command. -/
theorem cmd_eq_of_id {l : List Cmd} (hn : (l.map (·.id)).Nodup) {a b : Cmd} (ha : a ∈ l) (hb : b ∈ l) (h : a.id = b.id) : a = b := by
  induction l with
  | nil => cases ha
  | cons c l ih =>
    obtain ⟨hc, hl⟩ := List.nodup_cons.mp hn
    have hfresh {x : Cmd} (hx : x ∈ l) : x.id ≠ c.id := fun e => hc (List.mem_map.mpr ⟨x, hx, e⟩)
    rcases List.mem_cons.mp ha with rfl | ha'
    · rcases List.mem_cons.mp hb with rfl | hb'
      · rfl
      · exact absurd h.symm (hfresh hb')
    · rcases List.mem_cons.mp hb with rfl | hb'
      · exact absurd h (hfresh ha')
      · exact ih hl ha' hb'

/-- A command recorded as it stands changes nothing. -/
theorem setCmd_self {d : Device} {c : Cmd} (hn : (d.cmds.map (·.id)).Nodup) (hc : c ∈ d.cmds) : setCmd c d = d := by
  have hmap : (d.cmds.map fun x => if x.id = c.id then c else x) = d.cmds := by
    refine (List.map_congr_left fun x hx => ?_).trans (List.map_id _)
    split
    next h => exact cmd_eq_of_id hn hc hx h.symm
    next => rfl
  rw [setCmd, hmap]

/-- The commands that O26 speaks of: no run is awaited, and no other member has a part. -/
def StopsAlone (c : Cmd) : Prop := c.phase = .running → 0x02 ≤ opOf c → c.runs = [] ∧ c.shared = []

/-- An abort of a command is what `abortedAs` says of it, whatever has become of the other commands. -/
theorem abortCmd_eq {d : Device} {l : List Cmd} {c : Cmd} (pr : List (Nat × Nat)) (hn : (l.map (·.id)).Nodup) (hc : c ∈ l)
    (ha : StopsAlone c) : abortCmd (tabGet 0 c.id pr) c { d with cmds := l } = setCmd (abortedAs d pr c) { d with cmds := l } := by
  have hself : setCmd c { d with cmds := l } = { d with cmds := l } := setCmd_self (d := { d with cmds := l }) hn hc
  unfold abortCmd abortedAs
  cases hph : c.phase with
  | ended => exact hself.symm
  | queued => rfl
  | running =>
    by_cases hnop : opOf c = 0x00
    · simp only [hnop, Nat.zero_le, if_true, nopCheck_cmds]
      exact endCmd_aborted (fun y => nopCheck_status) _
    by_cases hwait : opOf c = 0x01
    · simp only [hwait, Nat.le_refl, Nat.one_ne_zero, if_true, if_false, waitCheck_cmds]
      exact endCmd_aborted (fun y => waitCheck_status) _
    obtain ⟨hruns, hshared⟩ := ha hph (by omega)
    have hlate : ¬ opOf c ≤ 0x01 := by omega
    simp only [if_neg hlate, if_neg hnop, if_neg hwait, hruns, ne_eq, not_true_eq_false, and_false, if_false, stopOthers_alone hshared]
    split
    · exact hself.symm
    · rfl

/-- An abort goes through commands of different ids, each listed: it makes of each what `abortedAs` says, and nothing else. -/
theorem foldl_abortCmd (d : Device) (pr : List (Nat × Nat)) {cs l : List Cmd} (hcs : (cs.map (·.id)).Nodup) (hsub : ∀ c ∈ cs, c ∈ l)
    (hl : (l.map (·.id)).Nodup) (ha : ∀ c ∈ cs, StopsAlone c) :
    cs.foldl (fun d c => abortCmd (tabGet 0 c.id pr) c d) { d with cmds := l } =
      { d with cmds := l.map fun x => if x ∈ cs then abortedAs d pr x else x } := by
  induction cs generalizing l with
  | nil => simp
  | cons c cs ih =>
    obtain ⟨hc, hcs'⟩ := List.nodup_cons.mp hcs
    have hfresh {x : Cmd} (hx : x.id = c.id) : x ∉ cs := fun h => hc (List.mem_map.mpr ⟨x, h, hx⟩)
    let l1 := l.map fun x => if x.id = c.id then abortedAs d pr c else x
    have hids : l1.map (·.id) = l.map (·.id) := by
      rw [List.map_map]
      refine List.map_congr_left fun x _ => ?_
      by_cases hx : x.id = c.id
      · simp [hx, abortedAs_id]
      · simp [hx]
    have hstep : abortCmd (tabGet 0 c.id pr) c { d with cmds := l } = { d with cmds := l1 } := by
      rw [abortCmd_eq pr hl (hsub c (.head _)) (ha c (.head _)), setCmd]
      simp only [abortedAs_id]
      rfl
    have hmem : ∀ x ∈ cs, x ∈ l1 := fun x hx =>
      List.mem_map.mpr ⟨x, hsub x (.tail _ hx), if_neg fun h => hfresh h hx⟩
    rw [List.foldl_cons, hstep, ih hcs' hmem (hids ▸ hl) fun x hx => ha x (.tail _ hx), List.map_map]
    congr 1
    refine List.map_congr_left fun x hx => ?_
    by_cases hid : x.id = c.id
    · obtain rfl : x = c := cmd_eq_of_id hl hx (hsub c (.head _)) hid
      simp [hfresh (abortedAs_id d pr x)]
    · have hne : x ≠ c := fun h => hid (congrArg Cmd.id h)
      simp [hid, hne]

/-! ## The abort takes effect (R338, R387) -/

theorem abortRing_idle {d : Device} {p q : Nat} (h : (ringOf (partOf d p) q).reading = none) : abortRing p d q = d := by
  simp only [abortRing, h]

theorem foldl_abortRing_idle {d : Device} {p : Nat} {l : List Nat} (h : ∀ q ∈ l, (ringOf (partOf d p) q).reading = none) :
    l.foldl (abortRing p) d = d := by
  induction l with
  | nil => rfl
  | cons q l ih => rw [List.foldl_cons, abortRing_idle (h q (.head _)), ih fun r hr => h r (.tail _ hr)]

/-- The device with each command of a partition as its abort leaves it. -/
def partAborted (p : Nat) (pr : List (Nat × Nat)) (d : Device) : Device :=
  { d with cmds := d.cmds.map fun c => if c.part = p then abortedAs d pr c else c }

/-- An abort of a partition that reads no list changes its commands and its own state. -/
theorem abortTakesEffect_eq {d : Device} {p q k : Nat} (pr : List (Nat × Nat)) {x : Circ} (hx : NoErrors x)
    (hq : (partOf d p).abort = .requested q k) (hi : ∀ r < 16, (ringOf (partOf d p) r).reading = none)
    (hn : (d.cmds.map (·.id)).Nodup) (ha : ∀ c ∈ d.cmds, c.part = p → StopsAlone c) :
    abortTakesEffect p pr [] x d = setPart p { partOf d p with abort := .effective q k } (partAborted p pr d) := by
  let own := d.cmds.filter fun c => decide (c.part = p)
  have hsub : own.Sublist d.cmds := List.filter_sublist
  have hown (c : Cmd) : c ∈ own ↔ c ∈ d.cmds ∧ c.part = p := by simp [own]
  have halone : ∀ c ∈ own, StopsAlone c := fun c hc => by
    obtain ⟨hmem, hpart⟩ := (hown c).mp hc
    exact ha c hmem hpart
  have hcmds : own.foldl (fun d c => abortCmd (tabGet 0 c.id pr) c d) d = partAborted p pr d := by
    refine (foldl_abortCmd d pr (hn.sublist (hsub.map _)) (fun c hc => hsub.mem hc) hn halone).trans ?_
    rw [partAborted]
    congr 1
    refine List.map_congr_left fun c hc => ?_
    simp only [hown c, hc, true_and]
  have hidle : (List.range 16).foldl (abortRing p) (partAborted p pr d) = partAborted p pr d :=
    foldl_abortRing_idle fun r hr => hi r (List.mem_range.mp hr)
  simp only [abortTakesEffect, hq, applyCirc_none hx, List.foldl_nil, own] at hcmds ⊢
  rw [hcmds, hidle]
  rfl

/-- Settles O26: the entry by `abortEntry_taken`, the acknowledgement by `abortAck_posts`, the effect by `abortTakesEffect_eq`. -/
theorem abortsTakeEffect : Obligations.AbortsTakeEffect := by
  unfold Obligations.AbortsTakeEffect
  refine ⟨⟨fun s p q e hp hq he hc ht ha hv => ?_, fun s p q k hp ha hn hr => ?_, fun s p hp h => ?_⟩,
    fun s p q k pr x hp hc hx hq hi hn ha => ?_⟩
  · obtain ⟨-, -, -, -, hparts, -⟩ := hc
    have hw : (Instr.abortEntry p q e).wf = true := by simp [Instr.wf, partOk, ringOk, hp, hq, he]
    have habort : (partOf (entryAsked p q s.dev) p).abort = (partOf s.dev p).abort := by rw [partOf_entryAsked hparts]
    refine ⟨fun h => exec_next rfl hw ?_, fun h => exec_next rfl hw ?_⟩
    · rw [abortEntry_taken hparts ht ha hv, takeAbort, abortRequest_recorded _ _ (habort.trans h)]
      rfl
    · rw [abortEntry_taken hparts ht ha hv, takeAbort, abortRequest_ignored _ _ (habort ▸ h)]
      rfl
  · exact exec_next rfl (decide_eq_true hp) (abortAck_posts ha hn hr)
  · exact exec_next rfl (decide_eq_true hp) (abortAck_waits h)
  · obtain ⟨-, -, -, -, hparts, -⟩ := hc
    have hw : (Instr.abortTakesEffect p pr [] x).wf = true := by simp [Instr.wf, partOk, hp]
    exact ⟨_, exec_next rfl hw (abortTakesEffect_eq pr hx hq hi hn ha), rfl, rfl,
      congrArg Part.abort (partOf_setPart_same (d := partAborted p pr s.dev) p _ hparts), rfl, rfl, rfl⟩

end Sys2Proof.Machine
end

section
/-! Vector commands: the rows that a vector command writes, what their stores leave, and O11 and O13. -/

namespace Sys2Proof.Machine

/-! ## The elements of a destination row (R356 to R364) -/

@[simp] theorem length_vSplit {α : Type} (l : List (α × Nat)) : (vSplit l).1.length = l.length := List.length_map _

@[simp] theorem length_vEls (d : Device) (c : Cmd) (b k r : Nat) : (vEls d c b k r).length = vCols c := by simp [vEls]

@[simp] theorem length_vVals (d : Device) (c : Cmd) (b k r : Nat) : (vVals d c b k r).1.length = vCols c := by simp [vVals]

@[simp] theorem length_vOut (c : Cmd) (l : List VC) : (vOut c l).1.length = l.length := by simp [vOut]

/-- A row that is computed in one of two ways has the elements of either. -/
theorem length_ite_row {p : Prop} [Decidable p] {x y : List Nat × Nat} {n : Nat} (hx : x.1.length = n) (hy : y.1.length = n) :
    (if p then x else y).1.length = n := by
  split <;> assumption

theorem length_rowEw2 (d : Device) (c : Cmd) (b r : Nat) : (rowEw2 d c b r).1.length = vCols c :=
  length_ite_row (by simp) (by simp)

theorem length_rowSoftmax (d : Device) (c : Cmd) (b r : Nat) : (rowSoftmax d c b r).1.length = vCols c := by simp [rowSoftmax]

theorem length_rowNorm (d : Device) (c : Cmd) (b : Nat) (tbl : List Nat) (r : Nat) : (rowNorm d c b tbl r).1.length = vCols c := by
  by_cases h : vSub c = 0 <;> simp [rowNorm, h]

theorem length_rowPixnorm (d : Device) (c : Cmd) (b : Nat) (tbl : List Nat) (free r : Nat) :
    (rowPixnorm d c b tbl free r).1.length = vCols c := length_ite_row (by simp) (by simp)

theorem length_rowPool (d : Device) (c : Cmd) (b r : Nat) : (rowPool d c b r).1.length = vOutCols c :=
  length_ite_row (by simp) (by simp)

theorem length_rowResize (d : Device) (c : Cmd) (b r : Nat) : (rowResize d c b r).1.length = vOutCols c := by simp [rowResize]

theorem length_rowFill (c : Cmd) : (rowFill c).1.length = vCols c := by simp [rowFill]

theorem length_tkWords {k : Nat} {l : List TkRec} (h : l.length ≤ k) : (tkWords k l).length = 2 * k := by
  simp only [tkWords, List.length_append, List.length_flatMap, List.length_cons, List.length_nil, List.map_const', List.sum_replicate_nat,
    List.length_flatten, List.map_replicate]
  omega

/-- A list that is offered records holds at most k. -/
theorem length_tkOffers (k : Nat) (xs : List TkRec) : (xs.foldl (tkOffer k) []).length ≤ k :=
  List.foldlRecOn (motive := fun l : List TkRec => l.length ≤ k) xs _ (Nat.zero_le k) fun _ _ _ _ => List.length_take_le _ _

/-- NMS keeps at most n boxes, and one where n is 0. -/
theorem length_nmsGo (c : Cmd) (fuel n : Nat) (l : List Box) : (nmsGo c fuel n l).1.length ≤ max n 1 := by
  induction fuel generalizing n l with
  | zero => exact Nat.zero_le _
  | succ fuel ih =>
    cases l with
    | nil => exact Nat.zero_le _
    | cons x r =>
      rw [nmsGo]
      split
      · exact Nat.le_max_right n 1
      · have := ih (n - 1) ((r.map fun y => (y, suppresses c x y)).filterMap fun t => if t.2.1 then none else some t.1)
        rw [List.length_cons]
        omega

theorem length_rowNms (d : Device) {c : Cmd} (b : Nat) (h : vKeep c ≠ 0) : (rowNms d c b).1.length = 1 + vKeep c := by
  have hkept (fuel : Nat) (l : List Box) : (nmsGo c fuel (vKeep c) l).1.length ≤ vKeep c := by
    have := length_nmsGo c fuel (vKeep c) l
    omega
  have hfill : ∀ n ≤ vKeep c, n + 1 + (vKeep c - n) = 1 + vKeep c := by omega
  simp only [rowNms, List.length_append, List.length_cons, List.length_replicate]
  exact hfill _ (hkept _ _)

/-- An NMS that its checks admit keeps a box (R364). -/
theorem vKeep_ne_zero {d : Device} {c : Cmd} (h : vecCheck d c = none) (ho : opOf c = 0x2C) : vKeep c ≠ 0 := by
  intro hz
  have hop : vOpBad c = true := by simp [vOpBad, ho, hz]
  simp [vecCheck, vecBad, hop] at h

/-- A row has the elements that its descriptor counts (R356). -/
theorem length_vRow {c : Cmd} {id : Nat} {x : Circ} {i : Instr} {d : Device} (hi : (opOf c, i) ∈ vectorRows id x)
    (hk : vecCheck d c = none) (e : Device) (b : Nat) (tbl : List Nat) (free r : Nat) :
    (vRow e c b tbl free r).1.length = vOutCols c := by
  simp only [vectorRows, List.mem_cons, Prod.mk.injEq, List.not_mem_nil, or_false] at hi
  rcases hi with ⟨ho, -⟩ | ⟨ho, -⟩ | ⟨ho, -⟩ | ⟨ho, -⟩ | ⟨ho, -⟩ | ⟨ho, -⟩ | ⟨ho, -⟩ | ⟨ho, -⟩ | ⟨ho, -⟩ | ⟨ho, -⟩ | ⟨ho, -⟩ |
    ⟨ho, -⟩ | ⟨ho, -⟩
  all_goals simp only [vRow, vOutCols, ho]
  · exact length_rowEw2 e c b r
  · simp [rowAxpb]
  · simp [rowFunc]
  · simp [rowReduce]
  · exact length_rowSoftmax e c b r
  · exact length_rowNorm e c b tbl r
  · exact length_rowPixnorm e c b tbl free r
  · simpa only [vOutCols, ho] using length_rowPool e c b r
  · simpa only [vOutCols, ho] using length_rowResize e c b r
  · simp [rowRequant]
  · exact length_rowFill c
  · exact length_ite_row (length_tkWords (length_tkOffers _ _)) (length_tkWords (length_tkOffers _ _))
  · exact length_rowNms e b (vKeep_ne_zero hk ho)

/-! ## Tables and checks of the stores (R253, R353, R605) -/

theorem unitFail_none {d : Device} (h : d.merr.parity = []) (l n : Nat) : unitFail d l n = none := if_pos h

theorem mergeFail_none {d : Device} (h : d.merr.parity = []) (l n : Nat) : mergeFail d l n = none := if_pos h

theorem vReadFail_none {d : Device} (h : d.merr.parity = []) (c : Cmd) (b r : Nat) : vReadFail d c b r = none := by
  simp [vReadFail, unitFail_none h]

theorem vectorTable_getD (d : Device) {c : Cmd} (b : Nat) {k : Nat} (h : k < vTblWords c) :
    (vectorTable d c b).getD k 0 = wsWord d (16 * b + vTblArr c) (vTbl c + k) := by
  simp [vectorTable, List.getD_eq_getElem?_getD, h]

/-- The reserved fields that REQUANT finds 0 as it loads its table are those of the words in the store. -/
theorem requant_reserved_zero {d : Device} {c : Cmd} (ho : opOf c = 0x29) (h : RequantTablesOk d c) {s : Nat × Nat × Nat}
    (hs : s ∈ vShares c) (hn : s.2.2 ≠ 0) {j : Nat} (hj : j < vCols c) :
    let w (k : Nat) : Nat := (vectorTable d c s.1).getD (8 * j + k) 0
    bits 15 6 (w 3) = 0 ∧ bits 31 17 (w 5) = 0 ∧ w 6 = 0 ∧ w 7 = 0 := by
  have hword (k : Nat) (hk : k < 8) : (vectorTable d c s.1).getD (8 * j + k) 0 = wsWord d (16 * s.1 + vTblArr c) (vTbl c + 8 * j + k) := by
    rw [vectorTable_getD d s.1 (by simp only [vTblWords, ho]; omega), Nat.add_assoc]
  simpa only [hword 3 (by decide), hword 5 (by decide), hword 6 (by decide), hword 7 (by decide)] using h ho s hs hn j hj

/-- A table whose words pass their checks is loaded as it stands (R126, R253, R353). -/
theorem vLoad_ok {d : Device} {c : Cmd} (hpar : d.merr.parity = []) (h : RequantTablesOk d c) {s : Nat × Nat × Nat} (hs : s ∈ vShares c)
    (hn : s.2.2 ≠ 0) : vLoad d c s.1 = .ok (vectorTable d c s.1) := by
  by_cases hz : vTblWords c = 0
  · simp [vLoad, vectorTable, hz]
  · simp only [vLoad, hz, if_false, unitFail_none hpar]
    refine if_neg fun hbad => ?_
    obtain ⟨ho, hany⟩ := (Bool.and_eq_true _ _).mp hbad
    obtain ⟨j, hj, hres⟩ := List.any_eq_true.mp hany
    obtain ⟨h3, h5, h6, h7⟩ := requant_reserved_zero (of_decide_eq_true ho) h hs hn (List.mem_range.mp hj)
    simp only [vectorTable] at h3 h5 h6 h7
    simp only [h3, h5, h6, h7, ne_eq, not_true, decide_false, Bool.or_self, Bool.false_eq_true] at hres

/-- The tables that a command loads, each with the share that it serves. -/
def vTables (d : Device) (c : Cmd) (l : List (Nat × Nat × Nat)) : List (List Nat × Nat × Nat × Nat) :=
  (l.filter fun s => decide (s.2.2 ≠ 0)).map fun s => (vectorTable d c s.1, s)

theorem vLoadAll_ok {d : Device} {c : Cmd} (l : List (Nat × Nat × Nat))
    (h : ∀ s ∈ l, s.2.2 ≠ 0 → vLoad d c s.1 = .ok (vectorTable d c s.1)) : vLoadAll d c l = .ok (vTables d c l) := by
  induction l with
  | nil => rfl
  | cons s r ih =>
    have hr := ih fun x hx => h x (List.mem_cons_of_mem s hx)
    by_cases hz : s.2.2 = 0
    · simp [vLoadAll, vTables, hz, hr]
    · simp [vLoadAll, vTables, hz, hr, h s List.mem_cons_self hz]

/-! ## One destination row is stored (R352, R366) -/

theorem byteAt_setCmd (c : Cmd) (d : Device) (l : Nat) : byteAt (setCmd c d) l = byteAt d l := rfl

theorem bytesAt_setCmd (c : Cmd) (d : Device) (l n : Nat) : bytesAt (setCmd c d) l n = bytesAt d l n := rfl

/-- The bytes of a destination row. -/
def vRowBytes (d : Device) (c : Cmd) (b : Nat) (tbl : List Nat) (free r : Nat) : List Byte :=
  (vRow d c b tbl free r).1.flatMap (leBytes (vWidth (vF c 2)))

theorem length_flatMap_leBytes (w : Nat) (l : List Nat) : (l.flatMap (leBytes w)).length = l.length * w := by
  simp only [List.length_flatMap, length_leBytes, List.map_const', List.sum_replicate_nat]

theorem rput_counted_low {off : Nat} (w : Word) (d : Device) (h : off < 0x10000) : Counted d (rput off w d) :=
  ⟨rput_regsOnly off w d, tabSet_filter_out _ w (fun k => decide (0x10000 ≤ k ∧ k < 0x20000)) d.regs (decide_eq_false (by omega))⟩

theorem aperture_le_vAddr (c : Cmd) (b k r : Nat) : 2 ^ 40 ≤ vAddr c b k r := by
  unfold vAddr
  split
  · exact aperture_le_bandAddr _ _
  · exact aperture_le_rowAddr _ _
  · exact aperture_le_wordAddr _ _

/-- The bands that serve a command have low numbers, so that VEC_SAT lies below the registers of HBM. -/
theorem oVecSat_lt_of_share {c : Cmd} {s : Nat × Nat × Nat} (h : s ∈ vShares c) : oVecSat s.1 < 0x10000 := by
  have harr : (motifArrays (targetOf c)).1 ≤ 207 := by
    have h1 := bits_lt 7 6 (targetOf c)
    have h2 := bits_lt 5 4 (targetOf c)
    have h3 := bits_lt 3 2 (targetOf c)
    have h4 := bits_lt 1 0 (targetOf c)
    unfold motifArrays
    split <;> simp only <;> omega
  obtain ⟨⟨b, k⟩, hb, rfl⟩ := List.mem_map.mp h
  have hmem := List.fst_mem_of_mem_zipIdx hb
  unfold oVecSat
  split at hmem <;> simp only [List.mem_cons, List.not_mem_nil, or_false, bandOf] at hmem <;> omega

/-- Without memory errors a row is stored, and its lines and events are counted. -/
theorem vStep_stores {d : Device} {c : Cmd} {s : Nat × Nat × Nat} (hs : s ∈ vShares c) (hpar : d.merr.parity = [])
    (hpoi : d.merr.poison = []) (tbl : List Nat) (free r : Nat) :
    ∃ e, vStep c s.1 tbl free (d, none) r = (e, none) ∧
      Counted (storeBytes (vAddr c s.1 2 r) (vRowBytes d c s.1 tbl free r) d) e := by
  simp only [vStep, vReadFail_none hpar, mergeFail_none hpar, put_plain hpoi hpar]
  exact ⟨_, rfl, (perfOne_counted _ _ _ _ _).trans (rput_counted_low _ _ (oVecSat_lt_of_share hs))⟩

/-! ## All rows of a command -/

/-- e is d but for registers and destination rows of a command. -/
def RowsWritten (c : Cmd) (d e : Device) : Prop :=
  (∃ r m, e = { d with regs := r, mem := m }) ∧ Memory.wf e ∧ ∀ l, ¬ InVectorRow c l → SameByte d e l

theorem RowsWritten.refl (c : Cmd) {d : Device} (h : Memory.wf d) : RowsWritten c d d := ⟨⟨d.regs, d.mem, rfl⟩, h, fun _ _ => rfl⟩

theorem RowsWritten.merr {c : Cmd} {d e : Device} (h : RowsWritten c d e) : e.merr = d.merr := by
  obtain ⟨⟨_, _, rfl⟩, -⟩ := h
  rfl

/-- One more row of a share, stored and counted. -/
theorem RowsWritten.row {c : Cmd} {d e f : Device} {s : Nat × Nat × Nat} {r : Nat} {bs : List Byte} (h : RowsWritten c d e)
    (hs : s ∈ vShares c) (hlo : s.2.1 ≤ r) (hhi : r < s.2.1 + s.2.2) (hb : bs.length = vOutCols c * vWidth (vF c 2))
    (hf : Counted (storeBytes (vAddr c s.1 2 r) bs e) f) : RowsWritten c d f := by
  obtain ⟨⟨r0, m0, rfl⟩, hw, hbytes⟩ := h
  have hl := aperture_le_vAddr c s.1 2 r
  refine ⟨?_, hf.wf (storeBytes_wf _ _ _ hw), fun l hout => ?_⟩
  · obtain ⟨⟨r1, rfl⟩, -⟩ := hf
    obtain ⟨m1, hm⟩ := storeBytes_frame (vAddr c s.1 2 r) bs { d with regs := r0, mem := m0 }
    exact ⟨r1, m1, by rw [hm]⟩
  · have hoff : l < vAddr c s.1 2 r ∨ vAddr c s.1 2 r + bs.length ≤ l := by
      rw [hb]
      exact Decidable.byContradiction fun hin => hout ⟨s.1, s.2.1, s.2.2, r, hs, hlo, hhi, by omega, by omega⟩
    rw [SameByte, hf.byteAt, byteAt_storeBytes_out hl hw hoff]
    exact hbytes l hout

/-- Rows have been written and none has failed. -/
def RowsDone (c : Cmd) (d : Device) (y : Device × Option Done) : Prop := RowsWritten c d y.1 ∧ y.2 = none

/-- Without memory errors every row of every share is written (R352). -/
theorem vecRows_done {c : Cmd} {id : Nat} {x : Circ} {i : Instr} {d e : Device} (hi : (opOf c, i) ∈ vectorRows id x)
    (hk : vecCheck d c = none) (hw : Memory.wf e) (hpar : e.merr.parity = []) (hpoi : e.merr.poison = []) (free limit : Nat)
    (l : List (List Nat × Nat × Nat × Nat)) (hl : ∀ t ∈ l, t.2 ∈ vShares c) : RowsDone c e (vecRows c free limit l e) := by
  refine List.foldlRecOn l _ ⟨.refl c hw, rfl⟩ fun x hx t ht => List.foldlRecOn _ _ hx fun y ⟨hy, hnone⟩ r hr => ?_
  obtain ⟨k, hkn, rfl⟩ := List.mem_map.mp hr
  have hkn := List.mem_range.mp hkn
  split
  · obtain ⟨y, _⟩ := y
    subst hnone
    obtain ⟨f, hstep, hf⟩ := vStep_stores (hl t ht) (hy.merr ▸ hpar) (hy.merr ▸ hpoi) t.1 free (t.2.2.1 + k)
    rw [hstep]
    have hlen : (vRowBytes y c t.2.1 t.1 free (t.2.2.1 + k)).length = vOutCols c * vWidth (vF c 2) := by
      rw [vRowBytes, length_flatMap_leBytes, length_vRow hi hk]
    exact ⟨hy.row (hl t ht) (by omega) (by omega) hlen hf, rfl⟩
  · exact ⟨hy, hnone⟩

theorem share_of_mem_vTables {d : Device} {c : Cmd} {l : List (Nat × Nat × Nat)} {t : List Nat × Nat × Nat × Nat}
    (h : t ∈ vTables d c l) : t.2 ∈ l := by
  obtain ⟨s, hs, rfl⟩ := List.mem_map.mp h
  exact (List.mem_filter.mp hs).1

/-- The device once a vector command has written its rows; irreducible, since the lemmas below say what it is. -/
@[irreducible] def vectorDone (d : Device) (c : Cmd) : Device := (vecRows c d.free (vOutRows c) (vTables d c (vShares c)) (drawFree d).2).1

theorem deadlinePll_plain {c : Cmd} (h : fixedTime c = false) (b t : Nat) (x : Done) : deadlinePll c b t x = x := by
  simp [deadlinePll, h]

section
variable {d : Device} {id : Nat} {x : Circ} {c : Cmd} {i : Instr} (hi : (opOf c, i) ∈ vectorRows id x) (h : VectorRuns d id x c)
include hi h

theorem vectorRows_done : RowsDone c (drawFree d).2 (vecRows c d.free (vOutRows c) (vTables d c (vShares c)) (drawFree d).2) := by
  obtain ⟨-, -, ⟨hw, -⟩, hpar, hpoi, hk, -, -⟩ := h
  exact vecRows_done hi hk (e := (drawFree d).2) hw hpar hpoi _ _ _ fun t ht => share_of_mem_vTables ht

/-- What the rows of a vector command leave. -/
theorem vectorDone_leaves : (vectorDone d c).cmds = d.cmds ∧ (vectorDone d c).arrs = d.arrs ∧ (vectorDone d c).out = d.out ∧
    SameOutside d (vectorDone d c) ∧ ∀ l, ¬ InVectorRow c l → SameByte d (vectorDone d c) l := by
  obtain ⟨⟨⟨r, m, he⟩, -, hbytes⟩, -⟩ := vectorRows_done hi h
  rw [← vectorDone] at he hbytes
  refine ⟨?_, ?_, ?_, ?_, hbytes⟩ <;> rw [he]
  · rfl
  · rfl
  · rfl
  · exact ⟨rfl, rfl, rfl, rfl, rfl, rfl, rfl, rfl, rfl, rfl, rfl⟩

/-- A vector command that may run writes its rows and ends with SUCCESS. -/
theorem vecWork_completes : vecWork (opOf c) id x d = setCmd (endedAs c {}) (vectorDone d c) := by
  have hrows : vecRows c d.free (vOutRows c) (vTables d c (vShares c)) (drawFree d).2 = (vectorDone d c, none) :=
    Prod.ext (by rw [vectorDone]) (vectorRows_done hi h).2
  obtain ⟨hr, hx, -, hpar, -, hk, hheld, htbl⟩ := h
  have hload := vLoadAll_ok (vShares c) fun s hs hn => vLoad_ok hpar htbl hs hn
  simp only [vecWork, runningAs_of_runs hr, hheld, applyCirc_none hx, hk, vecRun, hload, hr.not_stopped, Bool.false_eq_true, if_false]
  rw [show drawFree d = (d.free, (drawFree d).2) from rfl]
  simp only [hrows, deadlinePll_plain hr.throughput]
  exact endCmd_plain fun hs => nomatch hs

end

theorem exec_vector_completes {s : State} {id : Nat} {x : Circ} {c : Cmd} {i : Instr} (hi : (opOf c, i) ∈ vectorRows id x)
    (h : VectorRuns s.dev id x c) : exec i s = .next { s with dev := setCmd (endedAs c {}) (vectorDone s.dev c) } := by
  obtain ⟨hw, he⟩ := exec_vectorRow hi
  exact exec_next (he s) hw (vecWork_completes hi h)

/-! ## One row on one band -/

/-- A command of one share of one row has one output row. -/
theorem vOutRows_of_oneRow {c : Cmd} {b : Nat} (h : vShares c = [(b, 0, 1)]) : vOutRows c = 1 := by
  unfold vShares at h
  split at h
  · simp at h
  · simp at h
  · have hone : bandOf (motifArrays (targetOf c)).1 = b ∧ vOutRows c = 1 := by simpa [divide, Nat.mod_one] using h
    exact hone.2

/-- A row that is stored alone reads back. -/
theorem bytesAt_vectorDone {d : Device} {id : Nat} {x : Circ} {c : Cmd} {b : Nat} (h : VectorRuns d id x c)
    (hs : vShares c = [(b, 0, 1)]) :
    let row := vRowBytes (drawFree d).2 c b (vectorTable d c b) d.free 0
    bytesAt (vectorDone d c) (vAddr c b 2 0) row.length = row := by
  intro row
  obtain ⟨-, -, ⟨hw, -⟩, hpar, hpoi, -, -, -⟩ := h
  have hmem : (b, 0, 1) ∈ vShares c := by simp [hs]
  obtain ⟨e, hstep, he⟩ := vStep_stores (d := (drawFree d).2) hmem hpar hpoi (vectorTable d c b) d.free 0
  have hdone : vectorDone d c = e := by
    simp [vectorDone, vecRows, vTables, hs, vOutRows_of_oneRow hs, hstep]
  rw [hdone, he.bytesAt]
  exact bytesAt_storeBytes (d := (drawFree d).2) (aperture_le_vAddr c b 2 0) hw rfl

/-- Settles O11: the command completes (`exec_vector_completes`) with its rows written (`vectorRows_done`); a row that is stored alone
reads back (`bytesAt_vectorDone`). -/
theorem vectorCommandsComplete : Obligations.VectorCommandsComplete := by
  unfold Obligations.VectorCommandsComplete
  intro s id x c i hi h
  obtain ⟨hcmds, harrs, hout, hsame, hbytes⟩ := vectorDone_leaves hi h
  refine ⟨_, exec_vector_completes hi h, rfl, h.1.cmdOf_ended hcmds, hsame, harrs, hout, fun l _ hl => ?_, fun b hb => ?_⟩
  · exact (byteAt_setCmd _ _ l).trans (hbytes l hl)
  · exact (bytesAt_setCmd _ _ _ _).trans (bytesAt_vectorDone h hb)

/-! ## Integer results (R354, R356) -/

theorem bytesAt_add (d : Device) (l m n : Nat) : bytesAt d l (m + n) = bytesAt d l m ++ bytesAt d (l + m) n := by
  simp [bytesAt, List.range_add, Nat.add_assoc]

theorem length_bytesAt (d : Device) (l n : Nat) : (bytesAt d l n).length = n := by simp [bytesAt]

/-- An element of a row that reads back is its bits. -/
theorem leNat_of_rowBytes {d : Device} {w : Nat} (els : List Nat) {l j : Nat}
    (h : bytesAt d l (els.flatMap (leBytes w)).length = els.flatMap (leBytes w)) (hj : j < els.length) :
    leNat (bytesAt d (l + j * w) w) = els[j] % 2 ^ (8 * w) := by
  induction els generalizing l j with
  | nil => exact absurd hj (Nat.not_lt_zero j)
  | cons v r ih =>
    rw [List.flatMap_cons, List.length_append, length_leBytes, bytesAt_add] at h
    obtain ⟨hv, hr⟩ := List.append_inj h (by rw [length_bytesAt, length_leBytes])
    cases j with
    | zero => rw [Nat.zero_mul, Nat.add_zero, hv, leNat_leBytes, List.getElem_cons_zero, Nat.pow_mul]
    | succ j =>
      rw [List.getElem_cons_succ, ← ih hr (Nat.lt_of_succ_lt_succ hj), Nat.succ_mul, Nat.add_comm (j * w), Nat.add_assoc]

/-- Element j of a command's one row, as the destination holds it once the command has ended. -/
theorem element_of_oneRow {d : Device} {id : Nat} {x : Circ} {c : Cmd} {b : Nat} (h : VectorRuns d id x c)
    (hs : vShares c = [(b, 0, 1)]) {els : List Nat} (hels : (vRow (drawFree d).2 c b (vectorTable d c b) d.free 0).1 = els) {j : Nat}
    (hj : j < els.length) :
    leNat (bytesAt (setCmd (endedAs c {}) (vectorDone d c)) (vAddr c b 2 0 + j * vWidth (vF c 2)) (vWidth (vF c 2))) =
      els[j] % 2 ^ (8 * vWidth (vF c 2)) := by
  subst hels
  rw [bytesAt_setCmd]
  exact leNat_of_rowBytes _ (bytesAt_vectorDone h hs) hj

/-- FILL of an integer format makes every element the low bits of PARAM0. -/
theorem rowFill_int {c : Cmd} (h : vIsInt (vF c 2) = true) : (rowFill c).1 = List.replicate (vCols c) (vP0 c % 2 ^ vBits (vF c 2)) := by
  simp [rowFill, vSplit, h]

/-- The sums of two lists of elements of integer formats, saturated. -/
def intSums (c : Cmd) (xs ys : List Nat) : List Nat :=
  List.zipWith (fun x y => (vSatInt (vF c 2) (vInt (vF c 0) x + vInt (vF c 1) y)).1) xs ys

theorem rowEw2_intAdd (d : Device) {c : Cmd} (b r : Nat) (h0 : vIsInt (vF c 0) = true) (h1 : vIsInt (vF c 1) = true)
    (h2 : vIsInt (vF c 2) = true) (hs : vSub c = 0) : (rowEw2 d c b r).1 = intSums c (vEls d c b 0 r) (vEls d c b 1 r) := by
  simp [rowEw2, h0, h1, h2, hs, vSplit, intSums, List.zip, List.map_zipWith]

theorem vBits_pos (f : Nat) : 0 < vBits f := by
  unfold vBits vWidth
  split <;> decide

/-- A number in the range of n bits is what they say (R10). -/
theorem signed_unsigned_mod {n : Nat} {z : Int} (hn : 0 < n) (h1 : -(2 ^ (n - 1) : Int) ≤ z) (h2 : z ≤ (2 ^ (n - 1) : Int) - 1) :
    signed n (unsigned n z % 2 ^ n) = z := by
  obtain ⟨m, rfl⟩ : ∃ m, n = m + 1 := ⟨n - 1, by omega⟩
  have hpow : (2 : Nat) ^ (m + 1) = 2 * 2 ^ m := Nat.pow_succ'
  have hcast : (2 : Int) ^ m = ((2 ^ m : Nat) : Int) := by norm_cast
  have hcast' : (2 : Int) ^ (m + 1) = 2 * ((2 ^ m : Nat) : Int) := by rw [Int.pow_succ', hcast]
  rw [Nat.add_sub_cancel, hcast] at h1 h2
  rw [signed, Nat.mod_mod, unsigned, hcast', Nat.add_sub_cancel, hpow]
  generalize 2 ^ m = p at h1 h2 ⊢
  by_cases hz : z < 0
  · have hmod : z % (2 * (p : Int)) = z + 2 * p := by rw [← Int.add_emod_right, Int.emod_eq_of_lt (by omega) (by omega)]
    rw [hmod, Nat.mod_eq_of_lt (by omega), if_neg (by omega)]
    omega
  · have hmod : z % (2 * (p : Int)) = z := Int.emod_eq_of_lt (by omega) (by omega)
    rw [hmod, Nat.mod_eq_of_lt (by omega), if_pos (by omega)]
    omega

/-- A number that is not negative and fits n bits is what they hold. -/
theorem unsigned_mod {n : Nat} {z : Int} (h1 : 0 ≤ z) (h2 : z ≤ (2 ^ n : Int) - 1) : ((unsigned n z % 2 ^ n : Nat) : Int) = z := by
  have hcast : (2 : Int) ^ n = ((2 ^ n : Nat) : Int) := by norm_cast
  rw [hcast] at h2
  rw [unsigned, hcast, Int.emod_eq_of_lt h1 (by omega), Nat.mod_eq_of_lt (by omega)]
  omega

/-- An integer that has been saturated to a format reads as clipped to its range (R354). -/
theorem vInt_vSatInt (f : Nat) (z : Int) :
    vInt f ((vSatInt f z).1 % 2 ^ vBits f) = clip (loOf (vBits f) (vSigned f)) (hiOf (vBits f) (vSigned f)) z := by
  have hpow : (0 : Int) < 2 ^ (vBits f - 1) := Int.pow_pos (by decide)
  rw [vSatInt]
  cases hsgn : vSigned f with
  | true =>
    have hrange : -(2 ^ (vBits f - 1) : Int) ≤ 2 ^ (vBits f - 1) - 1 := by omega
    obtain ⟨h1, h2⟩ := clip_bounds z hrange
    rw [vInt, hsgn]
    exact signed_unsigned_mod (vBits_pos f) h1 h2
  | false =>
    have hrange : (0 : Int) ≤ 2 ^ vBits f - 1 := Int.le_sub_one_of_lt (Int.pow_pos (by decide))
    obtain ⟨h1, h2⟩ := clip_bounds z hrange
    rw [vInt, hsgn]
    exact unsigned_mod h1 h2

/-- Settles O13: each element of the one row (`element_of_oneRow`), for FILL by `rowFill_int`, for ADD by `rowEw2_intAdd` and
`vInt_vSatInt`. -/
theorem vectorIntegerResults : Obligations.VectorIntegerResults := by
  unfold Obligations.VectorIntegerResults
  refine ⟨fun s id b x c ho h hf hb => ?_, fun s id b x c ho h hsub h0 h1 h2 hb => ?_⟩
  · have hi : (opOf c, Instr.fill id x) ∈ vectorRows id x := by simp [vectorRows, ho]
    have hrow : (vRow (drawFree s.dev).2 c b (vectorTable s.dev c b) s.dev.free 0).1 =
        List.replicate (vCols c) (vP0 c % 2 ^ vBits (vF c 2)) := by simp only [vRow, ho, rowFill_int hf]
    refine ⟨_, exec_vector_completes hi h, fun j hj => ?_⟩
    rw [element_of_oneRow h hb hrow (by simpa using hj), List.getElem_replicate]
    exact Nat.mod_mod _ _
  · have hi : (opOf c, Instr.ew2 id x) ∈ vectorRows id x := by simp [vectorRows, ho]
    have hrow : (vRow (drawFree s.dev).2 c b (vectorTable s.dev c b) s.dev.free 0).1 =
        intSums c (vEls (drawFree s.dev).2 c b 0 0) (vEls (drawFree s.dev).2 c b 1 0) := by
      simp only [vRow, ho, rowEw2_intAdd _ _ _ h0 h1 h2 hsub]
    refine ⟨_, exec_vector_completes hi h, fun j hj => ?_⟩
    have hels (k : Nat) (hk : j < (vEls (drawFree s.dev).2 c b k 0).length) : (vEls (drawFree s.dev).2 c b k 0)[j] =
        leNat (bytesAt s.dev (vAddr c b k 0 + j * vWidth (vF c k)) (vWidth (vF c k))) := by
      simp only [vEls, List.getElem_map, List.getElem_range]
      rfl
    dsimp only
    rw [element_of_oneRow h hb hrow (by simpa [intSums] using hj)]
    simp only [intSums, List.getElem_zipWith, hels]
    exact vInt_vSatInt _ _

end Sys2Proof.Machine
end

section
/-! What raising an event leaves unchanged: O9. -/

namespace Sys2Proof.Machine

/-- Settles O9: what raising an event can change at all (`raise_reported`) is none of the fields named. -/
theorem raisedEventFrame : Obligations.RaisedEventFrame := by
  unfold Obligations.RaisedEventFrame
  intro d p code source a0 a1 st
  obtain ⟨regs, parts, trc, jnl, out, h⟩ := raise_reported p code source a0 a1 st d
  simp only [h, and_self]

end Sys2Proof.Machine
end

section
/-! Interrupt messages, wake writes, the end of an event's millisecond, and O23. -/

namespace Sys2Proof.Machine

/-! ## Messages (R372, R385, R598) -/

theorem msixSend_absent {d : Device} {fn v : Nat} (h : msixSize d fn ≤ v) : msixSend fn v d = d := if_pos h

theorem msixSend_unmasked {d : Device} {fn v : Nat} (h : v < msixSize d fn) (hm : bit 0 (rget d (msixMask fn v)).toNat = false) :
    msixSend fn v d = emit (.msix fn v) d := by
  simp only [msixSend, if_neg (Nat.not_le.mpr h), hm, Bool.false_eq_true, if_false]

theorem msixSend_masked {d : Device} {fn v : Nat} (h : v < msixSize d fn) (hm : bit 0 (rget d (msixMask fn v)).toNat = true) :
    msixSend fn v d = rput (msixPba fn v) (rget d (msixPba fn v) ||| BitVec.ofNat 32 (2 ^ (v % 32))) d := by
  simp only [msixSend, if_neg (Nat.not_le.mpr h), hm, if_true]

/-- A masked vector's pending bit is set. -/
theorem msixSend_pending {d : Device} {fn v : Nat} (hr : Rising d.regs) (h : v < msixSize d fn)
    (hm : bit 0 (rget d (msixMask fn v)).toNat = true) : (rget (msixSend fn v d) (msixPba fn v)).getLsbD (v % 32) = true := by
  have hv : v % 32 < 32 := Nat.mod_lt _ (by decide)
  rw [msixSend_masked h hm, rget_rput_same _ _ _ hr, BitVec.getLsbD_or, BitVec.getLsbD_ofNat, Nat.testBit_two_pow_self]
  simp [hv]

theorem coalTimeout_sends {d : Device} {p q : Nat} (h1 : (cqOf (partOf d p) q).irqPending = true)
    (h2 : fget d (oCqCoal p q) fCqCoalCoalTime ≠ 0) (h3 : role d ≠ roleFenced) :
    coalTimeout p q d = msixSend p (fget d (oCqCtrl p q) fCqCtrlVector)
      (setPart p (setCq q { cqOf (partOf d p) q with since := 0, irqPending := false } (partOf d p)) d) := if_pos ⟨h1, h2, h3⟩

/-! ## The end of a millisecond (R390) -/

section
variable {d : Device} {p code src : Nat} {o : EvRec}
  (ho : (partOf d p).evOpen.find? (fun e => decide (e.code = code) && decide (e.source = src)) = some o)
include ho

theorem evMergeEnd_closes (h : o.count = 0) :
    evMergeEnd p code src d = setPart p { partOf d p with evOpen := (partOf d p).evOpen.erase o } d := by
  simp only [evMergeEnd, ho, h, if_true]

theorem evMergeEnd_delivers (h : o.count ≠ 0) :
    let l := (partOf d p).evOpen.map fun y => if y = o then { o with count := 0 } else y
    let e := evTrace o (evDeliver p o (setPart p { partOf d p with evOpen := l } d))
    evMergeEnd p code src d = if evDurable o then e else evJournal o e := by
  simp only [evMergeEnd, ho, h, if_false]
end

/-- Settles O23: a ring's message by `coalTimeout_sends`, a vector's by whether the function has it and masks it (`msixSend_absent`,
`msixSend_unmasked`, `msixSend_pending`), a millisecond's end by what it has merged (`evMergeEnd_closes`, `evMergeEnd_delivers`). -/
theorem interruptsAndMergedEvents : Obligations.InterruptsAndMergedEvents := by
  unfold Obligations.InterruptsAndMergedEvents
  refine ⟨⟨fun s p q hp hq h1 h2 h3 => ?_, fun d fn v => ⟨msixSend_absent, msixSend_unmasked, fun h hm hc => ?_⟩,
    fun s fn off hf => ?_⟩, fun s p code src o hp ho => ?_⟩
  · have hw : (Instr.interruptCoalTimeout p q).wf = true := by simp [Instr.wf, partOk, ringOk, hp, hq]
    exact exec_next rfl hw (coalTimeout_sends h1 h2 h3)
  · obtain ⟨-, -, -, hregs, -⟩ := hc
    exact ⟨msixSend_pending hregs h hm, by rw [msixSend_masked h hm]; rfl⟩
  · have hw : (Instr.wakeWrite fn off).wf = true := by simp [Instr.wf, partOk, hf]
    exact ⟨fun h => exec_next rfl hw (if_pos h), fun h => exec_next rfl hw (if_neg h)⟩
  · have hw : (Instr.eventMergeTimeout p code src).wf = true := by simp [Instr.wf, partOk, hp]
    exact ⟨fun h => exec_next rfl hw (evMergeEnd_closes ho h), fun h => exec_next rfl hw (evMergeEnd_delivers ho h)⟩

end Sys2Proof.Machine
end

section
/-! Doorbells: what the poll of a block makes of the one ring that is on, and O24. -/

namespace Sys2Proof.Machine

/-! ## What a poll keeps -/

theorem Canonical.parts_rising {d : Device} (h : Canonical d) : Rising d.parts := by
  obtain ⟨-, -, -, -, hparts, -⟩ := h
  exact hparts

/-- e is d but for the partitions, the trace and the two counts of lost reports that a poll for partition p can advance. -/
structure PollKept (p : Nat) (d e : Device) : Prop where
  fields : ∃ r ps t, e = { d with regs := r, parts := ps, trc := t }
  canonical : Canonical e
  regs : ∀ o, o ≠ oEqLost p → o ≠ oTrcLoss 1 → rget e o = rget d o

theorem PollKept.trans {p : Nat} {d e f : Device} (h : PollKept p d e) (k : PollKept p e f) : PollKept p d f := by
  obtain ⟨⟨_, _, _, rfl⟩, -, hr⟩ := h
  obtain ⟨⟨r, ps, t, rfl⟩, hc, kr⟩ := k
  exact ⟨⟨r, ps, t, rfl⟩, hc, fun o h1 h2 => (kr o h1 h2).trans (hr o h1 h2)⟩

section
variable {p : Nat} {d : Device} (h : Canonical d)
include h

theorem PollKept.refl : PollKept p d d := ⟨⟨_, _, _, rfl⟩, h, fun _ _ _ => rfl⟩

theorem PollKept.setPart {x : Part} (hx : PartRising x) : PollKept p d (setPart p x d) :=
  ⟨⟨_, _, _, rfl⟩, setPart_canonical p x d h hx, fun _ _ _ => rfl⟩

theorem PollKept.fsat {off : Nat} (f : Fld) (n : Nat) (ho : off = oEqLost p ∨ off = oTrcLoss 1) : PollKept p d (fsat off f n d) :=
  ⟨⟨_, _, _, rfl⟩, fsat_canonical _ _ _ _ h,
    fun _ h1 h2 => rget_fput_ne _ _ _ _ _ fun e => ho.elim (h1 <| e.trans ·) (h2 <| e.trans ·)⟩
end

theorem PollKept.fget {p : Nat} {d e : Device} (h : PollKept p d e) {o : Nat} (f : Fld) (h1 : o ≠ oEqLost p) (h2 : o ≠ oTrcLoss 1) :
    fget e o f = fget d o f := by rw [Machine.fget, h.regs o h1 h2, Machine.fget]

section
variable {p : Nat} {d e : Device} (h : PollKept p d e)
include h

theorem PollKept.mem : e.mem = d.mem := by obtain ⟨_, _, _, rfl⟩ := h.fields; rfl
theorem PollKept.cmds : e.cmds = d.cmds := by obtain ⟨_, _, _, rfl⟩ := h.fields; rfl
theorem PollKept.out : e.out = d.out := by obtain ⟨_, _, _, rfl⟩ := h.fields; rfl

theorem PollKept.sqEn (q : Nat) : sqEn e p q = sqEn d p q := by
  simp only [Machine.sqEn, fbit, h.fget _ (show oSqCtrl p q ≠ oEqLost p by unfold oSqCtrl oEqLost; omega)
    (show oSqCtrl p q ≠ oTrcLoss 1 by unfold oSqCtrl oTrcLoss; omega)]

theorem PollKept.cqEn (q : Nat) : cqEn e p q = cqEn d p q := by
  simp only [Machine.cqEn, fbit, h.fget _ (show oCqCtrl p q ≠ oEqLost p by unfold oCqCtrl oEqLost; omega)
    (show oCqCtrl p q ≠ oTrcLoss 1 by unfold oCqCtrl oTrcLoss; omega)]

theorem PollKept.eqEn : fbit e (oEqCtrl p) fEqCtrlEnable = fbit d (oEqCtrl p) fEqCtrlEnable := by
  simp only [fbit, h.fget _ (show oEqCtrl p ≠ oEqLost p by unfold oEqCtrl oEqLost; omega)
    (show oEqCtrl p ≠ oTrcLoss 1 by unfold oEqCtrl oTrcLoss; omega)]
end

theorem partOf_congr {d e : Device} (p : Nat) (h : e.parts = d.parts) : partOf e p = partOf d p := by rw [partOf, h, partOf]

/-! ## An event of a partition whose event ring is off (R389 to R391) -/

theorem evRoom_off {d : Device} {p : Nat} (h : fbit d (oEqCtrl p) fEqCtrlEnable = false) : evRoom d p = false := by simp [evRoom, h]

theorem evDeliver_off {d : Device} {p : Nat} (h : fbit d (oEqCtrl p) fEqCtrlEnable = false) (e : EvRec) :
    let r := evHold 256 e (partOf d p).evHeld
    evDeliver p e d = fsat (oEqLost p) fEqLostLost r.2 (setPart p { partOf d p with evHeld := r.1 } d) := by
  simp only [evDeliver, evRoom_off h, Bool.false_and, Bool.false_eq_true, if_false]

/-- The record is held. -/
theorem evDeliver_off_held {d : Device} {p : Nat} (hc : Canonical d) (h : fbit d (oEqCtrl p) fEqCtrlEnable = false) (e : EvRec) :
    PollKept p d (evDeliver p e d) ∧ ∃ k, partOf (evDeliver p e d) p = { partOf d p with evHeld := k } := by
  rw [evDeliver_off h]
  have hset := PollKept.setPart (p := p) hc (x := { partOf d p with evHeld := (evHold 256 e (partOf d p).evHeld).1 }) (partOf_rising p d hc)
  exact ⟨hset.trans (.fsat hset.canonical _ _ (.inl rfl)), _, partOf_setPart_same _ _ hc.parts_rising⟩

theorem evFlush_off {d : Device} {p : Nat} (h : fbit d (oEqCtrl p) fEqCtrlEnable = false) (fuel : Nat) : evFlush fuel p d = d := by
  cases fuel with
  | zero => rfl
  | succ n =>
    unfold evFlush
    split
    · rfl
    · rw [evRoom_off h, if_neg Bool.false_ne_true]

/-- A packet of the trace's EVENT source leaves the partitions. -/
theorem trcPut_pollKept {p : Nat} {d : Device} (h : Canonical d) (k : TPkt) :
    PollKept p d (trcPut 1 k d) ∧ (trcPut 1 k d).parts = d.parts := by
  have htrc (t : Trace) : PollKept p d { d with trc := t } := ⟨⟨_, _, _, rfl⟩, h.congr, fun _ _ _ => rfl⟩
  unfold trcPut
  split
  · split
    · exact ⟨htrc _, rfl⟩
    · exact ⟨(htrc _).trans (.fsat (htrc _).canonical _ _ (.inr rfl)), rfl⟩
  · exact ⟨.refl h, rfl⟩

/-- What beside the ring an event goes to, when it is neither an alarm nor journalled. -/
theorem evElsewhere_pollKept {p : Nat} {d : Device} {e : EvRec} (h : Canonical d) (ha : isAlarm e = false)
    (hj : ∀ d, evJournal e d = d) : PollKept p d (evElsewhere e d) ∧ (evElsewhere e d).parts = d.parts := by
  have he : evElsewhere e d = trcPut 1 { type := 5, stamp := e.time, payload := leDWords (evBytes e 0), since := d.clk.time } d := by
    simp only [evElsewhere, hj, evTrace, ha, Bool.false_eq_true, if_false]
  rw [he]
  exact trcPut_pollKept h _

/-- y is x with other open and held events, one of the open ones with this (CODE, SOURCE). -/
def EventNoted (code source : Nat) (x y : Part) : Prop :=
  ∃ l k, y = { x with evOpen := l, evHeld := k } ∧ ∃ o ∈ l, o.code = code ∧ o.source = source

theorem raiseAt_off {p : Nat} {d : Device} {e : EvRec} (h : Canonical d) (hoff : fbit d (oEqCtrl p) fEqCtrlEnable = false)
    (ha : isAlarm e = false) (hj : ∀ d, evJournal e d = d) :
    PollKept p d (raiseAt true p e d) ∧ EventNoted e.code e.source (partOf d p) (partOf (raiseAt true p e d) p) := by
  have hset (l : List EvRec) : PollKept p d (setPart p { partOf d p with evOpen := l } d) := .setPart h (partOf_rising p d h)
  have hopen (l : List EvRec) : partOf (setPart p { partOf d p with evOpen := l } d) p = { partOf d p with evOpen := l } :=
    partOf_setPart_same _ _ h.parts_rising
  unfold raiseAt
  dsimp only
  split
  next hany =>
    obtain ⟨o, ho, hsame⟩ := List.any_eq_true.mp hany
    have hcs : o.code = e.code ∧ o.source = e.source := by simpa [evSame] using hsame
    rw [hj, ite_self]
    refine ⟨hset _, _, (partOf d p).evHeld, hopen _, _, List.mem_map_of_mem ho, ?_⟩
    rw [if_pos hsame]
    split
    · exact ⟨rfl, rfl⟩
    · exact hcs
  next =>
    have hs := hset ((partOf d p).evOpen ++ [{ e with count := 0 }])
    obtain ⟨hdel, k, hk⟩ := evDeliver_off_held (p := p) hs.canonical hoff e
    obtain ⟨helse, hparts⟩ := evElsewhere_pollKept (p := p) hdel.canonical ha hj
    rw [hopen] at hk
    rw [if_pos rfl]
    refine ⟨(hs.trans hdel).trans helse, _, k, (partOf_congr p hparts).trans hk, { e with count := 0 },
      List.mem_append_right _ (List.mem_singleton_self _), rfl, rfl⟩

/-- DOORBELL_INVALID (R378) is neither an alarm nor journalled. -/
theorem raise_doorbellInvalid {p q : Nat} {d : Device} (h : Canonical d) (hoff : fbit d (oEqCtrl p) fEqCtrlEnable = false) (hq : q < 16)
    (a0 a1 : Nat) :
    PollKept p d (raise p 0x0010 q a0 a1 0 d) ∧ EventNoted 0x0010 q (partOf d p) (partOf (raise p 0x0010 q a0 a1 0 d) p) := by
  have hsrc : q % 2 ^ 32 = q := Nat.mod_eq_of_lt (by omega)
  let e : EvRec := { code := 0x0010, count := 1, source := q % 2 ^ 32, arg0 := a0 % 2 ^ 32, arg1 := a1 % 2 ^ 32, time := d.clk.time }
  have ha : isAlarm e = false := by simp [e, isAlarm, bit]
  have hr := raiseAt_off h hoff ha (fun _ => by simp [evJournal, e, isAlarm, bit])
  simpa only [e, hsrc, raise] using hr

/-! ## An enabled slot (R378, R386, R393) -/

/-- A request is recorded unless one is in progress (R386). -/
theorem abortRequest_pollKept {p : Nat} {d : Device} (h : Canonical d) (q k : Nat) :
    PollKept p d (abortRequest p q k d) ∧ (abortRequest p q k d).regs = d.regs ∧
      ∃ n l, partOf (abortRequest p q k d) p =
        { partOf d p with
          abort := if (partOf d p).abort = .none then .requested q k else (partOf d p).abort, aborted := n, abortLate := l } := by
  by_cases ha : (partOf d p).abort = .none
  · rw [abortRequest_recorded q k ha, if_pos ha]
    exact ⟨.setPart h (partOf_rising p d h), rfl, _, _, partOf_setPart_same _ _ h.parts_rising⟩
  · rw [abortRequest_ignored q k ha, if_neg ha]
    exact ⟨.refl h, rfl, _, _, rfl⟩

theorem ringOf_setRing_same {x : Part} (q : Nat) (r : Ring) (h : Rising x.rings) : ringOf (setRing q r x) q = r :=
  tabGet_tabSet_same _ _ _ _ h

/-- The pending count that the word of a ring's slot gives. -/
def slotCount (d : Device) (p q w : Nat) : Int :=
  pendingCount (sqLegacy d p q) (sqSize d p q) (headOf d p q) (expGen d p q) (bits 15 0 w) (bits 31 16 w)

/-- The pending count of a slot is announced, or is invalid. -/
def slotCounted (p q w : Nat) (d : Device) : Device :=
  if 0 ≤ slotCount d p q w ∧ slotCount d p q w ≤ sqSize d p q then
    setPart p (setRing q { ringOf (partOf d p) q with announced := (slotCount d p q w).toNat } (partOf d p)) d
  else raise p 0x0010 q (w % 2 ^ 32) (w / 2 ^ 32) 0 d

/-- The ABORT bit of a slot that becomes 1 asks for an abort. -/
def slotAborts (p q w : Nat) (old : Ring) (d : Device) : Device := if bit 32 w && !old.abortBit then abortRequest p q 0 d else d

theorem pollSq_off {d : Device} {p q : Nat} (h : sqEn d p q = false) (w : Nat) : pollSq p q w d = d := by simp [pollSq, h]
theorem pollCq_off {d : Device} {p q : Nat} (h : cqEn d p q = false) (w : Nat) : pollCq p q w d = d := by simp [pollCq, h]
theorem pollEq_off {d : Device} {p : Nat} (h : fbit d (oEqCtrl p) fEqCtrlEnable = false) (w : Nat) : pollEq p w d = d := by
  simp [pollEq, h]

theorem pollSq_on {d : Device} {p q : Nat} (h : sqEn d p q = true) (w : Nat) :
    let e := slotAborts p q w (ringOf (partOf d p) q) (slotCounted p q w d)
    pollSq p q w d = setPart p (setRing q { ringOf (partOf e p) q with abortBit := bit 32 w } (partOf e p)) e := by
  simp only [pollSq, h, if_true]
  rfl

/-- What the word of ring q's slot makes of its ring, as far as the pending count goes, and what it leaves of d. -/
structure SlotRead (p q w : Nat) (d e : Device) : Prop where
  kept : PollKept p d e
  due : (partOf e p).pollDue = (partOf d p).pollDue
  held : (partOf e p).held = (partOf d p).held
  valid : 0 ≤ slotCount d p q w → slotCount d p q w ≤ sqSize d p q →
    (ringOf (partOf e p) q).announced = (slotCount d p q w).toNat ∧ e.regs = d.regs
  invalid : slotCount d p q w < 0 ∨ sqSize d p q < slotCount d p q w →
    (ringOf (partOf e p) q).announced = (ringOf (partOf d p) q).announced ∧
      ∃ o ∈ (partOf e p).evOpen, o.code = 0x0010 ∧ o.source = q

/-- The ABORT bit of a slot changes at most the partition's abort. -/
theorem slotAborts_asked {p : Nat} {d : Device} (h : Canonical d) (q w : Nat) (old : Ring) :
    PollKept p d (slotAborts p q w old d) ∧ (slotAborts p q w old d).regs = d.regs ∧
      ∃ n l, partOf (slotAborts p q w old d) p =
        { partOf d p with
          abort := if bit 32 w = true ∧ old.abortBit = false ∧ (partOf d p).abort = .none then .requested q 0 else (partOf d p).abort,
          aborted := n, abortLate := l } := by
  unfold slotAborts
  split
  next hb =>
    obtain ⟨hbit, hold⟩ : bit 32 w = true ∧ old.abortBit = false := by simpa using hb
    obtain ⟨hk, hregs, n, l, hx⟩ := abortRequest_pollKept (p := p) h q 0
    exact ⟨hk, hregs, n, l, by simpa only [hbit, hold, true_and] using hx⟩
  next hb =>
    have hno : ¬(bit 32 w = true ∧ old.abortBit = false ∧ (partOf d p).abort = .none) :=
      fun ⟨h1, h2, _⟩ => hb (by rw [h1, h2]; rfl)
    rw [if_neg hno]
    exact ⟨.refl h, rfl, _, _, rfl⟩

section
variable {d : Device} {p q : Nat} (h : Canonical d) (hoff : fbit d (oEqCtrl p) fEqCtrlEnable = false) (hq : q < 16)
include h hoff hq

/-- A valid count changes the ring alone, an invalid one is the event alone. -/
theorem slotCounted_read (w : Nat) :
    SlotRead p q w d (slotCounted p q w d) ∧ (partOf (slotCounted p q w d) p).abort = (partOf d p).abort := by
  unfold slotCounted
  split
  next hin =>
    have hr := partOf_rising p d h
    let r := { ringOf (partOf d p) q with announced := (slotCount d p q w).toNat }
    have hx : partOf (setPart p (setRing q r (partOf d p)) d) p = setRing q r (partOf d p) := partOf_setPart_same _ _ h.parts_rising
    refine ⟨{ kept := .setPart h (setRing_rising q r _ hr), due := ?_, held := ?_, valid := fun _ _ => ⟨?_, rfl⟩,
              invalid := fun hout => ?_ }, ?_⟩
    · rw [hx]; rfl
    · rw [hx]; rfl
    · rw [hx, ringOf_setRing_same _ _ hr.1]
    · omega
    · rw [hx]; rfl
  next hout =>
    obtain ⟨hk, l, k, hx, ho⟩ := raise_doorbellInvalid h hoff hq (w % 2 ^ 32) (w / 2 ^ 32)
    refine ⟨{ kept := hk, due := ?_, held := ?_, valid := fun h1 h2 => absurd ⟨h1, h2⟩ hout, invalid := fun _ => ⟨?_, ?_⟩ }, ?_⟩
    · rw [hx]
    · rw [hx]
    · rw [hx]; rfl
    · rw [hx]; exact ho
    · rw [hx]

/-- An enabled slot: its pending count, its ABORT bit, and the bit kept for the next poll. -/
theorem pollSq_read (hen : sqEn d p q = true) (w : Nat) :
    SlotRead p q w d (pollSq p q w d) ∧
      (partOf (pollSq p q w d) p).abort =
        if bit 32 w = true ∧ (ringOf (partOf d p) q).abortBit = false ∧ (partOf d p).abort = .none then .requested q 0
        else (partOf d p).abort := by
  obtain ⟨hread, habort⟩ := slotCounted_read h hoff hq w
  obtain ⟨hkept, hregs, n, l, hx⟩ := slotAborts_asked hread.kept.canonical q w (ringOf (partOf d p) q)
  rw [pollSq_on hen]
  dsimp only
  generalize slotAborts p q w (ringOf (partOf d p) q) (slotCounted p q w d) = e at hkept hregs hx ⊢
  have hr := partOf_rising p e hkept.canonical
  let r := { ringOf (partOf e p) q with abortBit := bit 32 w }
  have hy : partOf (setPart p (setRing q r (partOf e p)) e) p = setRing q r (partOf e p) :=
    partOf_setPart_same _ _ hkept.canonical.parts_rising
  have hring : ringOf (setRing q r (partOf e p)) q = r := ringOf_setRing_same q r hr.1
  have hann : r.announced = (ringOf (partOf (slotCounted p q w d) p) q).announced := by simp only [r, hx, ringOf]
  refine ⟨{ kept := (hread.kept.trans hkept).trans (.setPart hkept.canonical (setRing_rising q r _ hr)), due := ?_, held := ?_,
            valid := fun h1 h2 => ?_, invalid := fun hout => ?_ }, ?_⟩
  all_goals rw [hy]
  · simp only [setRing, hx, hread.due]
  · simp only [setRing, hx, hread.held]
  · obtain ⟨hcount, hd⟩ := hread.valid h1 h2
    exact ⟨by rw [hring, hann, hcount], hregs.trans hd⟩
  · obtain ⟨hcount, hev⟩ := hread.invalid hout
    exact ⟨by rw [hring, hann, hcount], by simpa only [setRing, hx] using hev⟩
  · simp only [setRing, hx, habort]
end

/-! ## The rest of a poll (R375, R379, R384) -/

/-- e is d but for the partitions' table, where partition p differs in its completion rings. -/
structure CqsOnly (p : Nat) (d e : Device) : Prop where
  fields : ∃ ps, e = { d with parts := ps }
  rising : Rising e.parts
  part : ∃ c, partOf e p = { partOf d p with cqs := c }

theorem CqsOnly.refl {p : Nat} {d : Device} (h : Rising d.parts) : CqsOnly p d d := ⟨⟨_, rfl⟩, h, _, rfl⟩

theorem CqsOnly.trans {p : Nat} {d e f : Device} (h : CqsOnly p d e) (k : CqsOnly p e f) : CqsOnly p d f := by
  obtain ⟨⟨_, rfl⟩, -, _, hx⟩ := h
  obtain ⟨⟨ps, rfl⟩, hr, c, hy⟩ := k
  exact ⟨⟨ps, rfl⟩, hr, c, by rw [hy, hx]⟩

theorem CqsOnly.setPart {p : Nat} {d : Device} (h : Rising d.parts) (c : Tab CqRt) :
    CqsOnly p d (setPart p { partOf d p with cqs := c } d) :=
  ⟨⟨_, rfl⟩, tabSet_rising _ _ _ _ h, c, partOf_setPart_same _ _ h⟩

theorem CqsOnly.foldl {p : Nat} {d : Device} (h : Rising d.parts) (f : Device → Nat → Device)
    (hf : ∀ e k, CqsOnly p d e → CqsOnly p e (f e k)) (l : List Nat) : CqsOnly p d (l.foldl f d) := by
  suffices ∀ e, CqsOnly p d e → CqsOnly p d (l.foldl f e) from this d (.refl h)
  induction l with
  | nil => exact fun _ he => he
  | cons k r ih => exact fun e he => ih _ (he.trans (hf e k he))

/-- With no record held, a ring that has room is no longer in an episode. -/
theorem cqFlush_cqsOnly {p : Nat} {d : Device} (h : Rising d.parts) (hheld : (partOf d p).held = []) : CqsOnly p d (cqFlush p d) := by
  have hgo : cqFlushGo p (partOf d p).held [] d = setPart p { partOf d p with cqs := (partOf d p).cqs } d := by
    rw [hheld, cqFlushGo, ← hheld]
  have hstart := CqsOnly.setPart (p := p) h (partOf d p).cqs
  unfold cqFlush
  rw [hgo]
  refine hstart.trans (.foldl hstart.rising _ (fun e q he => ?_) _)
  have heheld : (partOf e p).held = [] := by
    obtain ⟨-, -, c, hc⟩ := hstart.trans he
    rw [hc, ← hheld]
  dsimp only
  rw [heheld, List.any_nil, if_neg Bool.false_ne_true]
  split
  · exact .refl he.rising
  · split
    · exact .setPart he.rising _
    · exact .refl he.rising

/-- A ring that has stopped goes on. -/
def goOn (k : Nat) (rs : Tab Ring) : Tab Ring :=
  if (tabGet {} k rs).stopped then tabSet {} k { tabGet {} k rs with stopped := false } rs else rs

theorem goOn_rising {rs : Tab Ring} (h : Rising rs) (k : Nat) : Rising (goOn k rs) := by
  unfold goOn
  split
  · exact tabSet_rising _ _ _ _ h
  · exact h

theorem tabGet_goOn {rs : Tab Ring} (h : Rising rs) (k q : Nat) :
    tabGet {} q (goOn k rs) = if q = k then { tabGet {} q rs with stopped := false } else tabGet {} q rs := by
  unfold goOn
  split
  next hs =>
    split
    next hk => rw [hk, tabGet_tabSet_same _ _ _ _ h]
    next hk => rw [tabGet_tabSet_ne _ _ _ _ _ _ hk]
  next hs =>
    split
    next hk =>
      rw [hk]
      exact congrArg (fun b => { tabGet {} k rs with stopped := b }) (eq_false_of_ne_true hs)
    next => rfl

theorem tabGet_foldl_goOn (b q : Nat) (l : List Nat) {rs : Tab Ring} (h : Rising rs) :
    tabGet {} q (l.foldl (fun rs i => goOn (b + i) rs) rs) =
      if ∃ i ∈ l, q = b + i then { tabGet {} q rs with stopped := false } else tabGet {} q rs := by
  induction l generalizing rs with
  | nil => simp
  | cons i r ih =>
    rw [List.foldl_cons, ih (goOn_rising h _), tabGet_goOn h]
    by_cases h1 : q = b + i <;> by_cases h2 : ∃ i ∈ r, q = b + i <;> simp [h1, h2]

/-- The rings of a block that have stopped go on. -/
def blockGoesOn (b : Nat) (rs : Tab Ring) : Tab Ring := (List.range 8).foldl (fun rs i => goOn (8 * b + i) rs) rs

theorem tabGet_blockGoesOn {rs : Tab Ring} (h : Rising rs) (b : Nat) {i : Nat} (hi : i < 8) :
    tabGet {} (8 * b + i) (blockGoesOn b rs) = { tabGet {} (8 * b + i) rs with stopped := false } :=
  (tabGet_foldl_goOn (8 * b) (8 * b + i) (List.range 8) h).trans (if_pos ⟨i, List.mem_range.mpr hi, rfl⟩)

theorem partOf_pollRings {d : Device} (h : Rising d.parts) (p b : Nat) :
    partOf (pollRings p b d) p =
      { partOf d p with pollDue := (partOf d p).pollDue.erase b, rings := blockGoesOn b (partOf d p).rings } :=
  partOf_setPart_same _ _ h

/-- What a poll does once its slots are read: the block is due no more, and its rings go on. -/
theorem pollRings_cqFlush {d : Device} {p b i : Nat} (h : Canonical d) (hheld : (partOf d p).held = []) (hi : i < 8) :
    let e := cqFlush p (pollRings p b d)
    (∃ ps, e = { d with parts := ps }) ∧ (partOf e p).pollDue = (partOf d p).pollDue.erase b ∧
      (partOf e p).abort = (partOf d p).abort ∧ (partOf e p).evOpen = (partOf d p).evOpen ∧
      ringOf (partOf e p) (8 * b + i) = { ringOf (partOf d p) (8 * b + i) with stopped := false } := by
  intro e
  have hx := partOf_pollRings h.parts_rising p b
  have hset : Rising (pollRings p b d).parts := tabSet_rising _ _ _ _ h.parts_rising
  obtain ⟨⟨ps, hps⟩, -, c, hy⟩ := cqFlush_cqsOnly hset (by rw [hx]; exact hheld)
  rw [hx] at hy
  refine ⟨⟨ps, hps⟩, by rw [hy], by rw [hy], by rw [hy], ?_⟩
  rw [hy]
  dsimp only [ringOf]
  exact tabGet_blockGoesOn (partOf_rising p d h).1 b hi

/-! ## The poll of a block in which one ring is on (R373, R375) -/

theorem foldl_eq_self {α β : Type} {f : α → β → α} {a : α} {l : List β} (h : ∀ x ∈ l, f a x = a) : l.foldl f a = a := by
  induction l with
  | nil => rfl
  | cons x r ih =>
    rw [List.foldl_cons, h x List.mem_cons_self]
    exact ih fun y hy => h y (List.mem_cons_of_mem x hy)

/-- Where all but one of a range leave what they find, a fold over it is that one. -/
theorem foldl_range_eq_one {α : Type} {f : α → Nat → α} {a : α} {n i : Nat} (hi : i < n) (h1 : ∀ j < n, j ≠ i → f a j = a)
    (h2 : ∀ j < n, j ≠ i → f (f a i) j = f a i) : (List.range n).foldl f a = f a i := by
  obtain ⟨l, r, hlr⟩ := List.append_of_mem (List.mem_range.mpr hi)
  have hlt (j : Nat) (hj : j ∈ l ∨ j ∈ r) : j < n :=
    List.mem_range.mp (hlr ▸ List.mem_append.mpr (hj.imp_right (List.mem_cons_of_mem i)))
  have hnd : (l ++ i :: r).Nodup := hlr ▸ List.nodup_range
  obtain ⟨-, hright, hleft⟩ := List.nodup_append.mp hnd
  have hne (j : Nat) (hj : j ∈ l ∨ j ∈ r) : j ≠ i :=
    hj.elim (fun hl => hleft j hl i List.mem_cons_self) fun hr e => (List.nodup_cons.mp hright).1 (e ▸ hr)
  rw [hlr, List.foldl_append, List.foldl_cons, foldl_eq_self fun j hj => h1 j (hlt j (.inl hj)) (hne j (.inl hj))]
  exact foldl_eq_self fun j hj => h2 j (hlt j (.inr hj)) (hne j (.inr hj))

section
variable {d : Device} {p b i : Nat} (h : Canonical d) (hoff : fbit d (oEqCtrl p) fEqCtrlEnable = false) (hb : b < 2) (hi : i < 8)
  (hen : sqEn d p (8 * b + i) = true) (hsq : ∀ j < 16, j ≠ 8 * b + i → sqEn d p j = false) (hcq : ∀ j < 16, cqEn d p j = false)
include h hoff hb hi hen hsq hcq

/-- The slots of the other rings change nothing. -/
theorem pollSlots_one (ws : List DWord) :
    (List.range 8).foldl (fun d i => pollCq p (8 * b + i) (ws.getD i 0).toNat (pollSq p (8 * b + i) (ws.getD i 0).toNat d)) d =
      pollSq p (8 * b + i) (ws.getD i 0).toNat d := by
  have hread := (pollSq_read h hoff (by omega) hen (ws.getD i 0).toNat).1.kept
  have hown : pollCq p (8 * b + i) (ws.getD i 0).toNat (pollSq p (8 * b + i) (ws.getD i 0).toNat d) =
      pollSq p (8 * b + i) (ws.getD i 0).toNat d := pollCq_off ((hread.cqEn _).trans (hcq _ (by omega))) _
  have hother {e : Device} (he : PollKept p d e) (j : Nat) (hj : j < 8) (hne : j ≠ i) :
      pollCq p (8 * b + j) (ws.getD j 0).toNat (pollSq p (8 * b + j) (ws.getD j 0).toNat e) = e := by
    rw [pollSq_off ((he.sqEn _).trans (hsq _ (by omega) (by omega))), pollCq_off ((he.cqEn _).trans (hcq _ (by omega)))]
  refine (foldl_range_eq_one hi (hother (.refl h)) ?_).trans hown
  rw [hown]
  exact hother hread

theorem doorbellPoll_one (hs : ringsServed d p = true) (hheld : (partOf d p).held = []) (ws : List DWord) :
    doorbellPoll p b ws d =
      cqFlush p (pollRings p b (pollSq p (8 * b + i) (ws.getD i 0).toNat (emit (.hostRead (blockAddr d p b) 64) d))) := by
  let d0 := emit (.hostRead (blockAddr d p b) 64) d
  let e := pollSq p (8 * b + i) (ws.getD i 0).toNat d0
  have h0 : Canonical d0 := emit_canonical _ _ h
  have hpolled : blockPolled d p b = true := by
    have : (List.range 8).any (fun i => sqEn d p (8 * b + i) || cqEn d p (8 * b + i)) = true :=
      List.any_eq_true.mpr ⟨i, List.mem_range.mpr hi, by rw [hen]; rfl⟩
    rw [blockPolled, this, Bool.true_or]
  obtain ⟨hread, -⟩ := pollSq_read h0 hoff (show 8 * b + i < 16 by omega) hen (ws.getD i 0).toNat
  have heoff : fbit e (oEqCtrl p) fEqCtrlEnable = false := hread.kept.eqEn.trans hoff
  obtain ⟨⟨ps, hps⟩, -⟩ := pollRings_cqFlush (b := b) hread.kept.canonical (hread.held.trans hheld) hi
  have hslots := pollSlots_one h0 hoff hb hi hen hsq hcq ws
  have hend : fbit (cqFlush p (pollRings p b e)) (oEqCtrl p) fEqCtrlEnable = false := by rw [hps]; exact heoff
  simp only [doorbellPoll, hpolled, hs, Bool.and_self, if_true]
  rw [hslots, pollEq_off heoff, ite_self, evFlush_off hend]
end

/-- Settles O24: the block's poll is that of its one ring's slot (`doorbellPoll_one`); the slot's count and ABORT bit as they are read
(`pollSq_read`), and what is done once the slots are read (`pollRings_cqFlush`). -/
theorem doorbellAnnouncesEntries : Obligations.DoorbellAnnouncesEntries := by
  unfold Obligations.DoorbellAnnouncesEntries
  intro s p b i ws hp hb hi hws hc hs hen hsq hcq hoff hheld _ q w n g k x
  have hwf : (Instr.doorbellPoll p b ws).wf = true := by simp [Instr.wf, partOk, hp, hb, hws]
  have hq : q < 16 := by omega
  let d0 := emit (.hostRead (blockAddr s.dev p b) 64) s.dev
  obtain ⟨hread, habort⟩ := pollSq_read (d := d0) (emit_canonical _ _ hc) hoff hq hen w
  obtain ⟨hkept, hdue, hheld', hvalid, hinvalid⟩ := hread
  obtain ⟨⟨ps, hps⟩, hdue', habort', hopen', hring⟩ := pollRings_cqFlush (b := b) hkept.canonical (hheld'.trans hheld) hi
  have hpoll := doorbellPoll_one hc hoff hb hi hen hsq hcq hs hheld ws
  generalize cqFlush p (pollRings p b (pollSq p q w d0)) = e at hps hdue' habort' hopen' hring hpoll
  refine ⟨_, exec_next rfl hwf hpoll, rfl, (congrArg Device.mem hps).trans hkept.mem, (congrArg Device.cmds hps).trans hkept.cmds,
    (congrArg Device.out hps).trans hkept.out, hdue'.trans (congrArg (List.erase · b) hdue), congrArg Ring.stopped hring,
    fun h1 h2 => ?_, fun hout => ?_, habort'.trans habort⟩
  · obtain ⟨hann, hregs⟩ := hvalid h1 h2
    exact ⟨(congrArg Ring.announced hring).trans hann, (congrArg Device.regs hps).trans hregs⟩
  · obtain ⟨hann, hev⟩ := hinvalid hout
    exact ⟨(congrArg Ring.announced hring).trans hann, hopen' ▸ hev⟩

end Sys2Proof.Machine
end

section
/-! TIME follows its master: what an alignment leaves of HY_TIME and of TIME, and O41. -/

namespace Sys2Proof.Machine

theorem Canonical.regs_rising {d : Device} (h : Canonical d) : Rising d.regs := by
  obtain ⟨-, -, -, hregs, -⟩ := h
  exact hregs

/-! ## HY_TIME (R424) -/

/-- The three fields of HY_TIME set. -/
def hyTimeSet (aligned m hops : Nat) (d : Device) : Device :=
  fput oHyTime fHyTimeAligned aligned (fput oHyTime fHyTimeMaster m (fput oHyTime fHyTimeHops hops d))

theorem hyTimeSet_fields {aligned m hops : Nat} {d : Device} (hr : Rising d.regs) (hm : m < 16) (hh : hops < 4) :
    let e := hyTimeSet aligned m hops d
    fget e oHyTime fHyTimeAligned = aligned % 2 ∧ fget e oHyTime fHyTimeMaster = m ∧ fget e oHyTime fHyTimeHops = hops := by
  have h1 := fput_rising oHyTime fHyTimeHops hops d hr
  have h2 := fput_rising oHyTime fHyTimeMaster m _ h1
  refine ⟨fget_fput_same _ fHyTimeAligned _ _ h2 (by decide) (by decide), ?_, ?_⟩
  · calc _ = fget (fput oHyTime fHyTimeMaster m (fput oHyTime fHyTimeHops hops d)) oHyTime fHyTimeMaster :=
          fget_fput_other _ _ _ _ _ h2 (by decide) (by decide) (by decide)
      _ = m % 2 ^ 4 := fget_fput_same _ fHyTimeMaster _ _ h1 (by decide) (by decide)
      _ = m := Nat.mod_eq_of_lt hm
  · calc _ = fget (fput oHyTime fHyTimeMaster m (fput oHyTime fHyTimeHops hops d)) oHyTime fHyTimeHops :=
          fget_fput_other _ _ _ _ _ h2 (by decide) (by decide) (by decide)
      _ = fget (fput oHyTime fHyTimeHops hops d) oHyTime fHyTimeHops :=
          fget_fput_other _ _ _ _ _ h1 (by decide) (by decide) (by decide)
      _ = hops % 2 ^ 2 := fget_fput_same _ fHyTimeHops _ _ hr (by decide) (by decide)
      _ = hops := Nat.mod_eq_of_lt hh

/-- The master is a slot of the domain. -/
theorem masterOf_lt {n : Nat} {d : Device} {coming : Option Nat} {m h : Nat} (hm : masterOf n d coming = some (m, h)) : m < 16 := by
  obtain ⟨t, ht, he⟩ := List.exists_of_findSome?_eq_some hm
  split at he
  · obtain ⟨_, -, he⟩ := Option.map_eq_some_iff.mp he
    obtain ⟨rfl, -⟩ := Prod.mk.inj he
    exact List.mem_range.mp ht
  · cases he

/-! ## The alignment (R425, R426) -/

/-- TIME in units of 2^-32 ns, moved by quarters of a nanosecond. -/
def timeMoved (z : Int) (d : Device) : Int := d.clk.time * 2 ^ 32 + d.clk.frac + z * 2 ^ 30

/-- A time in units of 2^-32 ns as TIME and its fraction hold it. -/
theorem time_split {w : Int} (h0 : 0 ≤ w) (h1 : w < 2 ^ 96) :
    ((w.toNat / 2 ^ 32 % 2 ^ 64 : Nat) : Int) * 2 ^ 32 + ((w.toNat % 2 ^ 32 : Nat) : Int) = w := by
  omega

/-- The first alignment steps TIME. -/
theorem alignTo_steps {m hops : Nat} {z : Int} {d : Device} (hs : d.align.stepped = false) (h0 : 0 ≤ timeMoved z d)
    (h1 : timeMoved z d < 2 ^ 96) :
    let e := alignTo m hops z d
    (∀ f, fget e oHyTime f = fget (hyTimeSet 1 m hops d) oHyTime f) ∧ (e.clk.time : Int) * 2 ^ 32 + e.clk.frac = timeMoved z d ∧ e.clk.frac < 2 ^ 32 ∧
      e.align.stepped = true := by
  have he : alignTo m hops z d = { hyTimeSet 1 m hops d with
      clk := { d.clk with time := (timeMoved z d).toNat / 2 ^ 32 % 2 ^ 64, frac := (timeMoved z d).toNat % 2 ^ 32 }
      align := { d.align with stepped := true } } := if_neg (Bool.eq_false_iff.mp hs)
  rw [he]
  exact ⟨fun _ => rfl, time_split h0 h1, Nat.mod_lt _ (by decide), rfl⟩

/-- A later alignment slews. -/
theorem alignTo_slews {m hops : Nat} {z : Int} {d : Device} (hs : d.align.stepped = true) :
    alignTo m hops z d = { hyTimeSet 1 m hops d with align := { d.align with slew := z } } := if_pos hs

section
variable {d : Device} {l m h : Nat} (hl : l < 30) (hm : masterOf d.free d (some l) = some (m, h))
include hl hm

/-- Exchanges with the master, or with a relay to it, are an alignment to the master. -/
theorem alignBy_master {xs : List (Int × Int × Int × Int)} {b : Option Int} {hops : Nat} {z : Int}
    (hz : (h = 1 ∧ l ∈ domainLinks d m ∧ hops = 1 ∧ z = bestOffset xs) ∨ (h = 2 ∧ ∃ r, b = some r ∧ hops = 2 ∧ z = bestOffset xs + r)) :
    alignBy l xs b d = alignTo m hops z (drawFree d).2 := by
  have hm' : masterOf d.free { d with free := d.free + 1 } (some l) = some (m, h) := hm
  rcases hz with ⟨rfl, hmem, rfl, rfl⟩ | ⟨rfl, r, rfl, rfl, rfl⟩
  · have hmem' : l ∈ domainLinks { d with free := d.free + 1 } m := hmem
    simp only [alignBy, drawFree, if_neg (Nat.not_le.mpr hl), hm']
    exact if_pos hmem'
  · simp only [alignBy, drawFree, if_neg (Nat.not_le.mpr hl), hm']

/-- The master has nothing to align to. -/
theorem alignBy_itself (xs : List (Int × Int × Int × Int)) (b : Option Int) (h0 : h = 0) :
    alignBy l xs b d = hyTimeSet 0 m 0 (drawFree d).2 := by
  have hm' : masterOf d.free { d with free := d.free + 1 } (some l) = some (m, h) := hm
  subst h0
  simp only [alignBy, drawFree, if_neg (Nat.not_le.mpr hl), hm', hyTimeSet]

end

/-- On a link that is UP the exchanges align TIME. -/
theorem exec_timeExchange_up {s : State} {l : Nat} {xs : List (Int × Int × Int × Int)} (b : Option Int) (hl : l < 30)
    (hx : xs.length = 16) (hup : linkState s.dev l = lkUp) :
    exec (.timeExchange l xs b) s = .next { s with dev := alignBy l xs b s.dev } := by
  have hwf : (Instr.timeExchange l xs b).wf = true := by simp [Instr.wf, linkOk, hx]; omega
  have hne : linkState s.dev l ≠ lkAligning := by rw [hup]; decide
  exact exec_next rfl hwf (show timeExchange l xs b s.dev = _ by rw [timeExchange, if_neg hne, if_pos hup])

/-- Settles O41: the exchanges are an alignment (`alignBy_master`, `alignBy_itself`), which steps TIME the first time and slews later
(`alignTo_steps`, `alignTo_slews`). -/
theorem timeFollowsMaster : Obligations.TimeFollowsMaster := by
  unfold Obligations.TimeFollowsMaster
  intro s l m h xs b hl hx hc hup hm
  have hr : Rising (drawFree s.dev).2.regs := hc.regs_rising
  have hq := alignBy_linksQuiet l xs b s.dev
  have hexec := exec_timeExchange_up b hl hx hup
  refine ⟨fun hops z hz => ?_, fun h0 => ?_⟩
  · have hh : hops < 4 := by rcases hz with ⟨-, -, rfl, -⟩ | ⟨-, _, -, rfl, -⟩ <;> decide
    have he := alignBy_master hl hm hz
    obtain ⟨ha, hma, hho⟩ := hyTimeSet_fields (aligned := 1) hr (masterOf_lt hm) hh
    rw [he] at hexec hq
    refine ⟨fun hs h0 h1 => ?_, fun hs => ?_⟩
    · obtain ⟨hset, htime, hfrac, hstep⟩ := alignTo_steps (m := m) (hops := hops) (d := (drawFree s.dev).2) hs h0 h1
      exact ⟨_, hexec, rfl, htime, hfrac, hstep, decide_eq_true ((hset _).trans ha), (hset _).trans hma, (hset _).trans hho, hq.mem,
        hq.cmds⟩
    · rw [alignTo_slews (show (drawFree s.dev).2.align.stepped = true from hs)] at hexec hq
      exact ⟨_, hexec, rfl, rfl, rfl, hma, hho, hq.mem, hq.cmds⟩
  · rw [alignBy_itself hl hm xs b h0] at hexec
    obtain ⟨ha, hma, -⟩ := hyTimeSet_fields (aligned := 0) hr (masterOf_lt hm) (show 0 < 4 by decide)
    refine ⟨_, hexec, rfl, rfl, rfl, decide_eq_false ?_, hma⟩
    rw [ha]
    decide

end Sys2Proof.Machine
end

section
/-! Links that fail: what a report and a new route leave of the registers that say which links carry traffic, and O43. -/

namespace Sys2Proof.Machine

/-! ## Reports and the registers of pairs and links (R389 to R392, R501 to R504) -/

/-- The registers from DEVICE_ID to those of the links read the same in both. -/
def MidRegsKept (d e : Device) : Prop := ∀ o, 0x8000 ≤ o → o < 0x40000 → rget e o = rget d o

theorem MidRegsKept.refl (d : Device) : MidRegsKept d d := fun _ _ _ => rfl

theorem MidRegsKept.trans {d e f : Device} (h : MidRegsKept d e) (k : MidRegsKept e f) : MidRegsKept d f :=
  fun o h1 h2 => (k o h1 h2).trans (h o h1 h2)

theorem MidRegsKept.ite {b : Prop} [Decidable b] {d e f : Device} (h : MidRegsKept d e) (k : MidRegsKept d f) :
    MidRegsKept d (if b then e else f) := by split <;> assumption

theorem MidRegsKept.foldl {α : Type} {f : Device → α → Device} (hf : ∀ d x, MidRegsKept d (f d x)) (l : List α) (d : Device) :
    MidRegsKept d (l.foldl f d) := by
  induction l generalizing d with
  | nil => exact .refl d
  | cons x r ih => exact (hf d x).trans (ih _)

theorem MidRegsKept.congr {d e : Device} (h1 : e.regs = d.regs := by rfl) (h2 : e.variant = d.variant := by rfl)
    (h3 : e.straps = d.straps := by rfl) : MidRegsKept d e := fun o _ _ => rget_congr h1 h2 h3 o

theorem rput_midRegsKept {off : Nat} (w : Word) (d : Device) (h : off < 0x8000 ∨ 0x40000 ≤ off) : MidRegsKept d (rput off w d) :=
  fun _ _ _ => rget_rput_ne _ _ _ _ (by omega)

theorem fsat_midRegsKept {off : Nat} (f : Fld) (n : Nat) (d : Device) (h : off < 0x8000 ∨ 0x40000 ≤ off) :
    MidRegsKept d (fsat off f n d) := rput_midRegsKept _ d h

theorem journal_midRegsKept (t : Nat) (bs : List Byte) (d : Device) : MidRegsKept d (journal t bs d) := by
  obtain ⟨-, -, -, hr⟩ := journal_frame t bs d
  exact fun o h1 _ => hr o (by unfold oJnlNextSeq; omega) (by unfold oJnlDrops; omega)

theorem faultLog_midRegsKept (code : Nat) (d : Device) : MidRegsKept d (faultLog code d) := by
  have hput {i : Nat} (hi : i < 16) (v w : Word) (d : Device) : MidRegsKept d (rput (oFaultLog i) v (rput (oFaultTime i) w d)) :=
    (rput_midRegsKept w d (by unfold oFaultTime; omega)).trans (rput_midRegsKept v _ (by unfold oFaultLog; omega))
  exact (MidRegsKept.foldl (fun d k => hput (by omega) _ _ d) _ d).trans (hput (by omega) _ _ _)

theorem msixSend_midRegsKept (fn v : Nat) (d : Device) : MidRegsKept d (msixSend fn v d) := by
  have hpba : 0x40000 ≤ msixPba fn v := by unfold msixPba oMsixPba oVfMsixPba; split <;> omega
  unfold msixSend
  exact .ite (.refl d) (.ite (rput_midRegsKept _ d (.inr hpba)) .congr)

theorem evDeliver_midRegsKept (p : Nat) (e : EvRec) (d : Device) : MidRegsKept d (evDeliver p e d) := by
  have hheld (l : List EvRec) (n : Nat) : MidRegsKept d (fsat (oEqLost p) fEqLostLost n (setPart p { partOf d p with evHeld := l } d)) :=
    (MidRegsKept.congr (d := d)).trans (fsat_midRegsKept _ _ _ (by unfold oEqLost; omega))
  have hwrite : MidRegsKept d (evWrite p e d) := (MidRegsKept.congr (d := d)).trans (msixSend_midRegsKept _ _ _)
  unfold evDeliver
  exact .ite hwrite (hheld _ _)

theorem evTrace_midRegsKept (e : EvRec) (d : Device) : MidRegsKept d (evTrace e d) := by
  have htrc (t : Trace) : MidRegsKept d { d with trc := t } := .congr
  have hdrop (k : TPkt) : MidRegsKept d (trcDrop 1 k d) :=
    (MidRegsKept.congr (d := d)).trans (fsat_midRegsKept _ _ _ (by unfold oTrcLoss; omega))
  unfold evTrace trcPut
  exact .ite (.ite (.ite (htrc _) (.ite (htrc _) (htrc _))) (.refl d)) (.ite (.ite (htrc _) (hdrop _)) (.refl d))

theorem evJournal_midRegsKept (e : EvRec) (d : Device) : MidRegsKept d (evJournal e d) := by
  unfold evJournal
  exact .ite (.ite (faultLog_midRegsKept _ d) (journal_midRegsKept _ _ d)) (.ite (journal_midRegsKept _ _ d) (.refl d))

/-- An event raised leaves the registers from DEVICE_ID to those of the links. -/
theorem raise_midRegsKept (p code source a0 a1 st : Nat) (d : Device) : MidRegsKept d (raise p code source a0 a1 st d) := by
  have hset (l : List EvRec) : MidRegsKept d (setPart p { partOf d p with evOpen := l } d) := .congr
  unfold raise raiseAt
  refine .ite (.ite ((hset _).trans (evJournal_midRegsKept _ _)) (hset _)) ?_
  have hdel (e : EvRec) (l : List EvRec) := (hset l).trans (evDeliver_midRegsKept p e _)
  exact .ite (((hdel _ _).trans (evTrace_midRegsKept _ _)).trans (evJournal_midRegsKept _ _)) (hdel _ _)

/-! ## Which links carry traffic (R435, R459) -/

/-- The registers that say which links carry traffic, the routes, memory and the commands are in e as in d. -/
structure CarriersKept (d e : Device) : Prop extends LinkRegsKept d e where
  pairing : ∀ o, 0x8000 ≤ o → o < 0x10000 → rget e o = rget d o
  rem : e.rem = d.rem

theorem CarriersKept.refl (d : Device) : CarriersKept d d := ⟨.refl d, fun _ _ _ => rfl, rfl⟩

theorem CarriersKept.trans {d e f : Device} (h : CarriersKept d e) (k : CarriersKept e f) : CarriersKept d f :=
  ⟨h.toLinkRegsKept.trans k.toLinkRegsKept, fun o h1 h2 => (k.pairing o h1 h2).trans (h.pairing o h1 h2), k.rem.trans h.rem⟩

theorem CarriersKept.pairLink {d e : Device} (h : CarriersKept d e) (l : Nat) : pairLink e l = pairLink d l := by
  have hf (o : Nat) (h1 : 0x8000 ≤ o) (h2 : o < 0x10000) (f : Fld) : fget e o f = fget d o f := by rw [fget, h.pairing o h1 h2, fget]
  have hpair (f : Fld) : fget e oPairCtrl f = fget d oPairCtrl f := hf _ (by decide) (by decide) f
  have hdev (f : Fld) : fget e oDeviceId f = fget d oDeviceId f := hf _ (by decide) (by decide) f
  have hlinks (t : Nat) : domainLinks e t = domainLinks d t := by rw [domainLinks, ownDev, hdev, hdev]; rfl
  rw [Machine.pairLink, fbit, hpair, hpair, hlinks]
  rfl

theorem CarriersKept.carries {d e : Device} (h : CarriersKept d e) {l : Nat} (hl : l < 48) : carries e l = carries d l := by
  rw [Machine.carries, h.linkState hl, h.pairLink, Machine.carries]

theorem Sent.carriersKept {d e : Device} (h : Sent d e) (k : LinkRegsKept d e) : CarriersKept d e := by
  obtain ⟨_, _, _, rfl, hr⟩ := h
  exact ⟨k, fun o _ h2 => hr o h2, rfl⟩

theorem flushWaiting_carriersKept (l : Nat) (d : Device) : CarriersKept d (flushWaiting l d) :=
  Sent.carriersKept ((setLink_sent _ _ d).trans (.foldl (fun d p => routeSend_sent p d) _ _)) (flushWaiting_linkRegsKept l d)

theorem divert_carriersKept (l : Nat) (d : Device) : CarriersKept d (divert l d) :=
  have h : CarriersKept d (setLink l _ d) := ⟨setLink_linkRegsKept _ _ d, fun _ _ _ => rfl, rfl⟩
  h.trans (flushWaiting_carriersKept l _)

/-- Registers of the Hyphor block below the links' own: HY_TIME and STANDS_FOR. -/
theorem fput_carriersKept {off : Nat} (f : Fld) (v : Nat) (d : Device) (h1 : 0x12000 ≤ off) (h2 : off < 0x12400) :
    CarriersKept d (fput off f v d) :=
  ⟨(fput_linksQuiet off f v d (.inl h2)).toLinkRegsKept, fun _ _ _ => rget_fput_ne _ _ _ _ _ (by omega), rfl⟩

theorem alignLost_carriersKept (d : Device) : CarriersKept d (alignLost d) := by
  have hfree : CarriersKept d (drawFree d).2 := ⟨(drawFree_linksQuiet d).toLinkRegsKept, fun _ _ _ => rfl, rfl⟩
  have hset (f : Fld) (v : Nat) (d : Device) : CarriersKept d (fput oHyTime f v d) := fput_carriersKept f v d (by decide) (by decide)
  unfold alignLost
  split
  · refine hfree.trans ?_
    dsimp only
    split
    · exact ((hset _ _ _).trans (hset _ _ _)).trans (hset _ _ _)
    · exact hset _ _ _
  · exact .refl d

theorem standIns_carriersKept (d : Device) : CarriersKept d (standIns d) :=
  (fput_carriersKept (off := oSpareCfg 0) _ _ d (by decide) (by decide)).trans
    (fput_carriersKept (off := oSpareCfg 1) _ _ _ (by decide) (by decide))

theorem raiseDev_carriersKept (code source a0 a1 : Nat) {d : Device} (h : Canonical d) :
    CarriersKept d (raiseDev code source a0 a1 d) := by
  have hr := raise_midRegsKept 0 code source a0 a1 0 d
  have hrise := (raiseDev_canonical code source a0 a1 d h).regs_rising
  obtain ⟨r, p, t, j, o, he⟩ := raiseDev_reported code source a0 a1 d
  refine ⟨⟨fun o h1 h2 => hr o (by omega) (by omega), fun _ => hrise, ?_, ?_⟩, fun o h1 h2 => hr o h1 (by omega), ?_⟩ <;> rw [he]

/-! ## New routes (R434, R435) -/

theorem domainLinks_lt {d : Device} {t k : Nat} (h : k ∈ domainLinks d t) : k < 30 := by
  unfold domainLinks at h
  dsimp only at h
  split at h
  · cases h
  · simp only [List.mem_cons, List.not_mem_nil, or_false] at h
    omega

/-- A new route is none, or a link that carries traffic. -/
theorem newRoute_carries (n : Nat) (d : Device) {l : Nat} (hl : l < 46) :
    newRoute n d l = 48 ∨ (newRoute n d l < 48 ∧ carries d (newRoute n d l) = true) := by
  unfold newRoute
  split
  next k hk =>
    have hmem : k ∈ [46, 47].filter fun k => carries d k && decide (farDevice d k = farDevice d l) := by
      rw [spareFor, if_neg (by omega), Option.or_eq_some_iff] at hk
      rcases hk with hk | ⟨-, hk⟩ <;> exact List.mem_of_find?_eq_some hk
    obtain ⟨hin, hc⟩ := List.mem_filter.mp hmem
    have hk48 : k < 48 := by simp only [List.mem_cons, List.not_mem_nil, or_false] at hin; omega
    exact .inr ⟨hk48, (Bool.and_eq_true_iff.mp hc).1⟩
  next =>
    split
    · exact .inl rfl
    · split
      next hc => exact .inr ⟨by unfold sibling; split <;> omega, hc⟩
      next =>
        split
        next q _ =>
          cases hp : pick d q l with
          | none => exact .inl rfl
          | some k =>
            obtain ⟨hin, hc⟩ := List.mem_filter.mp (List.mem_of_getElem? hp)
            exact .inr ⟨Nat.lt_trans (domainLinks_lt hin) (by decide), hc⟩
        next => exact .inl rfl

/-- A device with another route for a link's traffic. -/
def routed (l k : Nat) (d : Device) : Device := { d with free := d.free + 1, rem := { d.rem with routes := tabSet 49 l k d.rem.routes } }

theorem rerouteOne_carriersKept (report : Bool) (l : Nat) {d : Device} (h : Canonical d) :
    CarriersKept (routed l (newRoute d.free (drawFree d).2 l) d) (rerouteOne report l d) := by
  have hset : CarriersKept (routed l (newRoute d.free (drawFree d).2 l) d) (setRoute l (newRoute d.free (drawFree d).2 l) (drawFree d).2) :=
    standIns_carriersKept _
  have hc : Canonical (setRoute l (newRoute d.free (drawFree d).2 l) (drawFree d).2) :=
    fput_canonical _ _ _ _ (fput_canonical _ _ _ _ h.congr)
  unfold rerouteOne
  cases report with
  | false => exact hset
  | true => exact hset.trans (raiseDev_carriersKept _ _ _ _ hc)

/-- While no traffic has been moved, a lost link's own is all that takes a new route. -/
theorem reroute_alone {l : Nat} {d : Device} (report : Bool) (h : d.rem.routes = []) :
    reroute report l d = divert l (alignLost (if 46 ≤ l then d else rerouteOne report l d)) := by
  simp only [reroute, carried, h, List.filter_nil, List.map_nil, List.foldl_nil]

theorem lost_carriersKept (l : Nat) (d : Device) : CarriersKept d (divert l (alignLost d)) :=
  (alignLost_carriersKept d).trans (divert_carriersKept l _)

/-- A link that fails while no traffic has been moved. -/
theorem linkFail_result {l : Nat} {d : Device} (hl : l < 48) (hc : Canonical d) (hup : linkState d l = lkUp) (hr : d.rem.routes = []) :
    let e := linkFail l d
    linkState e l = lkFailed ∧ (l < 46 → ∃ k, tabGet 49 l e.rem.routes = k ∧ (k = 48 ∨ carries e k = true)) ∧
      (46 ≤ l → e.rem.routes = []) ∧ (∀ j < 48, j ≠ l → linkState e j = linkState d j) ∧ e.mem = d.mem ∧ e.cmds = d.cmds := by
  let f := setState l lkFailed d
  have hf : Canonical f := fput_canonical _ _ _ _ hc
  have hroutes : f.rem.routes = [] := hr
  have he : linkFail l d = divert l (alignLost (if 46 ≤ l then f else rerouteOne true l f)) :=
    (if_pos hup).trans (reroute_alone true hroutes)
  have hstates {e : Device} (h : LinkRegsKept f e) :
      linkState e l = lkFailed ∧ (∀ j < 48, j ≠ l → linkState e j = linkState d j) ∧ e.mem = d.mem ∧ e.cmds = d.cmds :=
    ⟨(h.linkState hl).trans (linkState_setState_same hc.regs_rising (by decide)),
      fun j hj hne => (h.linkState hj).trans (linkState_setState_ne _ _ hne), h.mem, h.cmds⟩
  rw [he]
  by_cases hs : 46 ≤ l
  · rw [if_pos hs]
    have hk := lost_carriersKept l f
    obtain ⟨hfail, hothers, hmem, hcmds⟩ := hstates hk.toLinkRegsKept
    exact ⟨hfail, fun h => absurd hs (by omega), fun _ => (congrArg Remote.routes hk.rem).trans hroutes, hothers, hmem, hcmds⟩
  · rw [if_neg hs]
    have hk := (rerouteOne_carriersKept true l hf).trans (lost_carriersKept l _)
    obtain ⟨hfail, hothers, hmem, hcmds⟩ := hstates (LinkRegsKept.trans .congr hk.toLinkRegsKept)
    have hroute := newRoute_carries f.free (drawFree f).2 (show l < 46 by omega)
    refine ⟨hfail, fun _ => ⟨newRoute f.free (drawFree f).2 l, ?_, ?_⟩, fun h => absurd h hs, hothers, hmem, hcmds⟩
    · rw [hk.rem]
      exact tabGet_tabSet_val _ _ _ _ (by omega)
    · exact hroute.imp_right fun ⟨hlt, hcar⟩ => (hk.carries hlt).trans hcar

/-- Settles O43: LANE_SPARED and the failure of a link are the branches of `laneSpared`; what the failure leaves is `linkFail_result`. -/
theorem linkFailuresReroute : Obligations.LinkFailuresReroute := by
  unfold Obligations.LinkFailuresReroute
  intro s l hl hc hup
  have hok : linkOk l = true := decide_eq_true hl
  have hfail : exec (.linkFail l) s = .next { s with dev := linkFail l s.dev } := run_ok _ s hok
  have hspare {k : Nat} (hk : k < 4) : exec (.laneSpared l k) s = .next { s with dev := laneSpared l k s.dev } :=
    run_ok _ s (by simp [Instr.wf, hok, hk])
  refine ⟨fun k hk hfree => ?_, fun k hk hused => ?_, fun hr _ _ => ?_⟩
  · rw [hspare hk, laneSpared, if_pos hup, if_pos hfree]
  · rw [hspare hk, hfail, laneSpared, if_pos hup, if_neg hused]
  · exact ⟨_, hfail, rfl, linkFail_result hl hc hup hr⟩

end Sys2Proof.Machine
end

section
/-! Flits: what a link that is UP makes of a flit, an acknowledgement and a replay while no packet waits at it, and O42. -/

namespace Sys2Proof.Machine

theorem Canonical.links_rising {d : Device} (h : Canonical d) : Rising d.links := by
  obtain ⟨-, -, -, -, -, -, -, hlinks, -⟩ := h
  exact hlinks

/-! ## A link's own record -/

theorem linkOf_setLink_same {l : Nat} (x : Link) {d : Device} (h : Rising d.links) : linkOf (setLink l x d) l = x :=
  tabGet_tabSet_same _ _ _ _ h

theorem setLink_setLink {l : Nat} (x y : Link) {d : Device} (h : Rising d.links) : setLink l y (setLink l x d) = setLink l y d := by
  simp only [setLink]
  rw [tabSet_tabSet _ _ _ _ _ h]

/-- A link at which no packet waits has none to send again. -/
theorem flushWaiting_setLink {l : Nat} {x : Link} {d : Device} (h : Rising d.links) (hw : x.waiting = []) :
    flushWaiting l (setLink l x d) = setLink l x d := by
  have hx : { x with waiting := [] } = x := by rw [← hw]
  rw [flushWaiting, linkOf_setLink_same x h, hw, List.foldl_nil, hx, setLink_setLink x x h]

/-- An acknowledgement leaves what waits (R418). -/
theorem ackUpTo_waiting (k : Nat) (x : Link) : (ackUpTo k x).waiting = x.waiting := by
  unfold ackUpTo
  split
  · rfl
  · dsimp only; split <;> rfl

/-! ## Receipt (R417 to R419, R428) -/

/-- A flit that has arrived is counted. -/
def flitCounted (l : Nat) (f : Flit) (d : Device) : Device :=
  perfOne 16 0x26 none 1 (fsat (oLinkFec l) fLinkFecCorrected f.corrected d)

theorem flitCounted_regsOnly (l : Nat) (f : Flit) (d : Device) : RegsOnly d (flitCounted l f d) :=
  (fsat_regsOnly _ _ _ d).trans (perfOne_regsOnly _ _ _ _ _)

theorem flitCounted_links (l : Nat) (f : Flit) (d : Device) : (flitCounted l f d).links = d.links := by
  obtain ⟨_, h⟩ := flitCounted_regsOnly l f d
  rw [h]

theorem ownDev_flitCounted {l : Nat} (f : Flit) (d : Device) : ownDev (flitCounted l f d) = ownDev d := by
  obtain ⟨_, _, _, -, hperf⟩ := perfOne_sent 16 0x26 none 1 (fsat (oLinkFec l) fLinkFecCorrected f.corrected d)
  have hreg : rget (flitCounted l f d) oDeviceId = rget d oDeviceId :=
    (hperf _ (by decide)).trans (rget_fput_ne _ _ _ _ _ (by unfold oLinkFec oDeviceId; omega))
  simp only [ownDev, fget, hreg]

/-- A device whose link has taken a flit in order. -/
def flitInOrder (l : Nat) (f : Flit) (d : Device) : Device :=
  setLink l (ackUpTo (flitAck f) { linkOf d l with rxNext := ((linkOf d l).rxNext + 1) % 4096 }) (flitCounted l f d)

section
variable {d : Device} {l : Nat} (f : Flit) (x : Circ) (hup : linkState d l = lkUp)
include hup

theorem flitReceive_failed (hf : flitFailed f = true) :
    flitReceive l f x d = emit (.flitNak l (((linkOf d l).rxNext + 4095) % 4096)) (fsat (oLinkErr l) fLinkErrCrcErrors 1 (flitCounted l f d)) := by
  have hlink : linkOf (flitCounted l f d) l = linkOf d l := congrArg (tabGet _ l) (flitCounted_links l f d)
  simp only [flitCounted] at hlink
  simp only [flitReceive, hup, ne_eq, not_true_eq_false, if_false, hf, if_true, hlink, flitCounted]

theorem flitReceive_dropped (hf : flitFailed f = false) (hs : flitLseq f ≠ (linkOf d l).rxNext) :
    flitReceive l f x d = flitCounted l f d := by
  have hlink : linkOf (flitCounted l f d) l = linkOf d l := congrArg (tabGet _ l) (flitCounted_links l f d)
  simp only [flitCounted] at hlink
  simp only [flitReceive, hup, ne_eq, not_true_eq_false, if_false, hf, Bool.false_eq_true, hlink, hs, not_false_eq_true, if_true, flitCounted]

theorem flitReceive_inOrder (hc : Canonical d) (hw : (linkOf d l).waiting = []) (hf : flitFailed f = false)
    (hs : flitLseq f = (linkOf d l).rxNext) (hn : flitNakBit f = false) :
    flitReceive l f x d = flitTake l f x (flitInOrder l f d) := by
  have hlink : linkOf (flitCounted l f d) l = linkOf d l := congrArg (tabGet _ l) (flitCounted_links l f d)
  have hrise : Rising (flitCounted l f d).links := by rw [flitCounted_links]; exact hc.links_rising
  have hflush : flushWaiting l (flitInOrder l f d) = flitInOrder l f d := flushWaiting_setLink hrise (by rw [ackUpTo_waiting]; exact hw)
  simp only [flitInOrder, flitCounted] at hlink hflush
  simp only [flitReceive, hup, ne_eq, not_true_eq_false, if_false, hf, Bool.false_eq_true, hlink, hs, hn, hflush, flitCounted, flitInOrder]

end

/-- An IDLE flit gives the credits. -/
theorem flitTake_idle {l : Nat} {f : Flit} {x : Circ} {y : Link} {d : Device} (h : Rising d.links) (hw : y.waiting = [])
    (ht : flitType f = 0) : flitTake l f x (setLink l y d) = setLink l { y with noCredit := f.noCredit } d := by
  simp only [flitTake, ht, linkOf_setLink_same y h, setLink_setLink y _ h]
  exact flushWaiting_setLink h hw

/-- A flit that neither is IDLE nor ends a packet brings nothing else. -/
theorem flitTake_part {l : Nat} {f : Flit} (x : Circ) (d : Device) (ht : flitType f ≠ 0) (h : flitLast f = false ∨ f.load = none) :
    flitTake l f x d = d := by
  unfold flitTake
  have hend {y : Payload} (h1 : flitLast f = true) (h2 : f.load = some y) : False := by
    rcases h with h | h
    · exact Bool.false_ne_true (h.symm.trans h1)
    · cases h.symm.trans h2
  split
  next h0 => exact absurd h0 ht
  next => rfl
  next h1 h2 => exact (hend h1 h2).elim
  next h1 h2 => exact (hend h1 h2).elim
  next => rfl

/-- The last flit of a packet hands it over. -/
theorem flitTake_last {l : Nat} {f : Flit} (x : Circ) (d : Device) {load : Payload} (ht : flitType f = 1) (hl : flitLast f = true)
    (hload : f.load = some load) (hdesc : ∀ z, load ≠ .desc z) : flitTake l f x d = arrived (flitPacket f load) x d := by
  unfold flitTake
  rw [ht, hl, hload]
  cases load with
  | desc z => exact absurd rfl (hdesc z)
  | _ => rfl

theorem arrived_here {p : Packet} (x : Circ) {d : Device} (hd : p.dst = ownDev d) (hdesc : ∀ z, p.load ≠ .desc z) :
    arrived p x d = remotePacket p x d := by
  rw [arrived, if_pos hd]
  split
  next z hz => exact absurd hz (hdesc z)
  next => rfl

/-- A packet that a flit's header names is well formed (R417). -/
theorem flitPacket_wf (f : Flit) (load : Payload) (c : Circ) : (Instr.remotePacket (flitPacket f load) c).wf = true := by
  have h1 : (flitPacket f load).src < 4096 := bits_lt 45 34 _
  have h2 : (flitPacket f load).dst < 4096 := bits_lt 57 46 _
  have h3 : (flitPacket f load).part < 64 := bits_lt 63 58 _
  simp only [Instr.wf, devOk, partOk, h1, h2, h3, decide_true, Bool.and_self]

/-! ## Acknowledgement and replay (R418, R434) -/

theorem nak_all {l k : Nat} {d : Device} (hc : Canonical d) (hup : linkState d l = lkUp) (hw : (linkOf d l).waiting = [])
    (hr : (ackUpTo k (linkOf d l)).replay = []) : nak l k d = setLink l (ackUpTo k (linkOf d l)) d := by
  rw [nak, if_pos hup]
  simp only [linkOf_setLink_same _ hc.links_rising, hr, if_true]
  exact flushWaiting_setLink hc.links_rising (by rw [ackUpTo_waiting]; exact hw)

theorem replayTimeout_replays {l : Nat} {d : Device} {e : Nat × Nat × Packet} {r : List (Nat × Nat × Packet)} (hup : linkState d l = lkUp)
    (hr : (linkOf d l).replay = e :: r) (ht : (linkOf d l).tries < 8) :
    replayTimeout l d = (e :: r).foldl (fun d e => sendFlits l e d)
      (emit (.flitReplay l e.1) (fsat (oLinkErr l) fLinkErrReplays 1 (setLink l { linkOf d l with tries := (linkOf d l).tries + 1 } d))) := by
  have hne : (linkOf d l).replay ≠ [] := by rw [hr]; exact List.cons_ne_nil _ _
  rw [replayTimeout, if_pos ⟨hup, hne⟩, if_neg (Nat.not_le.mpr ht)]
  simp only [replayFrom, hr]

theorem replayTimeout_fails {l : Nat} {d : Device} (hup : linkState d l = lkUp) (hr : (linkOf d l).replay ≠ []) (ht : 8 ≤ (linkOf d l).tries) :
    replayTimeout l d = linkFail l d := by rw [replayTimeout, if_pos ⟨hup, hr⟩, if_pos ht]

/-- Flits sent leave the device with their headers, and change nothing else but a counter. -/
theorem sendFlits_result (d : Device) (l q n : Nat) (p : Packet) :
    let ack := ((linkOf d l).rxNext + 4095) % 4096
    (sendFlits l (q, n, p) d).out = d.out ++
      [.packet l p ((List.range n).map fun k => header p ((q + k) % 4096) ack false (decide (k + 1 = n)))] ∧
    (sendFlits l (q, n, p) d).mem = d.mem ∧ (sendFlits l (q, n, p) d).cmds = d.cmds ∧ (sendFlits l (q, n, p) d).links = d.links := by
  obtain ⟨r, hr⟩ := perfOne_regsOnly 16 0x25 (some p.part) n (emit (.packet l p ((List.range n).map fun k =>
    header p ((q + k) % 4096) (((linkOf d l).rxNext + 4095) % 4096) false (decide (k + 1 = n)))) d)
  simp only [sendFlits, hr]
  exact ⟨rfl, rfl, rfl, rfl⟩

/-- Settles O42: what a flit makes of the link is `flitReceive_failed`, `flitReceive_dropped` or `flitReceive_inOrder`, what it carries
the lemmas on `flitTake` above; acknowledgements and replays have their own. -/
theorem flitsAcknowledged : Obligations.FlitsAcknowledged := by
  unfold Obligations.FlitsAcknowledged
  refine ⟨fun s l hl hc hup hw => ⟨fun f c hp => ?_, fun k hk hr => ?_, fun e r hr ht => ?_, fun hr ht => ?_⟩, sendFlits_result⟩
  · have hexec : exec (.flitReceive l f c) s = .next { s with dev := flitReceive l f c s.dev } :=
      run_ok _ s (by simp [Instr.wf, linkOk, hl, hp])
    refine ⟨fun hf => ?_, fun hf hs => ?_, fun hf hs hn => ?_⟩
    · rw [hexec, flitReceive_failed f c hup hf]; rfl
    · rw [hexec, flitReceive_dropped f c hup hf hs]; rfl
    · have hrise : Rising (flitCounted l f s.dev).links := by rw [flitCounted_links]; exact hc.links_rising
      have hown : ownDev (flitInOrder l f s.dev) = ownDev s.dev := ownDev_flitCounted f s.dev
      rw [hexec, flitReceive_inOrder f c hup hc hw hf hs hn]
      refine ⟨fun ht => ?_, fun ht h => ?_, fun load ht hlast hload hdesc => ⟨fun hd => ?_, fun hd => ?_⟩⟩
      · rw [flitInOrder, flitTake_idle hrise (by rw [ackUpTo_waiting]; exact hw) ht]; rfl
      · rw [flitTake_part c _ ht h]; rfl
      · rw [flitTake_last c _ ht hlast hload hdesc, arrived_here c (hd.trans hown.symm) hdesc]
        exact (run_ok (remotePacket (flitPacket f load) c) { s with dev := flitInOrder l f s.dev } (flitPacket_wf f load c)).symm
      · rw [flitTake_last c _ ht hlast hload hdesc, arrived, if_neg fun h => hd (h.trans hown)]; rfl
  · exact exec_next rfl (by simp [Instr.wf, linkOk, hl, hk]) (nak_all hc hup hw hr)
  · exact exec_next rfl (decide_eq_true hl) (replayTimeout_replays hup hr ht)
  · have hexec : exec (.replayTimeout l) s = .next { s with dev := replayTimeout l s.dev } := run_ok _ s (decide_eq_true hl)
    have hfail : exec (.linkFail l) s = .next { s with dev := linkFail l s.dev } := run_ok _ s (decide_eq_true hl)
    rw [hexec, hfail, replayTimeout_fails hup hr ht]

end Sys2Proof.Machine
end

section
/-! Collectives: DESCs and their timeout (O19), what the checks let pass, and the bytes apart from DST. -/

namespace Sys2Proof.Machine

/-! ## DESCs and the timeout (R444, R445) -/

theorem collectiveTimeout_ends {d : Device} {id : Nat} {c : Cmd} (hr : Runs d id (opOf c) c) (hcoll : isColl (opOf c) = true)
    (ht : cTimeout c ≠ 0) (hk : collCheck d c = none) (hn : collReady d c = false) :
    collectiveTimeout id d = collEnd c { status := stRemote } d := by
  simp only [collectiveTimeout, runningAs_some hr hcoll, if_neg ht, hk, hn, Bool.false_eq_true, if_false]

theorem descReceive_quiet {d : Device} {peer : Nat} (x : Desc) (hp : peer ≠ ownSlot d) (hr : runningColls d = []) :
    descReceive peer x d =
      { d with coll := { d.coll with sent := d.coll.sent.erase (peer, x.collId), descs := d.coll.descs ++ [(peer, x)] } } := by
  have hnone (y : Coll) : runningColls { d with coll := y } = [] := hr
  simp only [descReceive, if_neg hp, hnone, List.foldl_nil]

/-- Settles O19: the timeout ends the collective with REMOTE, which is no missed deadline; a DESC that no collective waits for is held. -/
theorem descriptorsAndTimeout : Obligations.DescriptorsAndTimeout := by
  unfold Obligations.DescriptorsAndTimeout
  refine ⟨fun s id c hr hcoll ht hk hn => ?_, fun s peer x hp hne hr => ?_⟩
  · refine exec_next rfl rfl ((collectiveTimeout_ends hr hcoll ht hk hn).trans ?_)
    rw [collEnd, endCmd_plain (by decide)]
    rfl
  · exact exec_next rfl (decide_eq_true hp) (descReceive_quiet x hne hr)

/-! ## What the checks of a collective let pass (R40, R42, R263, R398, R443) -/

theorem collCheck_passes {d : Device} {c : Cmd} (h : collCheck d c = none) : collBad d c = false ∧ collPerm d c = false := by
  unfold collCheck at h
  split at h
  · cases h
  next hb =>
    split at h
    · cases h
    next hp => exact ⟨eq_false_of_ne_true hb, eq_false_of_ne_true hp⟩

/-- What the MALFORMED checks say of the target, of the bytes, and of a BARRIER. -/
theorem collBad_false {d : Device} {c : Cmd} (h : collBad d c = false) :
    levelOf c = 4 ∧ cBytes c % 32 = 0 ∧ (isReduce c = false → isBcast c = false → cBytes c = 0) := by
  simp only [collBad, Bool.or_eq_false_iff] at h
  obtain ⟨⟨⟨⟨⟨⟨⟨⟨⟨⟨hhead, hdom⟩, -⟩, -⟩, -⟩, -⟩, -⟩, hkind⟩, hbytes⟩, -⟩, -⟩ := h
  have hscope : domainOf c = true := by simpa using hdom
  refine ⟨?_, by simpa using hbytes, fun hr hb => ?_⟩
  · simp only [headBad, hscope, Bool.or_eq_false_iff, Bool.true_and] at hhead
    obtain ⟨⟨-, -, hlevel⟩, -⟩ := hhead
    simpa using hlevel
  · simp only [hr, hb, Bool.false_eq_true, if_false, Bool.or_eq_false_iff] at hkind
    have hword : wordAt c.words 10 = 0 := by
      simpa using List.any_eq_false.mp hkind.1 4 (List.mem_range.mpr (by decide))
    simp [cBytes, cf, hword, bits]

/-- A command of level 4 whose bands are its partition's is of a partition of the device. -/
theorem part_of_level4 {d : Device} {c : Cmd} (hl : levelOf c = 4) (hp : collPerm d c = false) : c.part < 64 := by
  simp only [collPerm, headPerm, Bool.or_eq_false_iff] at hp
  obtain ⟨⟨⟨⟨-, hbands⟩, -⟩, -⟩, -⟩ := hp
  have hlevel : bits 15 13 (targetOf c) = 4 := hl
  have hband : 0 ∈ motifBands (targetOf c) := by simp [motifBands, motifArrays, hlevel]
  have hown : bandOwner d 0 = c.part := by simpa using List.any_eq_false.mp hbands 0 hband
  exact hown ▸ bits_lt 5 0 _

/-! ## Where DST lies (R263, R398 to R403) -/

/-- The place of an address of HBM where no region is enabled and no page retired (R402). -/
def plainKey (l : Nat) : Nat := l / 4096 % 6 * 2 ^ 37 + (l / 4096 / 6 * 4096 + l % 4096)

theorem memKey_plain {d : Device} (h : PlainHbm d) {l : Nat} (hl : isHbm l = true) : memKey d l = plainKey l := by
  obtain ⟨hr, hp⟩ := h
  simp only [memKey, hl, if_true, hbmMap, hr, List.find?_nil, stackKey, hp, plainKey]

theorem plainKey_inj {a b : Nat} (ha : isHbm a = true) (hb : isHbm b = true) (h : plainKey a = plainKey b) : a = b := by
  have h1 : a < 0x6000000000 := of_decide_eq_true ha
  have h2 : b < 0x6000000000 := of_decide_eq_true hb
  simp only [plainKey] at h
  omega

/-- A mapped address is of HBM or of the scratch aperture (R397, R399). -/
theorem mapped_cases {l : Nat} (h : mapped l = true) : isHbm l = true ∨ 2 ^ 40 ≤ l := by
  rcases Bool.or_eq_true_iff.mp h with h | h
  · exact .inl h
  · refine .inr ?_
    unfold scratchAt at h
    split at h
    next hc =>
      simp only [Bool.and_eq_true, decide_eq_true_eq] at hc
      obtain ⟨⟨⟨-, hc⟩, -⟩, -⟩ := hc
      simp only [bits] at hc
      omega
    next => cases h

/-- n bytes from a local address on lie in the scratch aperture, or in HBM whose addresses each have a place of their own. -/
def RangeApart (d : Device) (l n : Nat) : Prop :=
  2 ^ 40 ≤ l ∨ (l + n ≤ 0x6000000000 ∧ ∀ k, isHbm k = true → memKey d k = plainKey k)

theorem RangeApart.congr {d e : Device} {l n : Nat} (h : RangeApart d l n) (hk : ∀ k, memKey e k = memKey d k) : RangeApart e l n :=
  h.imp_right fun ⟨h1, h2⟩ => ⟨h1, fun k hh => (hk k).trans (h2 k hh)⟩

/-- What a store in HBM leaves of every byte of memory. -/
theorem byteAt_storeBytes_hbm {l : Nat} (bs : List Byte) {d : Device} (hl : l + bs.length ≤ 0x6000000000)
    (hk : ∀ k, isHbm k = true → memKey d k = plainKey k) (hw : Memory.wf d) {k : Nat} (hm : isHbm k = true ∨ 2 ^ 40 ≤ k) :
    byteAt (storeBytes l bs d) k = if l ≤ k ∧ k < l + bs.length then bs.getD (k - l) 0 else byteAt d k := by
  induction bs generalizing l d with
  | nil => rw [if_neg (by simp)]; rfl
  | cons b r ih =>
    rw [List.length_cons] at hl
    have hhbm : isHbm l = true := decide_eq_true (by omega)
    rw [storeBytes, ih (d := memSet (memKey d l) b d) (by omega) (fun k => hk k) (memSet_wf _ b d hw), List.length_cons]
    by_cases he : k = l
    · subst he
      rw [if_neg (by omega), if_pos (by omega), Nat.sub_self, List.getD_cons_zero]
      exact tabGet_tabSet_same _ _ _ _ hw.1
    · have hne : memKey d k ≠ memKey d l := by
        rw [hk l hhbm]
        rcases hm with h | h
        · rw [hk k h]
          exact fun e => he (plainKey_inj h hhbm e)
        · have := hk l hhbm ▸ memKey_hbm d hhbm
          rw [memKey_scratch d h]
          omega
      have hold : byteAt (memSet (memKey d l) b d) k = byteAt d k := tabGet_tabSet_ne _ _ _ _ _ _ hne
      by_cases hin : l + 1 ≤ k ∧ k < l + 1 + r.length
      · obtain ⟨j, rfl⟩ : ∃ j, k = l + 1 + j := ⟨k - (l + 1), by omega⟩
        rw [if_pos hin, if_pos (by omega), Nat.add_sub_cancel_left, show l + 1 + j - l = j + 1 by omega, List.getD_cons_succ]
      · rw [if_neg hin, if_neg (by omega), hold]

/-- What a store within such a range leaves of every byte. -/
theorem RangeApart.byteAt_storeBytes {d : Device} {lo n l : Nat} {bs : List Byte} (h : RangeApart d lo n) (h1 : lo ≤ l)
    (h2 : l + bs.length ≤ lo + n) (hw : Memory.wf d) {k : Nat} (hm : isHbm k = true ∨ 2 ^ 40 ≤ k) :
    byteAt (storeBytes l bs d) k = if l ≤ k ∧ k < l + bs.length then bs.getD (k - l) 0 else byteAt d k := by
  rcases h with h | ⟨h, hk⟩
  · exact Machine.byteAt_storeBytes bs (Nat.le_trans h h1) hw k
  · exact byteAt_storeBytes_hbm bs (by omega) hk hw hm

/-- Bytes stored within such a range are read back. -/
theorem RangeApart.bytesAt_storeBytes {d : Device} {lo n l : Nat} {bs : List Byte} (h : RangeApart d lo n) (h1 : lo ≤ l)
    (h2 : l + bs.length ≤ lo + n) (hw : Memory.wf d) : bytesAt (storeBytes l bs d) l bs.length = bs := by
  refine List.ext_getElem (by simp [bytesAt]) fun k h3 h4 => ?_
  have hm : isHbm (l + k) = true ∨ 2 ^ 40 ≤ l + k := by
    rcases h with h | ⟨h, -⟩
    · exact .inr (by omega)
    · exact .inl (decide_eq_true (by omega))
  simp only [bytesAt, List.getElem_map, List.getElem_range]
  rw [h.byteAt_storeBytes h1 h2 hw hm, if_pos (by omega), Nat.add_sub_cancel_left, ← List.getElem_eq_getD]

/-- The DST of a collective that writes it, as its checks let it pass. -/
theorem dst_rangeApart {d : Device} {c : Cmd} (hp : collPerm d c = false) (hw : writesDst d c = true)
    (hn : 0 < cBytes c) (hh : isHbm (cDst c) = false ∨ PlainHbm d) : RangeApart d (cDst c) (cBytes c) := by
  have hside : sidePerm d c.part (cDst c : Int) (cBytes c) = false := by
    simp only [collPerm, Bool.or_eq_false_iff, Bool.and_eq_false_iff] at hp
    have hany := hp.2.resolve_left (by simp; omega)
    exact eq_false_of_ne_true (List.any_eq_false.mp hany (cDst c) (by simp [collSides, hw]))
  unfold sidePerm at hside
  split at hside
  · cases hside
  · rw [Int.toNat_natCast] at hside
    split at hside
    next hhbm =>
      have hend : isHbm (cDst c + cBytes c - 1) = true := by simpa using hside
      have : cDst c + cBytes c - 1 < 0x6000000000 := of_decide_eq_true hend
      rcases hh with hh | hh
      · rw [hh] at hhbm; cases hhbm
      · exact .inr ⟨by omega, fun k hk => memKey_plain hh hk⟩
    next hhbm =>
      split at hside
      next s k off hs =>
        have hm : mapped (cDst c) = true := by rw [mapped, hs]; simp
        exact .inl ((mapped_cases hm).resolve_left hhbm)
      next => cases hside

end Sys2Proof.Machine
end

section
/-! A chunk of a collective: what it leaves of the device, at each kind of member. -/

namespace Sys2Proof.Machine

/-! ## Packets sent and counters advanced (R428, R521) -/

/-- e is d but for counters, links, packet numbers and what has left. -/
structure Handed (d e : Device) : Prop where
  fields : ∃ r l q o, e = { d with regs := r, links := l, rem := q, out := o }
  low : ∀ k < 0x10000, rget e k = rget d k
  hbm : hbmRegs e = hbmRegs d

theorem Handed.refl (d : Device) : Handed d d := ⟨⟨_, _, _, _, rfl⟩, fun _ _ => rfl, rfl⟩

theorem Handed.trans {d e f : Device} (h : Handed d e) (k : Handed e f) : Handed d f := by
  obtain ⟨⟨_, _, _, _, rfl⟩, hl, hh⟩ := h
  obtain ⟨⟨r, l, q, o, rfl⟩, kl, kh⟩ := k
  exact ⟨⟨r, l, q, o, rfl⟩, fun k hk => (kl k hk).trans (hl k hk), kh.trans hh⟩

theorem Handed.ite {b : Prop} [Decidable b] {d e f : Device} (h : Handed d e) (k : Handed d f) : Handed d (if b then e else f) := by
  split <;> assumption

theorem Handed.foldl {α : Type} {f : Device → α → Device} (hf : ∀ d x, Handed d (f d x)) (l : List α) (d : Device) :
    Handed d (l.foldl f d) := by
  induction l generalizing d with
  | nil => exact .refl d
  | cons x r ih => exact (hf d x).trans (ih _)

theorem perfOne_handed (u ev : Nat) (part : Option Nat) (k : Nat) (d : Device) : Handed d (perfOne u ev part k d) := by
  obtain ⟨⟨_, hr⟩, hh⟩ := perfOne_counted u ev part k d
  obtain ⟨_, _, _, -, hl⟩ := perfOne_sent u ev part k d
  exact ⟨⟨_, _, _, _, hr⟩, hl, hh⟩

theorem hbmRead_handed (l n : Nat) (part : Option Nat) (d : Device) : Handed d (hbmRead l n part d) :=
  .ite (perfOne_handed _ _ _ _ d) (.refl d)

theorem hbmWrite_handed (l n : Nat) (part : Option Nat) (d : Device) : Handed d (hbmWrite l n part d) :=
  .ite (perfOne_handed _ _ _ _ d) (.refl d)

theorem netCount_handed (part s t n : Nat) (d : Device) : Handed d (netCount part s t n d) := by
  have hone {b : Prop} [Decidable b] (u ev k : Nat) (d : Device) : Handed d (if b then perfOne u ev (some part) k d else d) :=
    .ite (perfOne_handed _ _ _ _ d) (.refl d)
  exact ((hone _ _ _ d).trans (hone _ _ _ _)).trans (hone _ _ _ _)

theorem setLink_handed (l : Nat) (x : Link) (d : Device) : Handed d (setLink l x d) := ⟨⟨_, _, _, _, rfl⟩, fun _ _ => rfl, rfl⟩
theorem emit_handed (o : Out) (d : Device) : Handed d (emit o d) := ⟨⟨_, _, _, _, rfl⟩, fun _ _ => rfl, rfl⟩

theorem transmit_handed (l : Nat) (p : Packet) (d : Device) : Handed d (transmit l p d) :=
  .ite (((setLink_handed _ _ d).trans (emit_handed _ _)).trans (perfOne_handed _ _ _ _ _)) (setLink_handed _ _ d)

theorem routeSend_handed (p : Packet) (d : Device) : Handed d (routeSend p d) := by
  unfold routeSend
  split
  · exact transmit_handed _ _ d
  · split
    · exact setLink_handed _ _ d
    · exact .refl d

theorem sendPacket_handed (dst part : Nat) (resp : Bool) (load : Payload) (d : Device) : Handed d (sendPacket dst part resp load d) := by
  have h (q : Remote) : Handed d { d with rem := q } := ⟨⟨_, _, _, _, rfl⟩, fun _ _ => rfl, rfl⟩
  unfold sendPacket
  exact (h _).trans (routeSend_handed _ _)

theorem sendChunk_handed (c : Cmd) (ms : List Nat) (bs : List Byte) (d : Device) : Handed d (sendChunk c ms bs d) :=
  .foldl (fun d _ => sendPacket_handed _ _ _ _ d) ms d

/-! ## What does not depend on the work -/

/-- The registers that name a partition's members, and what members have handed over, are in e as in d. -/
structure DomainKept (d e : Device) : Prop where
  low : ∀ k < 0x10000, rget e k = rget d k
  coll : e.coll = d.coll

theorem Handed.domain {d e : Device} (h : Handed d e) : DomainKept d e := by
  obtain ⟨⟨_, _, _, _, rfl⟩, hl, -⟩ := h
  exact ⟨hl, rfl⟩

section
variable {d e : Device} (h : DomainKept d e)
include h

theorem DomainKept.fget {o : Nat} (ho : o < 0x10000) (f : Fld) : fget e o f = fget d o f := by rw [Machine.fget, h.low o ho, Machine.fget]

theorem DomainKept.ownSlot : ownSlot e = ownSlot d := h.fget (by decide) _

theorem DomainKept.slotDev (t : Nat) : slotDev e t = slotDev d t := by
  simp only [Machine.slotDev, ownDev, h.fget (show oDeviceId < 0x10000 by decide)]

theorem DomainKept.members {p : Nat} (hp : p < 64) : members e p = members d p := by
  have hreg (f : Fld) : Machine.fget e (oPartCtrl p) f = Machine.fget d (oPartCtrl p) f := h.fget (by unfold oPartCtrl; omega) f
  rw [Machine.members, hreg, Machine.members]

theorem DomainKept.arrivedFrom (c : Cmd) (m : Nat) : arrivedFrom e c m = arrivedFrom d c m := by
  rw [Machine.arrivedFrom, inboxOf, h.slotDev, h.coll, Machine.arrivedFrom, inboxOf]

theorem DomainKept.chunkFrom (c : Cmd) (m k : Nat) : chunkFrom e c m k = chunkFrom d c m k := by
  rw [Machine.chunkFrom, h.arrivedFrom, Machine.chunkFrom]

theorem DomainKept.writesDst {c : Cmd} (hp : c.part < 64) : writesDst e c = writesDst d c := by
  rw [Machine.writesDst, isLastMember, h.members hp, h.ownSlot, Machine.writesDst, isLastMember]

variable {c : Cmd} (hp : c.part < 64)
include hp

theorem DomainKept.others : others e c = others d c := by rw [Machine.others, h.members hp, h.ownSlot, Machine.others]

theorem DomainKept.isLastMember : isLastMember e c = isLastMember d c := by
  rw [Machine.isLastMember, h.members hp, h.ownSlot, Machine.isLastMember]

theorem DomainKept.collPlace : collPlace e c = collPlace d c := by rw [Machine.collPlace, h.members hp, h.ownSlot, Machine.collPlace]

theorem DomainKept.takesFrom : takesFrom e c = takesFrom d c := by
  rw [Machine.takesFrom, h.members hp, h.ownSlot, h.collPlace hp, Machine.takesFrom]

theorem DomainKept.awaitsResult : awaitsResult e c = awaitsResult d c := by
  rw [Machine.awaitsResult, h.isLastMember hp, Machine.awaitsResult]

end

/-! ## A chunk (R447, R448) -/

/-- Where an address lies depends on the registers of HBM alone. -/
theorem memKey_of_hbmRegs {d e : Device} (h : hbmRegs e = hbmRegs d) (l : Nat) : memKey e l = memKey d l := by
  rw [← memKey_hbmRegs e, ← memKey_hbmRegs d, h]
  rfl

/-- e is d after chunks of a collective: counters, links, packet numbers, what has left, and the bytes of a DST that the member
writes. -/
structure Chunked (c : Cmd) (d e : Device) : Prop where
  fields : ∃ r m l q o k, e = { d with regs := r, mem := m, links := l, rem := q, out := o, cmds := k }
  low : ∀ k < 0x10000, rget e k = rget d k
  hbm : hbmRegs e = hbmRegs d
  wf : Memory.wf d → Memory.wf e
  apart : Memory.wf d → RangeApart d (cDst c) (cBytes c) → ∀ k, mapped k = true → (k < cDst c ∨ cDst c + cBytes c ≤ k) → SameByte d e k
  unwritten : writesDst d c = false → e.mem = d.mem

theorem Handed.keys {d e : Device} (h : Handed d e) (l : Nat) : memKey e l = memKey d l := memKey_of_hbmRegs h.hbm l

theorem Handed.bytes {d e : Device} (h : Handed d e) (l : Nat) : byteAt e l = byteAt d l := by
  rw [byteAt, h.keys]
  obtain ⟨⟨_, _, _, _, rfl⟩, -⟩ := h
  rfl

theorem Handed.cmds {d e : Device} (h : Handed d e) : e.cmds = d.cmds := by obtain ⟨⟨_, _, _, _, rfl⟩, -⟩ := h; rfl
theorem Handed.mem {d e : Device} (h : Handed d e) : e.mem = d.mem := by obtain ⟨⟨_, _, _, _, rfl⟩, -⟩ := h; rfl
theorem Handed.merr {d e : Device} (h : Handed d e) : e.merr = d.merr := by obtain ⟨⟨_, _, _, _, rfl⟩, -⟩ := h; rfl

theorem Handed.chunked {d e : Device} (h : Handed d e) (c : Cmd) : Chunked c d e := by
  have hb := h.bytes
  obtain ⟨⟨_, _, _, _, rfl⟩, hl, hh⟩ := h
  exact ⟨⟨_, _, _, _, _, _, rfl⟩, hl, hh, id, fun _ _ k _ _ => hb k, fun _ => rfl⟩

theorem Chunked.domain {c : Cmd} {d e : Device} (h : Chunked c d e) : DomainKept d e := by
  obtain ⟨⟨_, _, _, _, _, _, rfl⟩, hl, -⟩ := h
  exact ⟨hl, rfl⟩

theorem Chunked.keys {c : Cmd} {d e : Device} (h : Chunked c d e) (l : Nat) : memKey e l = memKey d l := memKey_of_hbmRegs h.hbm l

theorem Chunked.merr {c : Cmd} {d e : Device} (h : Chunked c d e) : e.merr = d.merr := by obtain ⟨⟨_, _, _, _, _, _, rfl⟩, -⟩ := h; rfl

theorem Chunked.trans {c : Cmd} {d e f : Device} (hp : c.part < 64) (h : Chunked c d e) (k : Chunked c e f) : Chunked c d f where
  fields := by
    obtain ⟨_, _, _, _, _, _, rfl⟩ := h.fields
    obtain ⟨r, m, l, q, o, x, rfl⟩ := k.fields
    exact ⟨r, m, l, q, o, x, rfl⟩
  low j hj := (k.low j hj).trans (h.low j hj)
  hbm := k.hbm.trans h.hbm
  wf := k.wf ∘ h.wf
  apart hw ha j hm ho := (k.apart (h.wf hw) (ha.congr h.keys) j hm ho).trans (h.apart hw ha j hm ho)
  unwritten hw := (k.unwritten ((h.domain.writesDst hp).trans hw)).trans (h.unwritten hw)

/-- Commands are no part of what chunks leave. -/
theorem Chunked.setCmd {c x : Cmd} {d e : Device} (h : Chunked c d e) : Chunked c d (setCmd x e) := by
  obtain ⟨⟨r, m, l, q, o, k, rfl⟩, hl, hh, hw, ha, hu⟩ := h
  exact ⟨⟨r, m, l, q, o, _, rfl⟩, hl, hh, hw, ha, hu⟩

section
variable {d : Device} {c : Cmd} (hpoi : d.merr.poison = []) (hpar : d.merr.parity = [])
include hpoi hpar

/-- A chunk of SRC is read without a failure. -/
theorem srcChunk_read (k : Nat) :
    srcChunk d c k = (bytesAt d (cSrc c + (chunkAt c k).1) (chunkAt c k).2, 0,
      hbmRead (cSrc c + (chunkAt c k).1) (chunkAt c k).2 (some c.part)
        (netCount c.part (dieAt (cSrc c + (chunkAt c k).1)) 4 (chunkAt c k).2 d)) := by
  simp only [srcChunk, readFail_none hpoi hpar]

/-- A chunk is stored at DST. -/
theorem dstChunk_stores (k : Nat) (bs : List Byte) :
    ∃ e, Handed d e ∧ dstChunk c k bs d = storeBytes (cDst c + 65536 * k) bs e := by
  have h := (netCount_handed c.part 4 (dieAt (cDst c + 65536 * k)) bs.length d).trans
    (hbmWrite_handed (cDst c + 65536 * k) bs.length (some c.part) _)
  exact ⟨_, h, put_plain (by rw [h.merr]; exact hpoi) (by rw [h.merr]; exact hpar) _ _⟩

theorem dstChunk_chunked {k : Nat} {bs : List Byte} (hw : writesDst d c = true) (hk : 65536 * k + bs.length ≤ cBytes c) :
    Chunked c d (dstChunk c k bs d) ∧ (dstChunk c k bs d).cmds = d.cmds := by
  obtain ⟨e, he, hs⟩ := dstChunk_stores hpoi hpar (c := c) k bs
  have hkeys := he.keys
  have hbytes := he.bytes
  obtain ⟨m, hm⟩ := storeBytes_frame (cDst c + 65536 * k) bs e
  have hwf := storeBytes_wf (cDst c + 65536 * k) bs e
  have hout (hw : Memory.wf e) (ha : RangeApart e (cDst c) (cBytes c)) (j : Nat) (hj : mapped j = true)
      (ho : j < cDst c ∨ cDst c + cBytes c ≤ j) : byteAt (storeBytes (cDst c + 65536 * k) bs e) j = byteAt e j := by
    rw [ha.byteAt_storeBytes (by omega) (by omega) hw (mapped_cases hj), if_neg (by omega)]
  rw [hs]
  rw [hm] at hwf hout ⊢
  obtain ⟨⟨r, l, q, o, rfl⟩, hl, hh⟩ := he
  exact ⟨⟨⟨r, m, l, q, o, _, rfl⟩, hl, hh, hwf, fun h1 h2 j h3 h4 => (hout h1 (h2.congr hkeys) j h3 h4).trans (hbytes j),
    fun h => absurd (hw.symm.trans h) (by decide)⟩, rfl⟩

/-- A chunk stored at the start of DST is read back. -/
theorem dstChunk_bytes {bs : List Byte} (hn : bs.length = cBytes c) (hw : Memory.wf d) (ha : RangeApart d (cDst c) (cBytes c)) :
    bytesAt (dstChunk c 0 bs d) (cDst c) (cBytes c) = bs := by
  obtain ⟨e, he, hs⟩ := dstChunk_stores hpoi hpar (c := c) 0 bs
  have hwe : Memory.wf e := by rw [Memory.wf, he.mem]; exact hw
  rw [hs, ← hn]
  exact (ha.congr he.keys).bytesAt_storeBytes (Nat.le_refl _) (by omega) hwe

end

/-! ## A chunk at each kind of member (R447, R448) -/

theorem length_addChunk (c : Cmd) (a b : List Byte) : (addChunk c a b).length = a.length / 4 * 4 :=
  length_flatMap_range _ 4 _ fun _ => length_leBytes 4 _

/-- The bytes of chunk k of SRC. -/
def ownChunk (d : Device) (c : Cmd) (k : Nat) : List Byte := bytesAt d (cSrc c + (chunkAt c k).1) (chunkAt c k).2

/-- The device once chunk k of SRC has been read. -/
def srcRead (c : Cmd) (k : Nat) (d : Device) : Device :=
  hbmRead (cSrc c + (chunkAt c k).1) (chunkAt c k).2 (some c.part) (netCount c.part (dieAt (cSrc c + (chunkAt c k).1)) 4 (chunkAt c k).2 d)

/-- What a member of a CHAIN_REDUCE passes on of chunk k, with what the member before it sent. -/
def chunkSum (d : Device) (c : Cmd) (inc : List Byte) (k : Nat) : List Byte :=
  if collPlace d c = 0 then ownChunk d c k else addChunk c inc (ownChunk d c k)

theorem srcRead_handed (c : Cmd) (k : Nat) (d : Device) : Handed d (srcRead c k d) := (netCount_handed _ _ _ _ d).trans (hbmRead_handed _ _ _ _)

theorem length_chunkSum {d : Device} {c : Cmd} {inc : List Byte} {k : Nat} (h : inc.length ≤ (chunkAt c k).2) :
    (chunkSum d c inc k).length ≤ (chunkAt c k).2 := by
  unfold chunkSum
  split
  · simp [ownChunk, bytesAt]
  · rw [length_addChunk]; omega

section
variable {d : Device} {c : Cmd} (hpoi : d.merr.poison = []) (hpar : d.merr.parity = []) (hp : c.part < 64) (inc : List Byte) (k : Nat)

theorem workChunk_member (hb : isBcast c = true) (hr : cRoot c ≠ ownSlot d) : workChunk c inc k d = (dstChunk c k inc d, 0) :=
  if_pos ⟨hb, hr⟩

include hpoi hpar hp

theorem workChunk_root (hb : isBcast c = true) (hr : cRoot c = ownSlot d) :
    workChunk c inc k d = (sendChunk c (others d c) (ownChunk d c k) (srcRead c k d), 0) := by
  have ho := (srcRead_handed c k d).domain.others hp
  simp only [srcRead] at ho
  simp only [workChunk, hb, hr, srcChunk_read hpoi hpar, ho, ne_eq, not_true_eq_false, and_false, if_false, if_true, ownChunk, srcRead]

theorem workChunk_pass (hb : isBcast c = false) (hl : isLastMember d c = false) :
    workChunk c inc k d =
      (sendChunk c [(members d c.part).getD (collPlace d c + 1) 0] (chunkSum d c inc k) (srcRead c k d), 0) := by
  have hd := (srcRead_handed c k d).domain
  have h1 := hd.members hp
  have h2 := hd.collPlace hp
  have h3 := hd.isLastMember hp
  simp only [srcRead] at h1 h2 h3
  simp only [workChunk, hb, srcChunk_read hpoi hpar, h1, h2, h3, hl, ne_eq, not_true_eq_false, Bool.false_eq_true, false_and, if_false,
    chunkSum, ownChunk, srcRead]

theorem workChunk_last (hb : isBcast c = false) (hl : isLastMember d c = true) :
    ∃ f, Handed (dstChunk c k (chunkSum d c inc k) (srcRead c k d)) f ∧ workChunk c inc k d = (f, 0) := by
  have hd := (srcRead_handed c k d).domain
  have h2 := hd.collPlace hp
  have h3 := hd.isLastMember hp
  have hsend (e : Device) (bs : List Byte) : Handed e (if cAll c = 1 then sendChunk c (others e c) bs e else e) :=
    .ite (sendChunk_handed _ _ _ _) (.refl e)
  refine ⟨_, hsend _ (chunkSum d c inc k), ?_⟩
  simp only [srcRead] at h2 h3
  simp only [workChunk, hb, srcChunk_read hpoi hpar, h2, h3, hl, ne_eq, not_true_eq_false, Bool.false_eq_true, false_and, if_false,
    if_true, chunkSum, ownChunk, srcRead]

/-- A chunk of a collective is worked on without a failure, whatever the member is. -/
theorem workChunk_chunked (hop : isReduce c = true ∨ isBcast c = true) (hk : 65536 * k ≤ cBytes c) (hi : inc.length ≤ (chunkAt c k).2) :
    ∃ e, workChunk c inc k d = (e, 0) ∧ Chunked c d e ∧ e.cmds = d.cmds := by
  have hlen : (chunkAt c k).2 ≤ cBytes c - 65536 * k := Nat.min_le_right _ _
  have hsent (ms : List Nat) (bs : List Byte) : Handed d (sendChunk c ms bs (srcRead c k d)) :=
    (srcRead_handed c k d).trans (sendChunk_handed _ _ _ _)
  cases hb : isBcast c with
  | true =>
    by_cases hr : cRoot c = ownSlot d
    · exact ⟨_, workChunk_root hpoi hpar hp inc k hb hr, (hsent _ _).chunked c, (hsent _ _).cmds⟩
    · have hw : writesDst d c = true := by simp [writesDst, hb, hr]
      obtain ⟨h1, h2⟩ := dstChunk_chunked hpoi hpar (k := k) (bs := inc) hw (by omega)
      exact ⟨_, workChunk_member inc k hb hr, h1, h2⟩
  | false =>
    cases hl : isLastMember d c with
    | false => exact ⟨_, workChunk_pass hpoi hpar hp inc k hb hl, (hsent _ _).chunked c, (hsent _ _).cmds⟩
    | true =>
      have hread := srcRead_handed c k d
      have hred : isReduce c = true := hop.resolve_right (by rw [hb]; decide)
      have hw : writesDst (srcRead c k d) c = true := by rw [hread.domain.writesDst hp]; simp [writesDst, hred, hl]
      have hsum := length_chunkSum (d := d) hi
      obtain ⟨h1, h2⟩ := dstChunk_chunked (hread.merr ▸ hpoi) (hread.merr ▸ hpar) (k := k) (bs := chunkSum d c inc k) hw (by omega)
      obtain ⟨f, hf, he⟩ := workChunk_last hpoi hpar hp inc k hb hl
      exact ⟨f, he, ((hread.chunked c).trans hp h1).trans hp (hf.chunked c), (hf.cmds.trans h2).trans hread.cmds⟩

end

end Sys2Proof.Machine
end

section
/-! A collective's run to its end: O17 and O18. -/

namespace Sys2Proof.Machine

/-! ## The work to its end -/

/-- What a member hands over of chunk k. -/
def chunkOf (d : Device) (c : Cmd) (m k : Nat) : List Byte := ((arrivedFrom d c m).drop (chunkAt c k).1).take (chunkAt c k).2

/-- What this member takes for chunk k, once it has arrived. -/
def incoming (d : Device) (c : Cmd) (k : Nat) : List Byte := match takesFrom d c with | some m => chunkOf d c m k | none => []

/-- The command with so many chunks worked on and so many written. -/
def handedTo (c : Cmd) (p q : Nat) : Cmd := { c with passed := p, chunks := q }

theorem handedTo_id (c : Cmd) (p q : Nat) : (handedTo c p q).id = c.id := rfl

/-- A collective before its first chunk, with everything handed over and no memory error. -/
structure WorkReady (d : Device) (c : Cmd) : Prop where
  cmd : cmdOf d c.id = some c
  stop : c.stop = none
  throughput : fixedTime c = false
  poison : d.merr.poison = []
  parity : d.merr.parity = []
  part : c.part < 64
  start : c.passed = 0 ∧ c.chunks = 0
  taken : ∀ m, takesFrom d c = some m → cBytes c ≤ (arrivedFrom d c m).length
  result : awaitsResult d c = true → cBytes c ≤ (arrivedFrom d c ((members d c.part).getLastD 0)).length
  moves : 0 < cBytes c → isReduce c = true ∨ isBcast c = true

theorem lt_of_cChunks {c : Cmd} {j : Nat} (h : j < cChunks c) : 65536 * j < cBytes c := by
  unfold cChunks ceilDiv at h
  omega

theorem chunkFrom_arrived {d : Device} {c : Cmd} {m k : Nat} (h : cBytes c ≤ (arrivedFrom d c m).length) (hk : 65536 * k ≤ cBytes c) :
    chunkFrom d c m k = some (chunkOf d c m k) := by
  have hend : (chunkAt c k).1 + (chunkAt c k).2 ≤ (arrivedFrom d c m).length := by
    simp only [chunkAt]
    omega
  exact if_pos hend

theorem length_chunkOf (d : Device) (c : Cmd) (m k : Nat) : (chunkOf d c m k).length ≤ (chunkAt c k).2 := by
  rw [chunkOf, List.length_take]
  exact Nat.min_le_left _ _

theorem length_incoming (d : Device) (c : Cmd) (k : Nat) : (incoming d c k).length ≤ (chunkAt c k).2 := by
  unfold incoming
  split
  · exact length_chunkOf _ _ _ _
  · exact Nat.zero_le _

/-- One turn of the work: the bytes to take have arrived, and the chunk is worked on without a failure. -/
theorem workGo_step {e f : Device} {x : Cmd} {id n : Nat} {bs : List Byte} (hc : cmdOf e id = some x)
    (hbs : (takesFrom e x = none ∧ bs = []) ∨ ∃ m, takesFrom e x = some m ∧ chunkFrom e x m x.passed = some bs) (hn : x.passed < n)
    (hw : workChunk x bs x.passed e = (f, 0)) (i : Nat) :
    workGo id n (e, none) i =
      (setCmd { x with passed := x.passed + 1, chunks := if awaitsResult f x then x.chunks else x.passed + 1 } f, none) := by
  rcases hbs with ⟨ht, rfl⟩ | ⟨m, ht, hm⟩
  · simp only [workGo, hc, ht, if_pos hn, hw, if_true]
  · simp only [workGo, hc, ht, hm, if_pos hn, hw, if_true]

/-- One turn of the writing of the result. -/
theorem resultGo_step {e : Device} {x : Cmd} {id n : Nat} {bs : List Byte} (hc : cmdOf e id = some x) (ha : awaitsResult e x = true)
    (hn : x.chunks < n) (hbs : chunkFrom e x ((members e x.part).getLastD 0) x.chunks = some bs) (i : Nat) :
    resultGo id n e i = setCmd { x with chunks := x.chunks + 1 } (dstChunk x x.chunks bs e) := by
  simp only [resultGo, hc, ha, hn, and_self, if_true, hbs]

theorem resultGo_idle {e : Device} {x : Cmd} {id : Nat} (hc : cmdOf e id = some x) (ha : awaitsResult e x = false) (n i : Nat) :
    resultGo id n e i = e := by
  simp only [resultGo, hc, ha, Bool.false_eq_true, false_and, if_false]

theorem cmdOf_setCmd_of_cmds {d e : Device} {x y : Cmd} {id : Nat} (h : cmdOf d id = some y) (hi : x.id = id)
    (he : e.cmds = (setCmd x d).cmds) : cmdOf e id = some x := by
  subst hi
  rw [cmdOf, he]
  exact cmdOf_setCmd_same h

theorem setCmd_cmds_congr {d e : Device} {x y : Cmd} (hi : x.id = y.id) (he : e.cmds = (setCmd x d).cmds) :
    (setCmd y e).cmds = (setCmd y d).cmds := by
  have hset : (setCmd y e).cmds = (setCmd y (setCmd x d)).cmds := by simp only [setCmd] at he ⊢; rw [he]
  rw [hset, setCmd_setCmd hi]

/-- The command of a collective once j of its chunks have been worked on: chunks that await the last member's sum are not yet written. -/
def workedTo (d : Device) (c : Cmd) (j : Nat) : Cmd := handedTo c j (if awaitsResult d c then 0 else j)

section
variable {d : Device} {c : Cmd} (h : WorkReady d c)
include h

theorem workedTo_zero : workedTo d c 0 = c := by
  obtain ⟨hp, hq⟩ := h.start
  calc workedTo d c 0 = handedTo c c.passed c.chunks := by rw [workedTo, ite_self, hp, hq]
    _ = c := rfl

/-- The next chunk is worked on (R447, R448). -/
theorem workGo_works {e : Device} {j : Nat} (hn : j < cChunks c) (he : Chunked c d e) (hc : cmdOf e c.id = some (workedTo d c j)) (i : Nat) :
    ∃ f, workChunk c (incoming d c j) j e = (f, 0) ∧ Chunked c d f ∧ f.cmds = e.cmds ∧
      workGo c.id (cChunks c) (e, none) i = (setCmd (workedTo d c (j + 1)) f, none) := by
  have hj := lt_of_cChunks hn
  obtain ⟨f, hf, hwork, hcmds⟩ := workChunk_chunked (d := e) (he.merr ▸ h.poison) (he.merr ▸ h.parity) h.part (incoming d c j) j
    (h.moves (by omega)) (by omega) (length_incoming d c j)
  have hfd : Chunked c d f := he.trans h.part hwork
  have hbs : (takesFrom e c = none ∧ incoming d c j = []) ∨ ∃ m, takesFrom e c = some m ∧ chunkFrom e c m j = some (incoming d c j) := by
    rw [he.domain.takesFrom h.part, incoming]
    cases ht : takesFrom d c with
    | none => exact .inl ⟨rfl, rfl⟩
    | some m => exact .inr ⟨m, rfl, (he.domain.chunkFrom c m j).trans (chunkFrom_arrived (h.taken m ht) (by omega))⟩
  have hawait : awaitsResult f (workedTo d c j) = awaitsResult d c := hfd.domain.awaitsResult h.part
  refine ⟨f, hf, hfd, hcmds, (workGo_step hc hbs hn hf i).trans ?_⟩
  rw [hawait, workedTo, workedTo, handedTo, handedTo]
  cases awaitsResult d c <;> rfl

/-- All chunks are worked on, in their order. -/
theorem workGo_all (j : Nat) (hj : j ≤ cChunks c) :
    ∃ f, (List.range j).foldl (workGo c.id (cChunks c)) (setCmd c d, none) = (f, none) ∧ Chunked c d f ∧
      f.cmds = (setCmd (workedTo d c j) d).cmds := by
  induction j with
  | zero => exact ⟨_, rfl, ((Handed.refl d).chunked c).setCmd, by rw [workedTo_zero h]⟩
  | succ j ih =>
    obtain ⟨e, he, hdone, hcmds⟩ := ih (by omega)
    have hc : cmdOf e c.id = some (workedTo d c j) := cmdOf_setCmd_of_cmds h.cmd (handedTo_id _ _ _) hcmds
    obtain ⟨f, -, hf, hfc, hgo⟩ := workGo_works h (show j < cChunks c by omega) hdone hc j
    refine ⟨_, ?_, hf.setCmd, setCmd_cmds_congr (x := workedTo d c j) rfl (hfc.trans hcmds)⟩
    rw [List.range_succ, List.foldl_append, he]
    exact hgo

/-- The next chunk of the last member's sum is written (R448). -/
theorem resultGo_works {e : Device} {j n : Nat} (ha : awaitsResult d c = true) (hj : 65536 * j < cBytes c) (hn : j < n) (he : Chunked c d e)
    (hc : cmdOf e c.id = some (handedTo c n j)) (i : Nat) :
    let f := dstChunk c j (chunkOf d c ((members d c.part).getLastD 0) j) e
    resultGo c.id n e i = setCmd (handedTo c n (j + 1)) f ∧ Chunked c d f ∧ f.cmds = e.cmds := by
  have hlen := length_chunkOf d c ((members d c.part).getLastD 0) j
  have hsize : (chunkAt c j).2 ≤ cBytes c - 65536 * j := Nat.min_le_right _ _
  have hawait : awaitsResult e c = true := (he.domain.awaitsResult h.part).trans ha
  have hw : writesDst e c = true := by
    simp only [awaitsResult, Bool.and_eq_true] at hawait
    obtain ⟨⟨hr, hall⟩, -⟩ := hawait
    rw [writesDst, hr, hall, Bool.or_true, Bool.and_self, Bool.true_or]
  have hbs : chunkFrom e c ((members e c.part).getLastD 0) j = some (chunkOf d c ((members d c.part).getLastD 0) j) := by
    rw [he.domain.members h.part, he.domain.chunkFrom]
    exact chunkFrom_arrived (h.result ha) (by omega)
  obtain ⟨hdone, hcmds⟩ := dstChunk_chunked (he.merr ▸ h.poison) (he.merr ▸ h.parity) (k := j)
    (bs := chunkOf d c ((members d c.part).getLastD 0) j) hw (by omega)
  exact ⟨resultGo_step hc hawait hn hbs i, he.trans h.part hdone, hcmds⟩

/-- All chunks of the sum are written, where this member awaits it. -/
theorem resultGo_all {e : Device} {n : Nat} (hn : n ≤ cChunks c) (he : Chunked c d e) (hce : e.cmds = (setCmd (workedTo d c n) d).cmds) (j : Nat)
    (hj : j ≤ n) :
    Chunked c d ((List.range j).foldl (resultGo c.id n) e) ∧
      ((List.range j).foldl (resultGo c.id n) e).cmds =
        (setCmd (handedTo c n (if awaitsResult d c then j else n)) d).cmds := by
  induction j with
  | zero => exact ⟨he, hce⟩
  | succ j ih =>
    obtain ⟨hdone, hcmds⟩ := ih (by omega)
    rw [List.range_succ, List.foldl_append]
    generalize (List.range j).foldl (resultGo c.id n) e = f at hdone hcmds ⊢
    have hc := cmdOf_setCmd_of_cmds h.cmd (handedTo_id _ _ _) hcmds
    cases ha : awaitsResult d c with
    | false =>
      rw [ha] at hc hcmds
      have hidle : resultGo c.id n f j = f := resultGo_idle hc ((hdone.domain.awaitsResult h.part).trans ha) _ _
      simp only [List.foldl_cons, List.foldl_nil, hidle]
      exact ⟨hdone, hcmds⟩
    | true =>
      rw [ha] at hc hcmds
      obtain ⟨hgo, hf, hfc⟩ := resultGo_works h ha (lt_of_cChunks (by omega)) (show j < n by omega) hdone hc j
      simp only [List.foldl_cons, List.foldl_nil, hgo]
      exact ⟨hf.setCmd, setCmd_cmds_congr (x := handedTo c n j) rfl (hfc.trans hcmds)⟩

end

/-- The device once a collective's chunks have been worked on and its result written. -/
def handedOver (c : Cmd) (d : Device) : Device :=
  (List.range (cChunks c)).foldl (resultGo c.id (cChunks c)) ((List.range (cChunks c)).foldl (workGo c.id (cChunks c)) (setCmd c d, none)).1

section
variable {d : Device} {c : Cmd} (h : WorkReady d c)
include h

theorem handedOver_chunked :
    Chunked c d (handedOver c d) ∧ (handedOver c d).cmds = (setCmd (handedTo c (cChunks c) (cChunks c)) d).cmds := by
  obtain ⟨f, hf, hdone, hcmds⟩ := workGo_all h _ (Nat.le_refl _)
  have hres := resultGo_all h (Nat.le_refl _) hdone hcmds _ (Nat.le_refl _)
  rw [ite_self] at hres
  rw [handedOver, hf]
  exact hres

/-- A collective whose chunks have all been worked on and written ends with SUCCESS (R331, R446 to R448). -/
theorem collRun_of_chunks {n : Nat} {e f : Device} (hn : cChunks c = n)
    (hf : (List.range n).foldl (workGo c.id n) (e, none) = (f, none))
    (hc : cmdOf ((List.range n).foldl (resultGo c.id n) f) c.id = some (handedTo c n n)) (x : Circ) :
    collRun c x e = collEnd (handedTo c n n) {} ((List.range n).foldl (resultGo c.id n) f) := by
  have hfix : fixedTime (handedTo c n n) = false := h.throughput
  have hstop : (handedTo c n n).stop = none := h.stop
  rw [collRun, hn]
  simp only [h.stop, hf, hc, Option.getD_some, hstop, deadline_plain hfix]
  exact if_pos rfl

theorem collRun_ends (x : Circ) : collRun c x (setCmd c d) = collEnd (handedTo c (cChunks c) (cChunks c)) {} (handedOver c d) := by
  obtain ⟨f, hf, -⟩ := workGo_all h _ (Nat.le_refl _)
  obtain ⟨-, hcmds⟩ := handedOver_chunked h
  have hc : cmdOf (handedOver c d) c.id = some (handedTo c (cChunks c) (cChunks c)) :=
    cmdOf_setCmd_of_cmds h.cmd (handedTo_id _ _ _) hcmds
  rw [handedOver, hf] at hc ⊢
  exact collRun_of_chunks h rfl hf hc x

end

/-! ## Data of one chunk -/

theorem isBcast_of_op {c : Cmd} (h : opOf c = 0x49) : isBcast c = true ∧ isReduce c = false := by simp [isBcast, isReduce, h]
theorem isReduce_of_op {c : Cmd} (h : opOf c = 0x48) : isBcast c = false ∧ isReduce c = true := by simp [isBcast, isReduce, h]

section
variable {d : Device} {c : Cmd} (h : WorkReady d c) (hpos : 0 < cBytes c) (hone : cBytes c ≤ 65536)

include hone in
theorem chunkAt_zero : chunkAt c 0 = (0, cBytes c) := by simp [chunkAt, hone]

include hone in
theorem chunkOf_zero (m : Nat) : chunkOf d c m 0 = (arrivedFrom d c m).take (cBytes c) := by rw [chunkOf, chunkAt_zero hone, List.drop_zero]

include hone in
theorem incoming_zero {m : Nat} (hm : takesFrom d c = some m) : incoming d c 0 = (arrivedFrom d c m).take (cBytes c) := by
  rw [incoming, hm]
  exact chunkOf_zero hone m

/-- A member of a CHAIN_REDUCE that is not the first takes from the one before it. -/
theorem takesFrom_chain (hb : isBcast c = false) (hk : collPlace d c ≠ 0) :
    takesFrom d c = some ((members d c.part).getD (collPlace d c - 1) 0) := by
  have hle : collPlace d c ≤ (members d c.part).length := List.findIdx_le_length
  have hlt : collPlace d c - 1 < (members d c.part).length := by omega
  simp only [takesFrom, hb, hk, Bool.false_eq_true, if_false, List.getElem?_eq_getElem hlt]
  rw [List.getElem_eq_getD]

include hpos hone in
theorem cChunks_one : cChunks c = 1 := by
  unfold cChunks ceilDiv
  omega

include h hpos hone

theorem handedOver_one :
    ∃ f, workChunk c (incoming d c 0) 0 (setCmd c d) = (f, 0) ∧ Chunked c d f ∧ cmdOf (setCmd (workedTo d c 1) f) c.id = some (workedTo d c 1) ∧
      handedOver c d = resultGo c.id 1 (setCmd (workedTo d c 1) f) 0 := by
  have hn := cChunks_one hpos hone
  have hc : cmdOf (setCmd c d) c.id = some (workedTo d c 0) := by rw [workedTo_zero h]; exact cmdOf_setCmd_same h.cmd
  obtain ⟨f, hf, hdone, hcmds, hgo⟩ := workGo_works h (show 0 < cChunks c by omega) ((Handed.refl d).chunked c).setCmd hc 0
  rw [hn] at hgo
  have hfc : cmdOf f c.id = some c := by rw [cmdOf, hcmds]; exact cmdOf_setCmd_same h.cmd
  refine ⟨f, hf, hdone, cmdOf_setCmd_same (c := workedTo d c 1) hfc, ?_⟩
  rw [handedOver, hn]
  simp only [List.range_one, List.foldl_cons, List.foldl_nil, hgo]

/-- A member that awaits no result is done once its chunk has been worked on. -/
theorem handedOver_worked (ha : awaitsResult d c = false) :
    ∃ f, workChunk c (incoming d c 0) 0 (setCmd c d) = (f, 0) ∧ handedOver c d = setCmd (workedTo d c 1) f := by
  obtain ⟨f, hf, hdone, hc, heq⟩ := handedOver_one h hpos hone
  exact ⟨f, hf, heq.trans (resultGo_idle hc ((hdone.setCmd.domain.awaitsResult h.part).trans ha) _ _)⟩

/-- A member that awaits the result writes what the last member sent. -/
theorem handedOver_result (ha : awaitsResult d c = true) :
    ∃ e x, Chunked c d e ∧ handedOver c d = setCmd x (dstChunk c 0 ((arrivedFrom d c ((members d c.part).getLastD 0)).take (cBytes c)) e) := by
  obtain ⟨f, -, hdone, hc, heq⟩ := handedOver_one h hpos hone
  have hwork : workedTo d c 1 = handedTo c (cChunks c) 0 := by rw [workedTo, ha, cChunks_one hpos hone]; rfl
  obtain ⟨hgo, -⟩ := resultGo_works h (n := cChunks c) ha (show 65536 * 0 < cBytes c by omega) (by rw [cChunks_one hpos hone]; decide)
    (hdone.setCmd (x := workedTo d c 1)) (by rw [hc, hwork]) 0
  rw [chunkOf_zero hone, cChunks_one hpos hone] at hgo
  exact ⟨_, _, hdone.setCmd, heq.trans hgo⟩

end

/-! ## The command's end -/

theorem barrier_empty {d : Device} {c : Cmd} (hcheck : collCheck d c = none) (ho : opOf c = 0x4A) : cBytes c = 0 := by
  obtain ⟨-, -, hbytes⟩ := collBad_false (collCheck_passes hcheck).1
  exact hbytes (by simp [isReduce, ho]) (by simp [isBcast, ho])

theorem workReady_of_collectiveReady {d : Device} {id : Nat} {x : Circ} {c : Cmd} (h : CollectiveReady d id x c)
    (ho : opOf c = 0x48 ∨ opOf c = 0x49 ∨ opOf c = 0x4A) : WorkReady d c := by
  obtain ⟨hr, -, -, hpar, hpoi, -, hcheck, -, -, -, -, hp, hq, htake, hres⟩ := h
  obtain ⟨hbad, hperm⟩ := collCheck_passes hcheck
  obtain ⟨hlevel, -⟩ := collBad_false hbad
  have hid := cmdOf_id hr.cmd
  refine ⟨hid ▸ hr.cmd, hr.not_stopped, hr.throughput, hpoi, hpar, part_of_level4 hlevel hperm, ⟨hp, hq⟩, htake, hres, fun hpos => ?_⟩
  rcases ho with ho | ho | ho
  · exact .inl (isReduce_of_op ho).2
  · exact .inr (isBcast_of_op ho).1
  · exact absurd (barrier_empty hcheck ho) (by omega)

/-- A collective's device at its end. -/
def collEnded (c : Cmd) (d : Device) : Device := collEnd (handedTo c (cChunks c) (cChunks c)) {} (handedOver c d)

/-- A collective that is ready goes on to its end (R444, R446 to R448). -/
theorem collective_ends {d : Device} {id : Nat} {x : Circ} {c : Cmd} (h : CollectiveReady d id x c) (hw : WorkReady d c) :
    collective (opOf c) id x d = collEnded c d := by
  obtain ⟨hr, hx, -, -, -, hheld, hcheck, hreach, hready, hdiff, hcancel, -⟩ := h
  have hnone : cancelled d c = c := by
    have hany : (d.coll.descs.any fun y => y.2.cancel && decide (y.2.collId = cId c)) = false :=
      List.any_eq_false.mpr fun y hy => by rw [hcancel y hy, Bool.false_and]; exact Bool.false_ne_true
    simp only [cancelled, hany, Bool.and_false, Bool.false_eq_true, if_false]
  rw [collEnded, ← collRun_ends hw x]
  simp only [collective, runningAs_of_runs hr, hheld, applyCirc_none hx, hcheck, hreach, hnone, hready, hdiff, Bool.false_eq_true, if_false,
    if_true]

/-- Each of the three commands does the work of its opcode. -/
theorem exec_collective {s : State} {id : Nat} {x : Circ} {c : Cmd} {i : Instr} (h : CollectiveReady s.dev id x c) (hw : WorkReady s.dev c)
    (hi : (opOf c, i) ∈ [(0x48, .chainReduce id x), (0x49, .broadcast id x), (0x4A, .barrier id x)]) :
    exec i s = .next { s with dev := collEnded c s.dev } := by
  have hend := collective_ends h hw
  simp only [List.mem_cons, Prod.mk.injEq, List.not_mem_nil, or_false] at hi
  rcases hi with ⟨ho, rfl⟩ | ⟨ho, rfl⟩ | ⟨ho, rfl⟩ <;> exact exec_next rfl rfl (ho ▸ hend)

/-- What the end of a collective leaves. -/
theorem collEnd_leaves {c : Cmd} {p q : Nat} {f : Device} (hc : cmdOf f c.id = some (handedTo c p q)) :
    let e := collEnd (handedTo c p q) {} f
    cmdOf e c.id = some (endedAs (handedTo c p q) {}) ∧ e.coll.descs = f.coll.descs.filter (fun y => decide (y.2.collId ≠ cId c)) ∧
      ∃ k x, e = { f with cmds := k, coll := x } := by
  intro e
  have he : e = setCmd (endedAs (handedTo c p q) {}) _ := endCmd_plain (x := {}) (by decide)
  rw [he]
  exact ⟨cmdOf_setCmd_same (c := endedAs (handedTo c p q) {}) hc, rfl, _, _, rfl⟩

theorem collEnded_leaves {d : Device} {c : Cmd} (h : WorkReady d c) :
    cmdOf (collEnded c d) c.id = some (endedAs (handedTo c (cChunks c) (cChunks c)) {}) ∧
      (collEnded c d).coll.descs = d.coll.descs.filter (fun y => decide (y.2.collId ≠ cId c)) ∧
      ∃ k x, collEnded c d = { handedOver c d with cmds := k, coll := x } := by
  obtain ⟨hdone, hcmds⟩ := handedOver_chunked h
  obtain ⟨h1, h2, h3⟩ := collEnd_leaves (cmdOf_setCmd_of_cmds h.cmd (handedTo_id c _ _) hcmds)
  exact ⟨h1, hdone.domain.coll ▸ h2, h3⟩

theorem handedOver_none {c : Cmd} (d : Device) (h : cBytes c = 0) : handedOver c d = setCmd c d := by
  have hn : cChunks c = 0 := by rw [cChunks, h]; decide
  rw [handedOver, hn]
  rfl

theorem Chunked.unmoved {c : Cmd} {d e : Device} (h : Chunked c d e) : e.clk = d.clk ∧ e.pins = d.pins ∧ e.arrs = d.arrs := by
  obtain ⟨_, _, _, _, _, _, rfl⟩ := h.fields
  exact ⟨rfl, rfl, rfl⟩

theorem Chunked.byteAt_of_mem {c : Cmd} {d e : Device} (h : Chunked c d e) (hm : e.mem = d.mem) (l : Nat) : byteAt e l = byteAt d l := by
  rw [byteAt, h.keys, memGet, hm, byteAt, memGet]

/-- No byte that is not of a DST which the member writes changes. -/
theorem handedOver_sameByte {d : Device} {id : Nat} {x : Circ} {c : Cmd} (h : CollectiveReady d id x c) (hw : WorkReady d c)
    (hd : isHbm (cDst c) = false ∨ PlainHbm d) {l : Nat} (hm : mapped l = true) (ho : l < cDst c ∨ cDst c + cBytes c ≤ l) :
    byteAt (handedOver c d) l = byteAt d l := by
  obtain ⟨-, -, hcan, -, -, -, hcheck, -⟩ := h
  obtain ⟨hdone, -⟩ := handedOver_chunked hw
  rcases Nat.eq_zero_or_pos (cBytes c) with hz | hpos
  · rw [handedOver_none d hz, byteAt_setCmd]
  · cases hdst : writesDst d c with
    | false => exact hdone.byteAt_of_mem (hdone.unwritten hdst) l
    | true => exact hdone.apart hcan.1 (dst_rangeApart (collCheck_passes hcheck).2 hdst hpos hd) l hm ho

/-! ## What leaves a member for data of one chunk (R447, R448) -/

section
variable {d : Device} {c : Cmd} (h : WorkReady d c) (hpos : 0 < cBytes c) (hone : cBytes c ≤ 65536)
include hone

theorem ownChunk_zero : ownChunk (setCmd c d) c 0 = bytesAt d (cSrc c) (cBytes c) := by
  rw [ownChunk, chunkAt_zero hone, Nat.add_zero, bytesAt_setCmd]

theorem chunkSum_zero (hb : isBcast c = false) :
    chunkSum (setCmd c d) c (incoming d c 0) 0 =
      if collPlace d c = 0 then bytesAt d (cSrc c) (cBytes c)
      else addChunk c ((arrivedFrom d c ((members d c.part).getD (collPlace d c - 1) 0)).take (cBytes c)) (bytesAt d (cSrc c) (cBytes c)) := by
  have hplace : collPlace (setCmd c d) c = collPlace d c := rfl
  rw [chunkSum, ownChunk_zero hone, hplace]
  split
  next => rfl
  next hk => rw [incoming_zero hone (takesFrom_chain hb hk)]

include h hpos

theorem root_sends (ho : opOf c = 0x49) (hr : cRoot c = ownSlot d) :
    ∃ y, handedOver c d = setCmd y (sendChunk c (others d c) (bytesAt d (cSrc c) (cBytes c)) (srcRead c 0 (setCmd c d))) := by
  obtain ⟨hb, hred⟩ := isBcast_of_op ho
  obtain ⟨f, hf, heq⟩ := handedOver_worked h hpos hone (by rw [awaitsResult, hred]; rfl)
  have hwork := workChunk_root (d := setCmd c d) h.poison h.parity h.part (incoming d c 0) 0 hb hr
  rw [hwork, ownChunk_zero hone] at hf
  obtain ⟨rfl, -⟩ := Prod.mk.inj hf
  exact ⟨_, heq⟩

theorem chain_passes (ho : opOf c = 0x48) (hl : isLastMember d c = false) (ha : cAll c = 0) :
    ∃ y, handedOver c d = setCmd y (sendChunk c [(members d c.part).getD (collPlace d c + 1) 0]
      (chunkSum (setCmd c d) c (incoming d c 0) 0) (srcRead c 0 (setCmd c d))) := by
  obtain ⟨hb, -⟩ := isReduce_of_op ho
  obtain ⟨f, hf, heq⟩ := handedOver_worked h hpos hone (by simp [awaitsResult, ha])
  have hwork := workChunk_pass (d := setCmd c d) h.poison h.parity h.part (incoming d c 0) 0 hb hl
  rw [hwork] at hf
  obtain ⟨rfl, -⟩ := Prod.mk.inj hf
  exact ⟨_, heq⟩

end

theorem op_of_mem {c : Cmd} {i a b e : Instr} (hi : (opOf c, i) ∈ [(0x48, a), (0x49, b), (0x4A, e)]) :
    opOf c = 0x48 ∨ opOf c = 0x49 ∨ opOf c = 0x4A := by
  simp only [List.mem_cons, Prod.mk.injEq, List.not_mem_nil, or_false] at hi
  exact hi.imp And.left (Or.imp And.left And.left)

/-- Settles O17: the work goes on to its end (`exec_collective`), which leaves what `collEnded_leaves` and `handedOver_sameByte` say; a
BARRIER has no chunk to work on, and what one chunk sends is `root_sends` and `chain_passes`. -/
theorem collectivesComplete : Obligations.CollectivesComplete := by
  unfold Obligations.CollectivesComplete
  intro s id x c i h hi hd n
  have hw := workReady_of_collectiveReady h (op_of_mem hi)
  have ⟨hrun, _, _, _, _, _, hcheck, _⟩ := h
  have hid : c.id = id := cmdOf_id hrun.cmd
  obtain ⟨hdone, -⟩ := handedOver_chunked hw
  obtain ⟨hclk, hpins, harrs⟩ := hdone.unmoved
  obtain ⟨hcmd, hdescs, k, y, hend⟩ := collEnded_leaves hw
  have hread (h2 : n ≤ 65536) : srcRead c 0 (setCmd c s.dev) =
      hbmRead (cSrc c) n (some c.part) (netCount c.part (dieAt (cSrc c)) 4 n (setCmd c s.dev)) := by
    rw [srcRead, chunkAt_zero h2, Nat.add_zero]
  refine ⟨_, exec_collective h hw hi, rfl, hid ▸ hcmd, hdescs, ?_⟩
  simp only [hend]
  refine ⟨hdone.unwritten, fun l hm ho => handedOver_sameByte h hw hd hm ho, hclk, hpins, harrs, fun hb => ?_,
    fun h1 h2 => ⟨fun ho hr => ?_, fun ho hl ha => ?_⟩⟩
  · rw [handedOver_none s.dev (barrier_empty hcheck hb)]
    exact ⟨rfl, rfl⟩
  · obtain ⟨z, hz⟩ := root_sends hw h1 h2 ho hr
    rw [hz, hread h2]
    exact ⟨rfl, rfl, rfl⟩
  · obtain ⟨z, hz⟩ := chain_passes hw h1 h2 ho hl ha
    rw [hz, hread h2, chunkSum_zero h2 (isReduce_of_op ho).1]
    exact ⟨rfl, rfl, rfl⟩

/-! ## What a member stores (R447, R448) -/

section
variable {d : Device} {c : Cmd} (h : WorkReady d c) (hpos : 0 < cBytes c) (hone : cBytes c ≤ 65536) (hwf : Memory.wf d)
  (ha : RangeApart d (cDst c) (cBytes c))
include h hpos hone hwf ha

theorem member_stores (ho : opOf c = 0x49) (hr : cRoot c ≠ ownSlot d) (hlen : cBytes c ≤ (arrivedFrom d c (cRoot c)).length) :
    bytesAt (handedOver c d) (cDst c) (cBytes c) = (arrivedFrom d c (cRoot c)).take (cBytes c) := by
  obtain ⟨hb, hred⟩ := isBcast_of_op ho
  have htake : takesFrom d c = some (cRoot c) := by simp only [takesFrom, hb, if_true, hr, if_false]
  obtain ⟨f, hf, heq⟩ := handedOver_worked h hpos hone (by rw [awaitsResult, hred]; rfl)
  rw [incoming_zero hone htake, workChunk_member (d := setCmd c d) _ 0 hb hr] at hf
  obtain ⟨rfl, -⟩ := Prod.mk.inj hf
  rw [heq, bytesAt_setCmd]
  exact dstChunk_bytes (d := setCmd c d) h.poison h.parity (List.length_take_of_le hlen) hwf ha

theorem last_stores (ho : opOf c = 0x48) (hl : isLastMember d c = true) (hk : 0 < collPlace d c) (h32 : cBytes c % 32 = 0)
    (hlen : cBytes c ≤ (arrivedFrom d c ((members d c.part).getD (collPlace d c - 1) 0)).length) :
    bytesAt (handedOver c d) (cDst c) (cBytes c) =
      addChunk c ((arrivedFrom d c ((members d c.part).getD (collPlace d c - 1) 0)).take (cBytes c)) (bytesAt d (cSrc c) (cBytes c)) := by
  obtain ⟨hb, -⟩ := isReduce_of_op ho
  obtain ⟨f, hf, heq⟩ := handedOver_worked h hpos hone (by simp [awaitsResult, hl])
  obtain ⟨g, hg, hwork⟩ := workChunk_last (d := setCmd c d) h.poison h.parity h.part (incoming d c 0) 0 hb hl
  obtain ⟨rfl, -⟩ := Prod.mk.inj (hwork.symm.trans hf)
  rw [chunkSum_zero hone hb, if_neg (by omega)] at hg
  have hread := srcRead_handed c 0 (setCmd c d)
  have hbytes (l n : Nat) : bytesAt g l n = bytesAt _ l n := List.map_congr_left fun k _ => hg.bytes (l + k)
  rw [heq, bytesAt_setCmd, hbytes]
  refine dstChunk_bytes (hread.merr ▸ h.poison) (hread.merr ▸ h.parity) ?_ ?_ (ha.congr hread.keys)
  · rw [length_addChunk, List.length_take_of_le hlen]
    omega
  · rw [Memory.wf, hread.mem]
    exact hwf

theorem result_stores (hw : awaitsResult d c = true) (hlen : cBytes c ≤ (arrivedFrom d c ((members d c.part).getLastD 0)).length) :
    bytesAt (handedOver c d) (cDst c) (cBytes c) = (arrivedFrom d c ((members d c.part).getLastD 0)).take (cBytes c) := by
  obtain ⟨e, x, he, heq⟩ := handedOver_result h hpos hone hw
  rw [heq, bytesAt_setCmd]
  exact dstChunk_bytes (he.merr ▸ h.poison) (he.merr ▸ h.parity) (List.length_take_of_le hlen) (he.wf hwf) (ha.congr he.keys)

end

/-- Settles O18: the run to the end (`exec_collective`) stores what `member_stores`, `last_stores` and `result_stores` say, one for each kind
of member that writes its DST. -/
theorem broadcastStoresIncoming : Obligations.BroadcastStoresIncoming := by
  unfold Obligations.BroadcastStoresIncoming
  intro s id x c i h hi hdst hpos hone hd n k own from'
  have hi3 : (opOf c, i) ∈ [(0x48, .chainReduce id x), (0x49, .broadcast id x), (0x4A, .barrier id x)] :=
    List.mem_append_left [(0x4A, Instr.barrier id x)] hi
  have hw := workReady_of_collectiveReady h (op_of_mem hi3)
  have ⟨_, _, hcan, _, _, _, hcheck, _⟩ := h
  obtain ⟨hbad, hperm⟩ := collCheck_passes hcheck
  obtain ⟨-, h32, -⟩ := collBad_false hbad
  have ha := dst_rangeApart hperm hdst hpos hd
  obtain ⟨-, -, z, y, hend⟩ := collEnded_leaves hw
  refine ⟨_, exec_collective h hw hi3, rfl, ?_⟩
  have hbytes : bytesAt (collEnded c s.dev) (cDst c) n = bytesAt (handedOver c s.dev) (cDst c) n := hend ▸ rfl
  simp only [hbytes]
  refine ⟨fun ho => ?_, fun ho hl hk => ?_, fun ho hl => ?_⟩
  · obtain ⟨hb, hr⟩ := isBcast_of_op ho
    have hroot : cRoot c ≠ ownSlot s.dev := by simpa [writesDst, hb, hr] using hdst
    exact member_stores hw hpos hone hcan.1 ha ho hroot (hw.taken _ (by simp only [takesFrom, hb, if_true, hroot, if_false]))
  · exact last_stores hw hpos hone hcan.1 ha ho hl hk h32 (hw.taken _ (takesFrom_chain (isReduce_of_op ho).1 (by omega)))
  · obtain ⟨hb, hr⟩ := isReduce_of_op ho
    have hall : awaitsResult s.dev c = true := by simpa [writesDst, awaitsResult, hb, hr, hl] using hdst
    exact result_stores hw hpos hone hcan.1 ha hall (hw.result hall)

end Sys2Proof.Machine
end

section
/-! Roles of a pair: what the outputs do in each role, and O44. -/

namespace Sys2Proof.Machine

/-! ## A role set (R461, R487, R492) -/

theorem role_setRole {r : Nat} {d : Device} (h : Rising d.regs) (hr : r < 4) : role (setRole r d) = r :=
  (fget_fput_same oPairStatus fPairStatusRole r d h (by decide) (by decide)).trans (Nat.mod_eq_of_lt hr)

/-- The roles in which R487 and R492 hold the outputs low. -/
def HeldRole (r : Nat) : Prop := r = roleStandby ∨ r = roleFenced

theorem trigBlocked_of_heldRole {d : Device} (h : HeldRole (role d)) : trigBlocked d = true := by
  rcases h with h | h <;> simp [trigBlocked, h]

theorem illumOn_of_heldRole {d : Device} (h : HeldRole (role d)) (n : Nat) : illumOn d n = false := by
  rcases h with h | h <;> simp [illumOn, h]

/-- Outputs that follow a state in which no ILLUM_EN may be high are low. -/
theorem outputs_illum {d : Device} (h : ∀ n, illumOn d n = false) : (outputs d).pins.illum = 0 := by
  simp [outputs, h, b2n]

theorem setRole_outputs_low {r : Nat} {d : Device} (h : Rising d.regs) (hr : HeldRole r) :
    (setRole r d).pins.trig = 0 ∧ (setRole r d).pins.illum = 0 := by
  have hlt : r < 4 := by rcases hr with rfl | rfl <;> decide
  have hrole : role (fput oPairStatus fPairStatusRole r d) = r := role_setRole h hlt
  have hheld : HeldRole (role (fput oPairStatus fPairStatusRole r d)) := hrole.symm ▸ hr
  exact ⟨outputs_trig _ (trigBlocked_of_heldRole hheld), outputs_illum (illumOn_of_heldRole hheld)⟩

/-- Low illumination outputs are safe in every state (R492). -/
theorem illumSafe_of_low {d : Device} (h : d.pins.illum = 0) : IllumSafe d := by
  intro n _ hn
  rw [h] at hn
  simp at hn

/-- Settles O44: the role is the field that `setRole` sets, and in the two held roles the outputs that follow it are low. -/
theorem rolesDecideOutputs : Obligations.RolesDecideOutputs := by
  unfold Obligations.RolesDecideOutputs
  intro d hc
  have hr : Rising d.regs := hc.regs_rising
  obtain ⟨hstrig, hsillum⟩ := setRole_outputs_low (d := letGo d) hr (.inl rfl)
  obtain ⟨hftrig, hfillum⟩ := setRole_outputs_low (d := letGo d) hr (.inr rfl)
  refine ⟨⟨?_, rfl, rfl, rfl, hstrig, hsillum, rfl, rfl, rfl⟩, ⟨?_, rfl, rfl, rfl, rfl⟩, ?_, rfl, hftrig, hfillum, illumSafe_of_low hfillum⟩
  · exact role_setRole (d := letGo d) hr (by decide)
  · exact role_setRole (d := { d with pins := { d.pins with claim := true } }) hr (by decide)
  · exact role_setRole (d := letGo d) hr (by decide)

end Sys2Proof.Machine
end

section
/-! A pair's detection of a loss: what each timer and each QUERY does in the role that acts on it, and O46. -/

namespace Sys2Proof.Machine

/-! ## HB_OK and LINKS_OK beside ROLE (R467) -/

section
variable {d : Device} (h : Rising d.regs) (v : Nat)
include h

theorem role_fput_hbOk : role (fput oPairStatus fPairStatusHbOk v d) = role d :=
  fget_fput_other _ _ _ _ _ h (by decide) (by decide) (by decide)

theorem role_fput_linksOk : role (fput oPairStatus fPairStatusLinksOk v d) = role d :=
  fget_fput_other _ _ _ _ _ h (by decide) (by decide) (by decide)

theorem linksOk_fput_hbOk : linksOk (fput oPairStatus fPairStatusHbOk v d) = linksOk d := by
  rw [linksOk, fbit, fget_fput_other _ _ _ _ _ h (by decide) (by decide) (by decide), linksOk, fbit]

theorem hbOk_fput_linksOk : hbOk (fput oPairStatus fPairStatusLinksOk v d) = hbOk d := by
  rw [hbOk, fbit, fget_fput_other _ _ _ _ _ h (by decide) (by decide) (by decide), hbOk, fbit]

end

/-- The links to the peer depend on DEVICE_ID and PAIR_CTRL alone (R420, R459). -/
theorem peerLinks_fput_pairStatus (f : Fld) (v : Nat) (d : Device) :
    domainLinks (fput oPairStatus f v d) (peerSlot (fput oPairStatus f v d)) = domainLinks d (peerSlot d) := by
  have hid (g : Fld) : fget (fput oPairStatus f v d) oDeviceId g = fget d oDeviceId g := fget_fput_ne _ _ _ _ _ _ (by decide)
  have hown : ownDev (fput oPairStatus f v d) = ownDev d := by rw [ownDev, hid, hid, ownDev]
  have hpeer : peerSlot (fput oPairStatus f v d) = peerSlot d := fget_fput_ne _ _ _ _ _ _ (by decide)
  rw [hpeer, domainLinks, hown]
  rfl

/-- Step 1 of R468 on a standby that takes nothing over yet. -/
theorem beginTakeover_idle {d : Device} (hrole : role d = roleStandby) (hst : d.pair.stage = .none) :
    beginTakeover d = setStage .fencing { d with pins := { d.pins with fenceOut := true } } := if_pos ⟨hrole, hst⟩

/-! ## A missing heartbeat and silent links (R467) -/

section
variable {d : Device} (h : Rising d.regs) (hen : pairEn d = true)
include h hen

theorem heartbeatMissing_standby (hrole : role d = roleStandby) :
    heartbeatMissing d =
      let e := fput oPairStatus fPairStatusHbOk 0 d
      if linksOk d then emit .pairQuery { e with pair := { e.pair with queryOpen := true } } else beginTakeover e := by
  rw [heartbeatMissing, if_pos hen]
  simp only [role_fput_hbOk h, linksOk_fput_hbOk h, hrole, if_true]

theorem heartbeatMissing_notStandby (hrole : role d ≠ roleStandby) : heartbeatMissing d = fput oPairStatus fPairStatusHbOk 0 d := by
  rw [heartbeatMissing, if_pos hen]
  simp only [role_fput_hbOk h, hrole, if_false]

theorem linksSilent_standby (hrole : role d = roleStandby) :
    linksSilent d =
      let e := fput oPairStatus fPairStatusLinksOk 0 d
      if hbOk d then raiseDev 0x000B ((domainLinks d (peerSlot d)).headD 0) 0 0 (fput oPairStatus fPairStatusLinkLost 1 e)
      else beginTakeover e := by
  rw [linksSilent, if_pos hen]
  simp only [role_fput_linksOk h, hbOk_fput_linksOk h, peerLinks_fput_pairStatus, hrole, if_true]

theorem linksSilent_notStandby (hrole : role d ≠ roleStandby) : linksSilent d = fput oPairStatus fPairStatusLinksOk 0 d := by
  rw [linksSilent, if_pos hen]
  simp only [role_fput_linksOk h, hrole, if_false]

end

/-! ## QUERY and its answer (R467; log 43) -/

theorem query_active {d : Device} (h : Rising d.regs) (hrole : role d = roleActive) :
    query d = heartbeatLost (emit .pairReply (pairHeard d)) := by
  simp only [query, role_pairHeard h, hrole, if_true]

theorem query_answered {d : Device} (h : Rising d.regs) (hrole : role d = roleStandby) (hopen : d.pair.queryOpen = true) :
    query d = heartbeatLost { pairHeard d with pair := { (pairHeard d).pair with queryOpen := false } } := by
  have hne : roleStandby ≠ roleActive := by decide
  simp only [query, role_pairHeard h, hrole, pairHeard_pair, hopen, hne, and_self, if_true, if_false]

/-! ## Signs of life (R457, R460) -/

theorem powered_of_run {d : Device} (h : d.clk.power = .run) : powered d = true := by rw [powered, h]

theorem heartbeatToggle_active {d : Device} (hrole : role d = roleActive) (hhub : d.pair.hubOk = true) (hp : d.clk.power = .run) :
    heartbeatToggle d = { d with pins := { d.pins with hbOut := !d.pins.hbOut } } := if_pos ⟨hrole, hhub, powered_of_run hp⟩

theorem alive_sends {d : Device} (hrole : role d = roleActive ∨ role d = roleStandby) (hhub : d.pair.hubOk = true)
    (hp : d.clk.power = .run) : alive d = emit .pairAlive d := if_pos ⟨hrole, hhub, powered_of_run hp⟩

theorem heartbeatToggle_hubLost {d : Device} (hhub : d.pair.hubOk = false) : heartbeatToggle d = d := by simp [heartbeatToggle, hhub]

theorem alive_hubLost {d : Device} (hhub : d.pair.hubOk = false) : alive d = d := by simp [alive, hhub]

/-- Settles O46: each clause is the branch of its command's meaning that its hypotheses select, where writing HB_OK or LINKS_OK leaves the
other fields of PAIR_STATUS as they were. -/
theorem pairDetectsLoss : Obligations.PairDetectsLoss := by
  unfold Obligations.PairDetectsLoss
  refine ⟨fun s hrole hhub hp => exec_next rfl rfl (heartbeatToggle_active hrole hhub hp),
    fun s hrole hhub hp => exec_next rfl rfl (alive_sends hrole hhub hp),
    fun s => ⟨rfl, fun hhub => ⟨exec_next rfl rfl (heartbeatToggle_hubLost hhub), exec_next rfl rfl (alive_hubLost hhub)⟩⟩,
    fun s v hen => exec_next rfl rfl (if_pos hen), fun s hc hen hrole => ?_, fun s hc hen hrole => ?_,
    fun s hc hrole hopen => exec_next rfl rfl (query_answered hc.regs_rising hrole hopen),
    fun s hc hrole => exec_next rfl rfl (query_active hc.regs_rising hrole), fun _ => rfl⟩
  · have hr : Rising s.dev.regs := hc.regs_rising
    have hmissing := heartbeatMissing_standby hr hen hrole
    have hsilent := linksSilent_standby hr hen hrole
    refine ⟨fun hlinks => exec_next rfl rfl ?_, fun hlinks hst => exec_next rfl rfl ?_, fun hhb => exec_next rfl rfl ?_,
      fun hhb hst => exec_next rfl rfl ?_⟩
    · simpa only [hlinks, if_true] using hmissing
    · rw [hlinks] at hmissing
      exact hmissing.trans (beginTakeover_idle ((role_fput_hbOk hr 0).trans hrole) hst)
    · simpa only [hhb, if_true] using hsilent
    · rw [hhb] at hsilent
      exact hsilent.trans (beginTakeover_idle ((role_fput_linksOk hr 0).trans hrole) hst)
  · have hr : Rising s.dev.regs := hc.regs_rising
    exact ⟨exec_next rfl rfl (heartbeatMissing_notStandby hr hen hrole), exec_next rfl rfl (linksSilent_notStandby hr hen hrole)⟩

end Sys2Proof.Machine
end

section
/-! The queue: every command's meaning is one run of a change of the device, and O1, O3 and O6. -/

namespace Sys2Proof.Machine

/-- Every command's arm is one run of a change of the device (log 5). -/
theorem exec_eq_run (i : Instr) : ∃ f : Device → Device, ∀ s, exec i s = run i f s := by
  cases i <;> exact ⟨_, fun _ => rfl⟩

theorem exec_wf {i : Instr} (h : i.wf = true) (s : State) : ∃ d, exec i s = .next { s with dev := d } := by
  obtain ⟨f, hf⟩ := exec_eq_run i
  exact ⟨f s.dev, (hf s).trans (run_ok f s h)⟩

theorem exec_illFormed {i : Instr} (h : i.wf = false) (s : State) : exec i s = .fault .noSuchUnit := by
  obtain ⟨f, hf⟩ := exec_eq_run i
  exact (hf s).trans (run_bad f s h)

/-- Settles O1: the block form's step on a queue that is not empty. -/
theorem frontCommandRuns : Obligations.FrontCommandRuns := by
  unfold Obligations.FrontCommandRuns
  exact fun s c rest h => step_front h

/-- Settles O3: every arm goes through `run`, which asks for well-formedness alone. -/
theorem wellFormedCommandsAnswer : Obligations.WellFormedCommandsAnswer := by
  unfold Obligations.WellFormedCommandsAnswer
  exact fun i s => ⟨fun h => exec_wf h s, fun h => exec_illFormed h s⟩

/-- Settles O6: on an empty queue a tick passes; otherwise the front command is well formed, so it answers with the rest of the queue. -/
theorem queueOkNeverStops : Obligations.QueueOkNeverStops := by
  unfold Obligations.QueueOkNeverStops
  intro s hq
  cases hp : s.pending with
  | nil => exact ⟨_, step_empty hp, hq, hp⟩
  | cons c rest =>
    have hfront : ∀ x ∈ c :: rest, x.wf = true := hp ▸ hq
    obtain ⟨d, hd⟩ := exec_wf (hfront c List.mem_cons_self) { s with pending := rest }
    exact ⟨_, (step_front hp).trans hd, fun x hx => hfront x (List.mem_cons_of_mem c hx), rfl⟩

end Sys2Proof.Machine
end

section
/-! The journal takes records: posting, intake, the power failure and a media fault, and O52. -/

namespace Sys2Proof.Machine

/-! ## A bit of a register -/

theorem fbit_fput_same {off : Nat} {f : Fld} (v : Nat) {d : Device} (h : Rising d.regs) (hf : f.lo = f.hi) (hi : f.hi < 32) :
    fbit (fput off f v d) off f = decide (v % 2 = 1) := by
  rw [fbit, fget_fput_same off f v d h (Nat.le_of_eq hf) hi, hf, Nat.add_sub_cancel_left, Nat.pow_one]

theorem fbit_fput_other {off : Nat} {f g : Fld} (v : Nat) {d : Device} (h : Rising d.regs) (hf : f.lo ≤ f.hi) (hi : f.hi < 32)
    (hg : f.hi < g.lo ∨ (g.hi < f.lo ∧ g.lo ≤ g.hi)) : fbit (fput off f v d) off g = fbit d off g := by
  rw [fbit, fget_fput_other off f g v d h hf hi hg, fbit]

/-! ## Which records are taken (R502, R503, R508, R514) -/

theorem jnlDead_of_flashUp {d : Device} (h : flashUp d 0 = true) : jnlDead d = false := by
  have hja : fbit d oJnlStatus fJnlStatusJaFault = false := by simpa [flashUp] using h
  rw [jnlDead, hja, Bool.false_and]

/-- A field of JNL_STATUS above the two fault bits does not say whether the flashes have failed. -/
theorem jnlDead_fput_above {f : Fld} (v : Nat) {d : Device} (h : Rising d.regs) (hl : 1 < f.lo) (hf : f.lo ≤ f.hi) (hi : f.hi < 32) :
    jnlDead (fput oJnlStatus f v d) = jnlDead d := by
  rw [jnlDead, fbit_fput_other v h hf hi (.inr ⟨Nat.lt_of_succ_lt hl, by decide⟩),
    fbit_fput_other v h hf hi (.inr ⟨hl, by decide⟩), jnlDead]

/-- The host's types have no priority (R502). -/
theorem jnlPrio_hostType {type : Nat} (h : 0x1000 ≤ type) (bs : List Byte) : jnlPrio type bs = false := by
  unfold jnlPrio
  split
  case h_6 => rfl
  all_goals omega

theorem journal_taken {type : Nat} {bs : List Byte} {d : Device} (h : jnlTakes d (jnlPrio type bs) = true) :
    journal type bs d = jnlPush type bs d := if_pos h

theorem journal_dropped {type : Nat} {bs : List Byte} {d : Device} (h : jnlTakes d (jnlPrio type bs) = false) :
    journal type bs d = jnlDrop type d := if_neg (by rw [h]; decide)

/-- The next SEQ follows modulo 2^32 (R501). -/
theorem jnlNextSeq_jnlPush (type : Nat) (bs : List Byte) {d : Device} (h : Rising d.regs) :
    (rget (jnlPush type bs d) oJnlNextSeq).toNat = ((rget d oJnlNextSeq).toNat + 1) % 2 ^ 32 := by
  have hnext : rget (jnlPush type bs d) oJnlNextSeq = rget d oJnlNextSeq + BitVec.ofNat 32 1 :=
    rget_fwrap_word (f := fJnlNextSeqSeq) 1 h rfl
  rw [hnext, BitVec.toNat_add]
  rfl

/-! ## A write of JNL_POST (R515) -/

/-- The bytes of the staging registers that a post of n bytes takes. -/
def stagedBytes (d : Device) (n : Nat) : List Byte :=
  ((List.range (ceilDiv n 4)).flatMap fun k => leBytes 4 (rget d (oJnlStage k)).toNat).take n

theorem journalPost_refused {v : Word} {d : Device}
    (h : bits 15 0 v.toNat < 0x1000 ∨ 0x7FFF < bits 15 0 v.toNat ∨ 4056 < bits 27 16 v.toNat) :
    journalPost v d = fput oJnlStatus fJnlStatusPostErr 1 d := if_pos h

section
variable {v : Word} (d : Device) (h1 : 0x1000 ≤ bits 15 0 v.toNat) (h2 : bits 15 0 v.toNat ≤ 0x7FFF) (h3 : bits 27 16 v.toNat ≤ 4056)
include h1 h2 h3

theorem journalPost_offered :
    journalPost v d =
      if jnlTakes d false then fwrap oJnlPosted fJnlPostedPosted 1 (journal (bits 15 0 v.toNat) (stagedBytes d (bits 27 16 v.toNat)) d)
      else journal (bits 15 0 v.toNat) (stagedBytes d (bits 27 16 v.toNat)) d := if_neg (by omega)

theorem journalPost_taken (ht : jnlTakes d false = true) :
    journalPost v d = fwrap oJnlPosted fJnlPostedPosted 1 (jnlPush (bits 15 0 v.toNat) (stagedBytes d (bits 27 16 v.toNat)) d) := by
  rw [journalPost_offered d h1 h2 h3, if_pos ht, journal_taken (by rw [jnlPrio_hostType h1, ht])]

theorem journalPost_dropped (ht : jnlTakes d false = false) : journalPost v d = jnlDrop (bits 15 0 v.toNat) d := by
  rw [journalPost_offered d h1 h2 h3, if_neg (by rw [ht]; decide), journal_dropped (by rw [jnlPrio_hostType h1, ht])]

end

/-! ## Intake, PFAIL_N and media faults (R503, R508, R512 to R514) -/

theorem journalIntake_taken {type : Nat} {bs : List Byte} {d : Device} (h : type ∈ deviceTypes)
    (ht : jnlTakes d (jnlPrio type bs) = true) : journalIntake type bs d = jnlPush type bs d :=
  (if_pos (List.contains_iff_mem.mpr h)).trans (journal_taken ht)

theorem journalIntake_wf {type : Nat} (src : Nat) {bs : List Byte} (h : type ∈ deviceTypes) (hl : bs.length ≤ 4056) :
    (Instr.journalIntake type src bs).wf = true := by
  have htype : type < 65536 := (by decide : ∀ t ∈ deviceTypes, t < 65536) type h
  exact Bool.and_eq_true_iff.mpr ⟨decide_eq_true htype, decide_eq_true hl⟩

theorem noteDrops_none {d : Device} (h : d.jnl.drops = []) : noteDrops d = d := if_pos (.inl h)

/-- The device once PFAIL_N has been seen low: records without priority are no longer taken. -/
def pfailSeen (d : Device) : Device :=
  let d := fput oJnlStatus fJnlStatusPfailSeen 1 { d with pins := { d.pins with pfailN := false } }
  { d with jnl := { d.jnl with prio := true } }

theorem jnlDead_pfailSeen {d : Device} (h : Rising d.regs) : jnlDead (pfailSeen d) = jnlDead d :=
  jnlDead_fput_above (f := fJnlStatusPfailSeen) 1 (d := { d with pins := { d.pins with pfailN := false } }) h (by decide) (by decide) (by decide)

theorem powerFail_records {d : Device} (hr : Rising d.regs) (hlive : jnlDead d = false) (hdrops : d.jnl.drops = [])
    (hroom : d.jnl.queue.length < 256) :
    powerFail d = jnlPush 0x0020 (leBytes 4 (d.jnl.queue.filter fun r => !jnlPrio r.type r.payload).length) (pfailSeen d) := by
  have hnote : noteDrops (pfailSeen d) = pfailSeen d := noteDrops_none hdrops
  have htakes : jnlTakes (pfailSeen d) true = true := by
    have hq : (pfailSeen d).jnl.queue.length < 256 := hroom
    simp [jnlTakes, jnlDead_pfailSeen hr, hlive, hq]
  calc powerFail d
      = journal 0x0020 (leBytes 4 ((noteDrops (pfailSeen d)).jnl.queue.filter fun r => !jnlPrio r.type r.payload).length)
          (noteDrops (pfailSeen d)) := rfl
    _ = journal 0x0020 (leBytes 4 (d.jnl.queue.filter fun r => !jnlPrio r.type r.payload).length) (pfailSeen d) := by rw [hnote]; rfl
    _ = _ := journal_taken htakes

/-- With JA_FAULT set the flashes are both gone when the other one is not up. -/
theorem jnlDead_jaFault {d : Device} (h : Rising d.regs) : jnlDead (fput oJnlStatus fJnlStatusJaFault 1 d) = !flashUp d 1 := by
  rw [jnlDead, fbit_fput_same 1 h rfl (by decide), fbit_fput_other 1 h (by decide) (by decide) (.inl (by decide))]
  simp [flashUp]

/-- FAULT_N is pulled low where a condition holds, and stays low. -/
theorem fault_ite (b : Bool) (d : Device) :
    (if b then { d with pins := { d.pins with fault := true } } else d) = { d with pins := { d.pins with fault := d.pins.fault || b } } := by
  cases b <;> simp

theorem journalMediaFault_first (op off : Nat) {d : Device} (hr : Rising d.regs) (hup : flashUp d 0 = true) :
    journalMediaFault 0 op off d =
      let e := fput oJnlStatus fJnlStatusJaFault 1 d
      journal 0x00F1 (leBytes 4 0 ++ leBytes 4 op ++ leBytes 8 off)
        (raiseDev 0x8006 0 0 0 { e with pins := { e.pins with fault := e.pins.fault || !flashUp d 1 } }) := by
  rw [journalMediaFault, if_pos hup]
  simp only [if_true, fault_ite, jnlDead_jaFault hr]

/-- Settles O52: a post is refused, taken or dropped as its type, its length and the queue's room say; PFAIL_N and a media fault of JF_A
reach the journal through the same intake. -/
theorem journalTakesRecords : Obligations.JournalTakesRecords := by
  unfold Obligations.JournalTakesRecords
  refine ⟨fun s v => ⟨fun h => ?_, fun h1 h2 h3 ht => ?_, fun h1 h2 h3 ht => ?_⟩, fun s type src bs hmem hlen ht => ?_,
    fun d type bs hc => ⟨rfl, jnlNextSeq_jnlPush type bs hc.regs_rising⟩, fun s hc hlive hdrops hroom => ?_, fun s op off hc hup => ?_⟩
  · exact exec_next rfl rfl (journalPost_refused h)
  · exact exec_next rfl rfl (journalPost_taken s.dev h1 h2 h3 ht)
  · exact exec_next rfl rfl (journalPost_dropped s.dev h1 h2 h3 ht)
  · exact exec_next rfl (journalIntake_wf src hmem hlen) (journalIntake_taken hmem ht)
  · exact exec_next rfl rfl (powerFail_records hc.regs_rising hlive hdrops hroom)
  · exact exec_next rfl rfl (journalMediaFault_first op off hc.regs_rising hup)

end Sys2Proof.Machine
end

section
/-! The journal reaches flash: a record programmed, a sector erased, two erased flashes scanned, and O53. -/

namespace Sys2Proof.Machine

/-! ## The bytes of a record (R500) -/

theorem le_recLen (n : Nat) : 40 + n ≤ recLen n := by
  unfold recLen ceilDiv
  omega

theorem length_recBytes (r : JRec) : (recBytes r).length + 1 = recLen r.payload.length := by
  have h := le_recLen r.payload.length
  simp only [recBytes, recHead, List.length_append, length_leBytes, List.length_replicate]
  omega

/-! ## Bytes programmed (R505) -/

/-- What programming leaves of every byte of a flash. -/
theorem flashAt_flashPut {off : Nat} (bs : List Byte) {f : Tab Byte} (h : Rising f) (k : Nat) :
    flashAt (flashPut off bs f) k = if off ≤ k ∧ k < off + bs.length then bs.getD (k - off) 0 else flashAt f k := by
  induction bs generalizing off f with
  | nil => rw [if_neg (by simp)]; rfl
  | cons b r ih =>
    rw [flashPut, ih (tabSet_rising _ off b f h), List.length_cons]
    by_cases hk : k = off
    · subst hk
      rw [if_neg (by omega), if_pos (by omega), Nat.sub_self, List.getD_cons_zero]
      exact tabGet_tabSet_same _ _ _ _ h
    · by_cases hin : off + 1 ≤ k ∧ k < off + 1 + r.length
      · obtain ⟨j, rfl⟩ : ∃ j, k = off + 1 + j := ⟨k - (off + 1), by omega⟩
        rw [if_pos hin, if_pos (by omega), Nat.add_sub_cancel_left, show off + 1 + j - off = j + 1 by omega, List.getD_cons_succ]
      · rw [if_neg hin, if_neg (by omega)]
        exact tabGet_tabSet_ne _ _ _ _ _ _ hk

/-- A whole record as it stands in flash has COMMIT as its last byte. -/
theorem length_recBytes_commit (r : JRec) : (recBytes r ++ [0x5A]).length = recLen r.payload.length := by
  rw [List.length_append, List.length_singleton, length_recBytes]

theorem flashAt_committed {off : Nat} (r : JRec) {f : Tab Byte} (h : Rising f) :
    (∀ k < recLen r.payload.length, flashAt (flashPut off (recBytes r ++ [0x5A]) f) (off + k) = (recBytes r ++ [0x5A]).getD k 0) ∧
    ∀ k, (k < off ∨ off + recLen r.payload.length ≤ k) → flashAt (flashPut off (recBytes r ++ [0x5A]) f) k = flashAt f k := by
  refine ⟨fun k hk => ?_, fun k hk => ?_⟩
  · rw [flashAt_flashPut _ h, length_recBytes_commit, if_pos (by omega), Nat.add_sub_cancel_left]
  · rw [flashAt_flashPut _ h, length_recBytes_commit, if_neg (by omega)]

/-- The device with a record programmed into both flashes at the write point, and q in the pending queue. -/
def recordWritten (r : JRec) (q : List JRec) (d : Device) : Device :=
  let n := recLen r.payload.length
  { d with jnl := { d.jnl with
      queue := q
      flashA := flashPut d.jnl.wp (recBytes r ++ [0x5A]) d.jnl.flashA
      flashB := flashPut d.jnl.wp (recBytes r ++ [0x5A]) d.jnl.flashB
      wp := recAfter d.jnl.wp n
      present := (d.jnl.present.filter fun x => decide (x.1 ≠ r.seq)) ++ [(r.seq, d.jnl.wp, n)] } }

theorem recordWritten_drops (r : JRec) (q : List JRec) (d : Device) : (recordWritten r q d).jnl.drops = d.jnl.drops := by
  simp only [recordWritten]

theorem recordWritten_takes (r : JRec) (q x : List JRec) (d : Device) :
    { recordWritten r q d with jnl := { (recordWritten r q d).jnl with queue := x } } = recordWritten r x d := by
  simp only [recordWritten]

theorem recPlace_within {wp l : Nat} (h : wp % 65536 ≠ 0) (hl : wp % 65536 + l ≤ 65536) : recPlace wp l = (wp, false) := by
  rw [recPlace, if_neg h, if_pos hl]

/-- A record that fits its sector and reads back from both flashes needs one attempt. -/
theorem writeTries_committed {r : JRec} {d : Device} (ks : List (Bool × Bool)) (ha : flashUp d 0 = true) (hb : flashUp d 1 = true)
    (hwp : d.jnl.wp % 65536 ≠ 0) (hfit : d.jnl.wp % 65536 + recLen r.payload.length ≤ 65536) :
    writeTries r ((true, true) :: ks) d = some (recordWritten r d.jnl.queue d) := by
  simp [writeTries, length_recBytes, recPlace_within hwp hfit, ha, hb, writeCopy, recordWritten]

/-! ## A record leaves the queue (R505) -/

theorem noteOldest_regsOnly (d : Device) : RegsOnly d (noteOldest d) := by
  unfold noteOldest
  split
  · exact fput_regsOnly _ _ _ d
  · exact .refl d

theorem RegsOnly.jnl {d e : Device} (h : RegsOnly d e) : e.jnl = d.jnl := by obtain ⟨_, rfl⟩ := h; rfl

/-- The only record of the queue, written without a failure: the queue is empty, and the counters of the journal have advanced. -/
theorem journalRecordWrite_committed {r : JRec} {d : Device} (kas kbs : List Bool) (ha : flashUp d 0 = true) (hb : flashUp d 1 = true)
    (hprio : d.jnl.prio = false) (hq : d.jnl.queue = [r]) (hdrops : d.jnl.drops = []) (hwp : d.jnl.wp % 65536 ≠ 0)
    (hfit : d.jnl.wp % 65536 + recLen r.payload.length ≤ 65536) :
    RegsOnly (recordWritten r [] d) (journalRecordWrite (true :: kas) (true :: kbs) d) := by
  have hnext : nextRec d = some r := by simp [nextRec, hprio, hq]
  have hempty : (recordWritten r [r] d).jnl.queue.erase r = [] := by simp [recordWritten]
  have hcounted := (noteOldest_regsOnly (recordWritten r [] d)).trans
    (.ite (b := (noteOldest (recordWritten r [] d)).jnl.present.any fun x => decide (x.1 = r.seq)) (perfOne_regsOnly 16 0x28 none 1 _) (.refl _))
  simp only [journalRecordWrite, jnlDead_of_flashUp ha, hnext, List.zip_cons_cons, writeTries_committed _ ha hb hwp hfit, hq, hempty,
    recordWritten_takes, Bool.false_eq_true, if_false]
  rw [noteDrops_none (by rw [hcounted.jnl, recordWritten_drops, hdrops])]
  exact hcounted

/-! ## An erase (R506) -/

/-- The device with a sector erased in both flashes. -/
def sectorErased (off : Nat) (d : Device) : Device :=
  { d with jnl := { d.jnl with
      flashA := tabDrop off 65536 d.jnl.flashA
      flashB := tabDrop off 65536 d.jnl.flashB
      erased := d.jnl.erased + 1
      present := d.jnl.present.filter fun x => decide (x.2.1 < off ∨ off + 65536 ≤ x.2.1) } }

theorem sectorErase_erases {d : Device} (ha : flashUp d 0 = true) (hb : flashUp d 1 = true) (he : d.jnl.erased < 8) :
    RegsOnly (sectorErased (jnlBase + oldestSector d * 65536) d) (sectorErase d) := by
  have hgo : ¬(8 ≤ d.jnl.erased ∨ jnlDead d = true) := by
    rw [jnlDead_of_flashUp ha]
    simpa using he
  simp only [sectorErase, if_neg hgo, ha, hb, if_true]
  exact noteOldest_regsOnly _

theorem flashAt_tabDrop (off : Nat) (f : Tab Byte) :
    (∀ k, off ≤ k → k < off + 65536 → flashAt (tabDrop off 65536 f) k = 0xFF) ∧
    ∀ k, (k < off ∨ off + 65536 ≤ k) → flashAt (tabDrop off 65536 f) k = flashAt f k :=
  ⟨fun k => tabGet_tabDrop_in _ off 65536 k f, fun k => tabGet_tabDrop_out _ off 65536 k f⟩

/-! ## A scan (R510, R511) -/

theorem erasedRun_unused (fuel s : Nat) : erasedRun [] fuel s = fuel := by
  induction fuel generalizing s with
  | zero => rfl
  | succ n ih => rw [erasedRun, ih, Nat.add_comm]; rfl

theorem journalRescan_erased {d : Device} (hr : fbit d oJnlStatus fJnlStatusRescan = true) (ha : d.jnl.flashA = [])
    (hb : d.jnl.flashB = []) :
    journalRescan d = { fput oJnlStatus fJnlStatusRescan 0 d with
      jnl := { d.jnl with present := [], wp := jnlBase, erased := jnlSectors } } := by
  have hlive : liveWindow d.jnl.flashA d.jnl.flashB = [] := by rw [ha, hb]; rfl
  have hused : usedSectors d.jnl.flashA ++ usedSectors d.jnl.flashB = [] := by rw [ha, hb]; rfl
  have hnone : newestRec [] = none := rfl
  simp only [journalRescan, hr, if_true, journalScan, hlive, hused, hnone, erasedRun_unused]
  rfl

/-- Settles O53: a record is one run of bytes programmed at the write point, an erase one range of both flashes dropped, and a scan of two
flashes without bytes finds every sector erased. -/
theorem journalReachesFlash : Obligations.JournalReachesFlash := by
  unfold Obligations.JournalReachesFlash
  refine ⟨fun s r hc ha hb hprio hq hdrops hwp hfit => ?_, fun s ha hb he => ?_, fun s hc hrescan ha hb => ?_⟩
  · obtain ⟨-, ⟨hfa, -⟩, ⟨hfb, -⟩, -⟩ := hc
    obtain ⟨hina, houta⟩ := flashAt_committed (off := s.dev.jnl.wp) r hfa
    obtain ⟨hinb, houtb⟩ := flashAt_committed (off := s.dev.jnl.wp) r hfb
    obtain ⟨x, hx⟩ := journalRecordWrite_committed [true, true] [true, true] ha hb hprio hq hdrops hwp hfit
    refine ⟨_, exec_next rfl rfl hx, rfl, ?_⟩
    simp only [recordWritten]
    exact ⟨trivial, trivial, List.mem_append_right _ List.mem_cons_self, fun k hk => ⟨hina k hk, hinb k hk⟩,
      fun k hk => ⟨houta k hk, houtb k hk⟩, trivial, trivial⟩
  · obtain ⟨hina, houta⟩ := flashAt_tabDrop (jnlBase + oldestSector s.dev * 65536) s.dev.jnl.flashA
    obtain ⟨hinb, houtb⟩ := flashAt_tabDrop (jnlBase + oldestSector s.dev * 65536) s.dev.jnl.flashB
    obtain ⟨x, hx⟩ := sectorErase_erases ha hb he
    exact ⟨_, exec_next rfl rfl hx, rfl, rfl, rfl, rfl, fun k h1 h2 => ⟨hina k h1 h2, hinb k h1 h2⟩,
      fun k hk => ⟨houta k hk, houtb k hk⟩, rfl, rfl⟩
  · exact ⟨_, exec_next rfl rfl (journalRescan_erased hrescan ha hb),
      fbit_fput_same (f := fJnlStatusRescan) 0 hc.regs_rising rfl (by decide)⟩

end Sys2Proof.Machine
end

section
/-! Freezes: what a capture holds, when it is made, and O54. -/

namespace Sys2Proof.Machine

/-! ## The capture (R525) -/

theorem frozen_capture {d : Device} (h : Rising d.regs) : frozen (capture d) = true := by
  have hfrozen : fbit (fput oObsCtrl fObsCtrlFrozen 1 d) oObsCtrl fObsCtrlFrozen = true := fbit_fput_same 1 h rfl (by decide)
  have hkeep : rget (capture d) oObsCtrl = rget (fput oObsCtrl fObsCtrlFrozen 1 d) oObsCtrl :=
    (rget_rput_ne _ _ _ _ (by decide)).trans (rget_rput_ne _ _ _ _ (by decide))
  rw [← hfrozen, frozen, fbit, fbit, fget, fget, hkeep]

theorem freezeTime_capture {d : Device} (h : Rising d.regs) :
    rget (capture d) (oFreezeTime 0) = BitVec.ofNat 32 d.clk.time ∧
    rget (capture d) (oFreezeTime 1) = BitVec.ofNat 32 (d.clk.time / 2 ^ 32) := by
  have hset : Rising (fput oObsCtrl fObsCtrlFrozen 1 d).regs := fput_rising _ _ _ _ h
  exact ⟨rget_rput_same _ _ _ (rput_rising _ _ _ hset), (rget_rput_ne _ _ _ _ (by decide)).trans (rget_rput_same _ _ _ hset)⟩

/-! ## When a capture is made (R524 to R526) -/

/-- Things that leave the device one after the other. -/
theorem foldl_emit {α : Type} (f : α → Out) (l : List α) (d : Device) :
    l.foldl (fun d x => emit (f x) d) d = { d with out := d.out ++ l.map f } := by
  induction l generalizing d with
  | nil => simp
  | cons x r ih => rw [List.foldl_cons, ih]; simp [emit]

section
variable {d : Device} (hf : frozen d = false)
include hf

theorem freeze_captures (hdom : fbit d oObsCtrl fObsCtrlDomainFreeze = false) : freeze d = capture d := by
  simp [freeze, hf, hdom]

theorem freeze_announces (hdom : fbit d oObsCtrl fObsCtrlDomainFreeze = true) (hdue : d.frz.due = none) :
    freeze d = { d with frz := { d.frz with due := some (d.clk.time + 2000) },
                        out := d.out ++ (otherSlots d).map fun k => .freezeFlit k (d.clk.time + 2000) } := by
  simp only [freeze, hf, hdom, hdue, if_true, Bool.false_eq_true, if_false, foldl_emit fun k => Out.freezeFlit k (d.clk.time + 2000)]

theorem freezeFlit_late {f : Nat} (h : f < d.clk.time) : freezeFlit f d = fput oObsCtrl fObsCtrlLate 1 (capture d) := by
  simp [freezeFlit, hf, h]

theorem freezeFlit_first {f : Nat} (h : d.clk.time ≤ f) (hdue : d.frz.due = none) :
    freezeFlit f d = { d with frz := { d.frz with due := some f } } := by
  simp [freezeFlit, hf, Nat.not_lt.mpr h, hdue]

theorem freezeCapture_due {f : Nat} (hdue : d.frz.due = some f) (h : f ≤ d.clk.time) : freezeCapture d = capture d := by
  simp [freezeCapture, hdue, h, hf]

end

/-- Settles O54: a freeze, a FREEZE flit and the time reached each choose the capture or the announcement by the branch that their
conditions select; a release clears FROZEN alone among the registers. -/
theorem freezesCaptureCounters : Obligations.FreezesCaptureCounters := by
  unfold Obligations.FreezesCaptureCounters
  refine ⟨fun s hf => ⟨fun hdom pin => exec_next rfl rfl (freeze_captures hf hdom),
      fun hdom hdue pin => exec_next rfl rfl (freeze_announces hf hdom hdue), fun f h => exec_next rfl rfl (freezeFlit_late hf h),
      fun f h hdue => exec_next rfl rfl (freezeFlit_first hf h hdue), fun f hdue h => exec_next rfl rfl (freezeCapture_due hf hdue h)⟩,
    fun d hc => ?_, fun s hc => ?_⟩
  · obtain ⟨hlow, hhigh⟩ := freezeTime_capture hc.regs_rising
    exact ⟨frozen_capture hc.regs_rising, rfl, rfl, rfl, hlow, hhigh, rfl, rfl⟩
  · let e : Device := { s.dev with frz := { s.dev.frz with picture := [], tiles := [] } }
    have hreleased : frozen (fput oObsCtrl fObsCtrlFrozen 0 e) = false :=
      fbit_fput_same (f := fObsCtrlFrozen) 0 (d := e) hc.regs_rising rfl (by decide)
    exact ⟨_, exec_next rfl rfl rfl, rfl, hreleased, rfl, rfl, rfl, fun off h => rget_fput_ne _ _ _ _ e h⟩

end Sys2Proof.Machine
end

section
/-! The trace port: packets queued, sent and dropped, the ends of milliseconds, and O55. -/

namespace Sys2Proof.Machine

/-! ## Packets queued and dropped (R534 to R536, R539) -/

theorem trcPut_fits {k : Nat} {p : TPkt} {d : Device} (hs : trcSrc d k = true)
    (h : fifoBytes (fifoOf d.trc k) + pktBytes p ≤ 65536) :
    trcPut k p d = { d with trc := setFifo k (fifoOf d.trc k ++ [p]) d.trc } := by
  rw [trcPut, if_pos hs, if_pos h]

theorem trcOwn_on {d : Device} (h : trcOn d = true) (p : TPkt) :
    trcOwn p d = { d with trc := { d.trc with own := d.trc.own ++ [p] } } := if_pos h

theorem trcOwn_off {d : Device} (h : trcOn d = false) (p : TPkt) : trcOwn p d = d := if_neg (by rw [h]; decide)

theorem tracePacketExpire_drops {k : Nat} {p : TPkt} {r : List TPkt} {d : Device} (hf : fifoOf d.trc k = p :: r)
    (h : p.since + 380000 ≤ d.clk.time) : tracePacketExpire k d = trcDrop k p { d with trc := setFifo k r d.trc } := by
  simp only [tracePacketExpire, hf, if_pos h]

theorem syncTimer_due {d : Device} (hon : trcOn d = true) (h : d.trc.lastSync + 8000000 ≤ d.clk.time) :
    syncTimer d = { d with trc := { d.trc with own := d.trc.own ++ [syncPkt d] } } :=
  (if_pos h).trans (trcOwn_on hon _)

/-! ## A packet leaves (R535, R537, R541) -/

/-- e is d with a packet sent: the port has noted it, and the hub may have counted its bytes. -/
def PacketLeft (p : TPkt) (d e : Device) : Prop :=
  ∃ u st ls n, RegsOnly { d with trc := { d.trc with stamps := st, lastSync := ls, sent := n }, out := d.out ++ [.trace p u] } e

/-- A packet other than SYNC leaves as it was queued. -/
theorem trcSend_left {p : TPkt} (src : Nat) (d : Device) (h : p.type ≠ 1) : PacketLeft p d (trcSend src p d) := by
  simp only [trcSend, if_neg h]
  exact ⟨_, _, _, _, perfOne_regsOnly _ _ _ _ _⟩

section
variable {d : Device} {p : TPkt} {r : List TPkt} (hon : trcOn d = true)
include hon

theorem tracePacketSend_alarm (ha : d.trc.alarms = p :: r) :
    tracePacketSend d = trcSend 4 p { d with trc := { d.trc with alarms := r } } := by
  simp [tracePacketSend, hon, ha]

theorem tracePacketSend_marker (ha : d.trc.alarms = []) (ho : d.trc.own = []) (hf : d.trc.fifo0 = p :: r)
    (hl : tabGet 0 0 d.trc.lostPk = 0) :
    tracePacketSend d = trcSend 0 p { d with trc := { d.trc with fifo0 := r } } := by
  have hfifo : fifoOf d.trc 0 = p :: r := hf
  have hready : readySrc d.trc = some 0 := by
    rw [readySrc, show List.range 4 = 0 :: [1, 2, 3] by decide]
    exact List.find?_cons_of_pos (by simp [hfifo])
  simp [tracePacketSend, hon, ha, ho, hready, hl, hfifo, setFifo]

end

/-! ## The end of an alarm's millisecond (R538) -/

section
variable {d : Device} {code src : Nat} {o : EvRec}
  (ho : d.trc.alarmOpen.find? (fun e => decide (e.code = code) && decide (e.source = src)) = some o)
include ho

theorem alarmMergeTimeout_closes (h : o.count = 0) :
    alarmMergeTimeout code src d = { d with trc := { d.trc with alarmOpen := d.trc.alarmOpen.erase o } } := by
  simp only [alarmMergeTimeout, ho, if_pos h]

theorem alarmMergeTimeout_sends (h : o.count ≠ 0) :
    alarmMergeTimeout code src d = { d with trc := { d.trc with
      alarmOpen := d.trc.alarmOpen.map fun y => if y = o then { o with count := 0 } else y
      alarms := d.trc.alarms ++ [{ type := 4, stamp := o.time, payload := leDWords (evBytes o 0), since := d.clk.time }] } } := by
  simp only [alarmMergeTimeout, ho, if_neg h]

end

/-- Settles O55: each command of the port is the branch of its meaning that its conditions select, and a packet that is sent changes the
port's notes, the hub's counters and what has left. -/
theorem tracePortSends : Obligations.TracePortSends := by
  unfold Obligations.TracePortSends
  refine ⟨fun s v hs hroom => exec_next rfl rfl (trcPut_fits hs hroom), fun s p r hon hp => ⟨fun ha => ?_, fun ha ho hf hl => ?_⟩,
    fun s p r hf h => exec_next rfl rfl (tracePacketExpire_drops hf h), fun s hon h => exec_next rfl rfl (syncTimer_due hon h),
    fun s code src o ho => ⟨fun h => exec_next rfl rfl (alarmMergeTimeout_closes ho h),
      fun h => exec_next rfl rfl (alarmMergeTimeout_sends ho h)⟩,
    fun s v => ⟨exec_next rfl rfl rfl, exec_next rfl rfl rfl⟩⟩
  · obtain ⟨u, _, _, _, _, hleft⟩ := trcSend_left 4 { s.dev with trc := { s.dev.trc with alarms := r } } hp
    exact ⟨_, u, exec_next rfl rfl ((tracePacketSend_alarm hon ha).trans hleft), rfl, rfl, rfl, rfl, rfl, rfl, rfl⟩
  · obtain ⟨u, _, _, _, _, hleft⟩ := trcSend_left 0 { s.dev with trc := { s.dev.trc with fifo0 := r } } hp
    exact ⟨_, u, exec_next rfl rfl ((tracePacketSend_marker hon ha ho hf hl).trans hleft), rfl, rfl, rfl, rfl, rfl, rfl, rfl, rfl⟩

end Sys2Proof.Machine
end

section
/-! Power states: what a change among them leaves, what SLEEP keeps, the wakes, and O57. -/

namespace Sys2Proof.Machine

/-! ## Outputs that follow the state (R487, R492) -/

theorem getLsbD_flags (a b c e : Bool) :
    let x := BitVec.ofNat 4 (b2n a + 2 * b2n b + 4 * b2n c + 8 * b2n e)
    x.getLsbD 0 = a ∧ x.getLsbD 1 = b ∧ x.getLsbD 2 = c ∧ x.getLsbD 3 = e := by
  revert a b c e
  decide

theorem illumSafe_outputs (d : Device) : IllumSafe (outputs d) := by
  intro n hn h
  obtain ⟨h0, h1, h2, h3⟩ := getLsbD_flags (illumOn d 0) (illumOn d 1) (illumOn d 2) (illumOn d 3)
  match n, hn with
  | 0, _ => exact h0.symm.trans h
  | 1, _ => exact h1.symm.trans h
  | 2, _ => exact h2.symm.trans h
  | 3, _ => exact h3.symm.trans h

theorem trigSafe_outputs (d : Device) : TrigSafe (outputs d) := fun h => outputs_trig d h

/-- Outside RUN, IDLE and STANDBY every output is low. -/
theorem outputs_unpowered {d : Device} (h : powered d = false) : (outputs d).pins.trig = 0 ∧ (outputs d).pins.illum = 0 :=
  ⟨outputs_trig d (by simp [trigBlocked, h]), outputs_illum fun n => by simp [illumOn, h]⟩

/-! ## A change among RUN, IDLE and STANDBY (R540, R561, R562) -/

/-- The trace gets POWER_STATE and SYNC while it is on; beside it the power state and the outputs change. -/
theorem powerTo_changes {d : Device} {p : Power} (h : d.clk.power ≠ p) :
    ∃ t, powerTo p d = outputs { d with trc := t, clk := { d.clk with power := p, standbyWanted := false } } ∧
      (trcOn d = true → t.own = d.trc.own ++ [powerPkt (powerCode d.clk.power) (powerCode p) 0 d, syncPkt d]) := by
  rw [powerTo, if_neg h]
  cases hon : trcOn d with
  | false =>
    simp only [trcOwn_off hon]
    exact ⟨d.trc, rfl, nofun⟩
  | true =>
    let e : Device := { d with trc := { d.trc with own := d.trc.own ++ [powerPkt (powerCode d.clk.power) (powerCode p) 0 d] } }
    have hon' : trcOn e = true := hon
    have hsync : syncPkt e = syncPkt d := rfl
    simp only [trcOwn_on hon]
    rw [trcOwn_on hon', hsync]
    exact ⟨_, rfl, fun _ => List.append_assoc _ _ _⟩

theorem idleEntry_quiet {d : Device} (hp : d.clk.power = .run) (hc : d.cmds = []) (hf : anyFixedTime d = false)
    (ht : d.clk.busyAt + fget d oPwrState fPwrStateIdleUs * 1000 ≤ d.clk.time) : idleEntry d = powerTo .idle d :=
  if_pos ⟨hp, hc, by rw [hf]; rfl, ht⟩

theorem standbyEntry_wanted {d : Device} (hw : d.clk.standbyWanted = true) (hp : powered d = true) (hc : d.cmds = []) :
    standbyEntry d = powerTo .standby d := if_pos ⟨hw, hp, hc⟩

/-! ## SLEEP (R563, R565) -/

theorem tracePacketSend_off {d : Device} (h : trcOn d = false) : tracePacketSend d = d := if_pos (by rw [h]; rfl)

theorem trcDrain_off {d : Device} (h : trcOn d = false) (n : Nat) : trcDrain n d = d := by
  induction n with
  | zero => rfl
  | succ n ih => rw [trcDrain, tracePacketSend_off h, ih]

/-- The device whose main dies have lost their power on a request of SLEEP. -/
def asleep (d : Device) : Device :=
  { mainReset d with
    clk := { (mainReset d).clk with power := .sleep, sleepAt := d.clk.time }
    pins := { (mainReset d).pins with mainEn := false } }

theorem powered_asleep (d : Device) : powered (asleep d) = false := rfl

theorem reqSleep_refused {d : Device} (hp : powered d = true) (h : sleepRefused d = true) :
    reqSleep d = fput oPwrState fPwrStatePwrErr 1 d := by simp [reqSleep, hp, h]

theorem reqSleep_sleeps {d : Device} (hp : powered d = true) (h : sleepRefused d = false) (ht : trcOn d = false) :
    reqSleep d = outputs (asleep d) := by
  simp only [reqSleep, hp, h, trcDrain_off ht, ht, Bool.not_true, Bool.false_eq_true, if_false]
  rfl

/-- The registers of the always-on domain keep what they hold. -/
theorem rget_asleep {off : Nat} (h : alwaysOn off = true) (d : Device) : rget (asleep d) off = rget d off :=
  tabGet_filter_in _ alwaysOn d.regs h

/-! ## Waking (R564) -/

theorem sleepTimerWake_due {d : Device} (hp : d.clk.power = .sleep) (hw : (rget d oSleepTimer).toNat ≠ 0)
    (ht : d.clk.sleepAt + (rget d oSleepTimer).toNat * 1000000000 ≤ d.clk.time) :
    sleepTimerWake d = { d with clk := { d.clk with power := .waking }, pins := { d.pins with mainEn := true } } :=
  (if_pos ⟨hw, ht⟩).trans (if_pos hp)

theorem sleepTimerWake_unset {d : Device} (hw : (rget d oSleepTimer).toNat = 0) : sleepTimerWake d = d :=
  if_neg fun h => h.1 hw

theorem perstRise_wakes {d : Device} (hp : d.clk.power = .sleep) :
    perstRise d = { d with clk := { d.clk with power := .waking }, pins := { d.pins with mainEn := true, perstN := true },
                           pcie := { d.pcie with held := false } } := if_pos hp

/-- Settles O57: each request is the branch of its meaning that its conditions select; SLEEP is `asleep`, where no output may be high and
the registers that are kept are those of the always-on domain. -/
theorem powerStatesChange : Obligations.PowerStatesChange := by
  unfold Obligations.PowerStatesChange
  refine ⟨fun s hc => ⟨fun hp hf ht => exec_next rfl rfl (idleEntry_quiet hp hc hf ht),
      fun hp hw => exec_next rfl rfl (standbyEntry_wanted hw hp hc)⟩,
    fun s hp => ⟨exec_next rfl rfl (if_pos hp), exec_next rfl rfl (if_pos hp), fun h => exec_next rfl rfl (reqSleep_refused hp h),
      fun h ht => ?_⟩,
    fun d p h => ?_,
    fun s hp => ⟨fun hw ht => exec_next rfl rfl (sleepTimerWake_due hp hw ht), fun hw => exec_next rfl rfl (sleepTimerWake_unset hw),
      exec_next rfl rfl (perstRise_wakes hp)⟩⟩
  · obtain ⟨htrig, hillum⟩ := outputs_unpowered (powered_asleep s.dev)
    exact ⟨_, exec_next rfl rfl (reqSleep_sleeps hp h ht), rfl, rfl, rfl, rfl, rfl, htrig, hillum, rfl, rfl, rfl, rfl, rfl,
      fun off ho _ => rget_asleep ho s.dev⟩
  · obtain ⟨t, heq, hown⟩ := powerTo_changes h
    rw [heq]
    exact ⟨rfl, illumSafe_outputs _, trigSafe_outputs _, hown, rfl, rfl⟩

end Sys2Proof.Machine
end

section
/-! Power and temperature: what reports leave of the sensors' registers, windows, divisions and sensor updates, and O58. -/

namespace Sys2Proof.Machine

/-! ## Registers that an operation leaves (R597) -/

/-- The registers of P read the same in both. -/
def RegsKept (P : Nat → Prop) (d e : Device) : Prop := ∀ o, P o → rget e o = rget d o

section
variable {P : Nat → Prop}

theorem RegsKept.refl (d : Device) : RegsKept P d d := fun _ _ => rfl

theorem RegsKept.trans {d e f : Device} (h : RegsKept P d e) (k : RegsKept P e f) : RegsKept P d f := fun o ho => (k o ho).trans (h o ho)

theorem RegsKept.ite {b : Prop} [Decidable b] {d e f : Device} (h : RegsKept P d e) (k : RegsKept P d f) :
    RegsKept P d (if b then e else f) := by split <;> assumption

theorem RegsKept.foldl {α : Type} {f : Device → α → Device} (hf : ∀ d x, RegsKept P d (f d x)) (l : List α) (d : Device) :
    RegsKept P d (l.foldl f d) := by
  induction l generalizing d with
  | nil => exact .refl d
  | cons x r ih => exact (hf d x).trans (ih _)

theorem RegsKept.congr {d e : Device} (h1 : e.regs = d.regs := by rfl) (h2 : e.variant = d.variant := by rfl)
    (h3 : e.straps = d.straps := by rfl) : RegsKept P d e := fun o _ => rget_congr h1 h2 h3 o

theorem rput_regsKept {off : Nat} (w : Word) (d : Device) (h : ¬ P off) : RegsKept P d (rput off w d) :=
  fun _ ho => rget_rput_ne _ _ _ _ fun he => h (he ▸ ho)

theorem fput_regsKept {off : Nat} (f : Fld) (v : Nat) (d : Device) (h : ¬ P off) : RegsKept P d (fput off f v d) := rput_regsKept _ d h
theorem fsat_regsKept {off : Nat} (f : Fld) (n : Nat) (d : Device) (h : ¬ P off) : RegsKept P d (fsat off f n d) := rput_regsKept _ d h

theorem RegsKept.fget {d e : Device} (h : RegsKept P d e) {o : Nat} (ho : P o) (f : Fld) : fget e o f = fget d o f := by
  rw [Machine.fget, h o ho, Machine.fget]

end

/-- Words put into registers of a family: each reads back, and every other register is as before. -/
theorem rget_foldl_rput {o : Nat → Nat} (hinj : ∀ i j, i ≠ j → o i ≠ o j) (w : Nat → Word) (d : Device) (h : Rising d.regs)
    (n : Nat) :
    let e := (List.range n).foldl (fun d k => rput (o k) (w k) d) d
    Rising e.regs ∧ (∀ k < n, rget e (o k) = w k) ∧ ∀ off, (∀ k < n, off ≠ o k) → rget e off = rget d off := by
  induction n with
  | zero => exact ⟨h, nofun, fun _ _ => rfl⟩
  | succ n ih =>
    obtain ⟨hr, hin, hout⟩ := ih
    simp only [List.range_succ, List.foldl_append, List.foldl_cons, List.foldl_nil]
    refine ⟨rput_rising _ _ _ hr, fun k hk => ?_, fun off ho => ?_⟩
    · rcases Nat.lt_succ_iff_lt_or_eq.mp hk with hlt | rfl
      · rw [rget_rput_ne _ _ _ _ (hinj k n (Nat.ne_of_lt hlt)), hin k hlt]
      · exact rget_rput_same _ _ _ hr
    · rw [rget_rput_ne _ _ _ _ (ho n n.lt_succ_self), hout off fun k hk => ho k (Nat.lt_succ_of_lt hk)]

/-! ## What an event of the device leaves of clocks and sensors (R389 to R392) -/

/-- Registers that reports of the device leave: those below the journal's, and of the observability block those of the sensors. -/
def Unreported (o : Nat) : Prop := o < 0x4000 ∨ (0x80000 ≤ o ∧ o < 0x84000)

theorem journal_unreported (t : Nat) (bs : List Byte) (d : Device) : RegsKept Unreported d (journal t bs d) := by
  obtain ⟨-, -, -, hr⟩ := journal_frame t bs d
  exact fun o ho => hr o (by unfold Unreported at ho; unfold oJnlNextSeq; omega) (by unfold Unreported at ho; unfold oJnlDrops; omega)

theorem faultLog_unreported (code : Nat) (d : Device) : RegsKept Unreported d (faultLog code d) := by
  have hput {i : Nat} (hi : i < 16) (v w : Word) (d : Device) : RegsKept Unreported d (rput (oFaultLog i) v (rput (oFaultTime i) w d)) :=
    (rput_regsKept w d (by unfold Unreported oFaultTime; omega)).trans (rput_regsKept v _ (by unfold Unreported oFaultLog; omega))
  exact (RegsKept.foldl (fun d k => hput (by omega) _ _ d) _ d).trans (hput (by omega) _ _ _)

theorem evDeliver_unreported (e : EvRec) (d : Device) : RegsKept Unreported d (evDeliver 0 e d) := by
  have hmsix (v : Nat) (d : Device) : RegsKept Unreported d (msixSend 0 v d) :=
    .ite (.refl d) (.ite (rput_regsKept _ d (by unfold Unreported msixPba oMsixPba; rw [if_pos rfl]; omega)) .congr)
  have hwrite : RegsKept Unreported d (evWrite 0 e d) := (RegsKept.congr (d := d)).trans (hmsix _ _)
  have hheld (l : List EvRec) (n : Nat) : RegsKept Unreported d (fsat (oEqLost 0) fEqLostLost n (setPart 0 { partOf d 0 with evHeld := l } d)) :=
    (RegsKept.congr (d := d)).trans (fsat_regsKept _ _ _ (by unfold Unreported oEqLost; omega))
  exact .ite hwrite (hheld _ _)

theorem evTrace_unreported (e : EvRec) (d : Device) : RegsKept Unreported d (evTrace e d) := by
  have htrc (t : Trace) : RegsKept Unreported d { d with trc := t } := .congr
  have hdrop (k : TPkt) : RegsKept Unreported d (trcDrop 1 k d) :=
    (RegsKept.congr (d := d)).trans (fsat_regsKept _ _ _ (by unfold Unreported oTrcLoss; omega))
  unfold evTrace trcPut
  exact .ite (.ite (.ite (htrc _) (.ite (htrc _) (htrc _))) (.refl d)) (.ite (.ite (htrc _) (hdrop _)) (.refl d))

theorem evJournal_unreported (e : EvRec) (d : Device) : RegsKept Unreported d (evJournal e d) := by
  unfold evJournal
  exact .ite (.ite (faultLog_unreported _ d) (journal_unreported _ _ d)) (.ite (journal_unreported _ _ d) (.refl d))

theorem raiseDev_unreported (code source a0 a1 : Nat) (d : Device) : RegsKept Unreported d (raiseDev code source a0 a1 d) := by
  have hset (l : List EvRec) : RegsKept Unreported d (setPart 0 { partOf d 0 with evOpen := l } d) := .congr
  have hdel (e : EvRec) (l : List EvRec) := (hset l).trans (evDeliver_unreported e _)
  unfold raiseDev raise raiseAt
  exact .ite (.ite ((hset _).trans (evJournal_unreported _ _)) (hset _))
    (.ite (((hdel _ _).trans (evTrace_unreported _ _)).trans (evJournal_unreported _ _)) (hdel _ _))

/-! ## A window of power (R519, R558) -/

theorem setPower_regsOnly (ps : List Nat) (pkg : Nat) (d : Device) : RegsOnly d (setPower ps pkg d) :=
  (RegsOnly.foldl (fun d _ => rput_regsOnly _ _ d) _ d).trans (rput_regsOnly _ _ _)

/-- PKG_POWER and DIE_POWER read as measured, and the registers below them as before. -/
theorem setPower_reads (ps : List Nat) (pkg : Nat) {d : Device} (h : Rising d.regs) :
    let e := setPower ps pkg d
    rget e oPkgPower = BitVec.ofNat 32 pkg ∧ (∀ k < 5, rget e (oDiePower k) = BitVec.ofNat 32 (ps.getD k 0)) ∧
      RegsKept (· < 0x83000) d e := by
  obtain ⟨hr, hin, hout⟩ :=
    rget_foldl_rput (o := oDiePower) (by unfold oDiePower; omega) (fun k => BitVec.ofNat 32 (ps.getD k 0)) d h 5
  refine ⟨rget_rput_same _ _ _ hr, fun k hk => ?_, fun o ho => ?_⟩
  · exact (rget_rput_ne _ _ _ _ (by unfold oDiePower oPkgPower; omega)).trans (hin k hk)
  · exact (rget_rput_ne _ _ _ _ (by unfold oPkgPower; omega)).trans (hout o fun k _ => by unfold oDiePower; omega)

section
variable {d : Device} (hr : Rising d.regs) (ps : List Nat) {pkg : Nat}
include hr

/-- What a window compares with is as it was before the powers were reported. -/
theorem setPower_decides :
    (setPower ps pkg d).clk = d.clk ∧ fget (setPower ps pkg d) oPwrCap fPwrCapCapW = fget d oPwrCap fPwrCapCapW ∧
      ∀ x, divNow { setPower ps pkg d with clk := x } = divNow d := by
  obtain ⟨-, -, hkept⟩ := setPower_reads ps pkg hr
  have hdiv : divNow (setPower ps pkg d) = divNow d := hkept.fget (o := oAclkCtrl) (by decide) fAclkCtrlDiv
  refine ⟨?_, hkept.fget (by decide) _, fun _ => hdiv⟩
  obtain ⟨_, hs⟩ := setPower_regsOnly ps pkg d
  rw [hs]

/-- Below the cap, after windows that were not below 0.95 of it: tiles start without delay, and the division stays. -/
theorem powerWindow_under (h : pkg ≤ fget d oPwrCap fPwrCapCapW * 1000) (hhot : d.clk.hot = []) (hu : d.clk.capUnder = 0) :
    ∃ n, powerWindow ps pkg 0 0 d =
      { setPower ps pkg d with clk := { d.clk with capOver := 0, capUnder := n, delayTiles := false } } := by
  obtain ⟨hclk, hcap, -⟩ := setPower_decides hr ps (pkg := pkg)
  have hno : ¬(fget d oPwrCap fPwrCapCapW * 1000 < pkg ∨ d.clk.hot ≠ []) := by simpa [hhot] using h
  have hfew : (if pkg * 100 < fget d oPwrCap fPwrCapCapW * 1000 * 95 then 0 + 1 else 0) < 10 := by split <;> decide
  simp only [powerWindow, ne_eq, not_true, and_false, if_false, if_true, hclk, hcap, if_neg hno, hu,
    decide_eq_false (Nat.not_le.mpr hfew), Bool.false_eq_true]
  exact ⟨_, rfl⟩

/-- Above the cap tile starts are delayed; the second such window in a row wants the division one slower. -/
theorem powerWindow_over (h : fget d oPwrCap fPwrCapCapW * 1000 < pkg) :
    ∃ n v, powerWindow ps pkg 0 0 d =
        { setPower ps pkg d with clk := { d.clk with capOver := n, capUnder := 0, delayTiles := true, divWanted := v } } ∧
      (d.clk.delayTiles = true → 1 ≤ d.clk.capOver → slower (divNow d) ≠ divNow d → v = some (slower (divNow d))) ∧
      (d.clk.delayTiles = false → v = d.clk.divWanted) := by
  obtain ⟨hclk, hcap, hdiv⟩ := setPower_decides hr ps (pkg := pkg)
  simp only [powerWindow, ne_eq, not_true, and_false, if_false, if_true, hclk, hcap, if_pos (Or.inl h), wantDiv, hdiv]
  cases hdelay : d.clk.delayTiles with
  | false => exact ⟨_, _, rfl, nofun, fun _ => rfl⟩
  | true =>
    by_cases hover : 2 ≤ d.clk.capOver + 1
    · by_cases hsame : slower (divNow d) = divNow d
      · simp only [if_true, if_pos hover, if_pos hsame]
        exact ⟨_, _, rfl, fun _ _ hne => absurd hsame hne, nofun⟩
      · simp only [if_true, if_pos hover, if_neg hsame]
        exact ⟨_, _, rfl, fun _ _ _ => rfl, nofun⟩
    · simp only [if_true, if_neg hover]
      exact ⟨_, _, rfl, fun _ hone => absurd (Nat.succ_le_succ hone) hover, nofun⟩

end

theorem aclkDivChange_decided {v : Nat} {d : Device} (h : d.clk.divWanted = some v) :
    aclkDivChange v d = fput oAclkCtrl fAclkCtrlDiv v
      { d with clk := { d.clk with divWanted := none }, pins := { d.pins with coreVid := vidOf v } } := if_pos h

/-! ## An update of the sensors (R519, R559, R560) -/

/-- TEMP and TEMP_MAX of a die read as its sensors. -/
def DieReads (k : Nat) (l : List Int) (d : Device) : Prop :=
  rget d (oTempMax k) = BitVec.ofNat 32 (unsigned 16 (hottest l)) ∧
  ∀ j < 8, rget d (oTemp k j) = BitVec.ofNat 32 (unsigned 16 (l.getD j 0))

/-- A register of TEMP or TEMP_MAX of die k. -/
def DieReg (k o : Nat) : Prop := o = oTempMax k ∨ ∃ j < 8, o = oTemp k j

theorem dieReg_apart {i k o : Nat} (hi : i < 5) (hk : k < 5) (h : DieReg i o) (hne : i ≠ k) : ¬ DieReg k o := by
  unfold DieReg oTempMax oTemp at *
  rintro (hm | ⟨j, hj, hm⟩) <;> rcases h with h | ⟨x, hx, h⟩ <;> omega

theorem dieReg_unreported {k o : Nat} (hk : k < 5) (h : DieReg k o) : Unreported o := by
  unfold DieReg oTempMax oTemp at h
  unfold Unreported
  rcases h with h | ⟨j, hj, h⟩ <;> omega

/-- e is d after sensor updates: the dies' hot counts, and what events report. -/
def Sensed (d e : Device) : Prop := ∃ x, Reported { d with clk := { d.clk with hot := x } } e

theorem Sensed.trans {d e f : Device} (h : Sensed d e) (k : Sensed e f) : Sensed d f := by
  obtain ⟨_, _, _, _, _, _, rfl⟩ := h
  obtain ⟨x, r, p, t, j, o, rfl⟩ := k
  exact ⟨x, r, p, t, j, o, rfl⟩

/-- A die's registers set to its sensors' values. -/
def tempSet (k : Nat) (l : List Int) (d : Device) : Device :=
  rput (oTempMax k) (BitVec.ofNat 32 (unsigned 16 (hottest l)))
    ((List.range 8).foldl (fun d s => rput (oTemp k s) (BitVec.ofNat 32 (unsigned 16 (l.getD s 0))) d) d)

theorem tempSet_reads {k : Nat} (hk : k < 5) (l : List Int) {d : Device} (h : Rising d.regs) :
    DieReads k l (tempSet k l d) ∧ RegsKept (¬ DieReg k ·) d (tempSet k l d) := by
  obtain ⟨hr, hin, hout⟩ :=
    rget_foldl_rput (o := oTemp k) (by unfold oTemp; omega) (fun j => BitVec.ofNat 32 (unsigned 16 (l.getD j 0))) d h 8
  refine ⟨⟨rget_rput_same _ _ _ hr, fun j hj => ?_⟩, fun o ho => ?_⟩
  · exact (rget_rput_ne _ _ _ _ (by unfold oTemp oTempMax; omega)).trans (hin j hj)
  · exact (rget_rput_ne _ _ _ _ fun he => ho (.inl he)).trans (hout o fun j hj he => ho (.inr ⟨j, hj, he⟩))

theorem tempSet_canonical (k : Nat) (l : List Int) {d : Device} (h : Canonical d) : Canonical (tempSet k l d) :=
  rput_canonical _ _ _ (foldl_canonical _ (fun d _ hd => rput_canonical _ _ d hd) _ d h)

theorem tempSet_reported (k : Nat) (l : List Int) (d : Device) : Reported d (tempSet k l d) :=
  (Reported.foldl _ (fun d _ => rput_reported _ _ d) _ d).trans (rput_reported _ _ _)

/-- A die's update sets its registers, may raise an event, and counts how long the die has been hot. -/
theorem tempDie_eq (k : Nat) (l : List Int) (d : Device) :
    ∃ x, tempDie k l d = { tempSet k l d with clk := { d.clk with hot := x } } ∨
      tempDie k l d = { raiseDev 0x8007 k (unsigned 32 (hottest l / 16)) 0 (tempSet k l d) with clk := { d.clk with hot := x } } := by
  have hset : (tempSet k l d).clk = d.clk := (tempSet_reported k l d).clk
  have hraise : (raiseDev 0x8007 k (unsigned 32 (hottest l / 16)) 0 (tempSet k l d)).clk = d.clk :=
    (raiseDev_reported _ _ _ _ _).clk.trans hset
  unfold tempDie
  dsimp only
  split
  · exact ⟨_, .inr (by rw [← hraise]; rfl)⟩
  · exact ⟨_, .inl (by rw [← hset]; rfl)⟩

theorem tempDie_reads {k : Nat} (hk : k < 5) (l : List Int) {d : Device} (h : Canonical d) :
    Canonical (tempDie k l d) ∧ Sensed d (tempDie k l d) ∧ DieReads k l (tempDie k l d) ∧
      RegsKept (fun o => Unreported o ∧ ¬ DieReg k o) d (tempDie k l d) := by
  obtain ⟨⟨hmax, htemp⟩, hkept⟩ := tempSet_reads hk l h.regs_rising
  have hcan := tempSet_canonical k l h
  obtain ⟨_, _, _, _, _, hrep⟩ := tempSet_reported k l d
  obtain ⟨x, heq | heq⟩ := tempDie_eq k l d
  · rw [heq]
    exact ⟨hcan.congr, ⟨x, _, _, _, _, _, by rw [hrep]⟩, ⟨hmax, htemp⟩, fun o ho => hkept o ho.2⟩
  · have hun := raiseDev_unreported 0x8007 k (unsigned 32 (hottest l / 16)) 0 (tempSet k l d)
    obtain ⟨_, _, _, _, _, hev⟩ := raiseDev_reported 0x8007 k (unsigned 32 (hottest l / 16)) 0 (tempSet k l d)
    rw [heq]
    refine ⟨(raiseDev_canonical _ _ _ _ _ hcan).congr, ⟨x, _, _, _, _, _, by rw [hev, hrep]⟩, ⟨?_, fun j hj => ?_⟩, fun o ho => ?_⟩
    · exact (hun _ (dieReg_unreported hk (.inl rfl))).trans hmax
    · exact (hun _ (dieReg_unreported hk (.inr ⟨j, hj, rfl⟩))).trans (htemp j hj)
    · exact (hun o ho.1).trans (hkept o ho.2)

/-- The dies from 0 to n - 1 updated. -/
def diesSensed (ts : List (List Int)) (n : Nat) (d : Device) : Device := (List.range n).foldl (fun d k => tempDie k (ts.getD k []) d) d

/-- Each die that was updated reads as its sensors, and the registers below the journal's are as before. -/
theorem diesSensed_reads (ts : List (List Int)) {n : Nat} (hn : n ≤ 5) {d : Device} (h : Canonical d) :
    Canonical (diesSensed ts n d) ∧ Sensed d (diesSensed ts n d) ∧ (∀ k < n, DieReads k (ts.getD k []) (diesSensed ts n d)) ∧
      RegsKept (· < 0x4000) d (diesSensed ts n d) := by
  induction n with
  | zero => exact ⟨h, ⟨d.clk.hot, .refl d⟩, nofun, .refl d⟩
  | succ n ih =>
    obtain ⟨hcan, hsensed, hreads, hkept⟩ := ih (Nat.le_of_succ_le hn)
    obtain ⟨hcan', hsensed', hreads', hkept'⟩ := tempDie_reads hn (ts.getD n []) hcan
    have hstep : diesSensed ts (n + 1) d = tempDie n (ts.getD n []) (diesSensed ts n d) := by
      simp only [diesSensed, List.range_succ, List.foldl_append, List.foldl_cons, List.foldl_nil]
    rw [hstep]
    refine ⟨hcan', hsensed.trans hsensed', fun k hk => ?_, hkept.trans fun o ho => hkept' o ⟨.inl ho, ?_⟩⟩
    · rcases Nat.lt_succ_iff_lt_or_eq.mp hk with hlt | rfl
      · have hold {o : Nat} (ho : DieReg k o) : rget (tempDie n (ts.getD n []) (diesSensed ts n d)) o = rget (diesSensed ts n d) o :=
          hkept' o ⟨dieReg_unreported (by omega) ho, dieReg_apart (by omega) hn ho (by omega)⟩
        obtain ⟨hmax, htemp⟩ := hreads k hlt
        exact ⟨(hold (.inl rfl)).trans hmax, fun j hj => (hold (.inr ⟨j, hj, rfl⟩)).trans (htemp j hj)⟩
      · exact hreads'
    · unfold DieReg oTempMax oTemp
      rintro (he | ⟨j, -, he⟩) <;> omega

/-- The trip limit in 1/16 °C. -/
def tripOf (d : Device) : Int := (fget d oThermCfg fThermCfgTripC : Int) * 16

/-- The first die at the trip limit, after an update. -/
def hotDie (ts : List (List Int)) (d : Device) : Option Nat :=
  (List.range 5).find? fun k => decide (tripOf d ≤ hottest (ts.getD k []))

/-- An update that takes no bandwidth looks for a die at the limit that THERM_CFG gave before it. -/
theorem hotDie_diesSensed (ts : List (List Int)) {d : Device} (h : Canonical d) : hotDie ts (diesSensed ts 5 d) = hotDie ts d := by
  obtain ⟨-, -, -, hkept⟩ := diesSensed_reads ts (Nat.le_refl 5) h
  rw [hotDie, tripOf, hkept.fget (by decide), hotDie, tripOf]

theorem tempUpdate_cool {ts : List (List Int)} {d : Device} (h : Canonical d) (hk : hotDie ts d = none) :
    tempUpdate ts 0 d = diesSensed ts 5 d := by
  have hfind := (hotDie_diesSensed ts h).trans hk
  unfold hotDie tripOf diesSensed at hfind
  simp only [tempUpdate, if_true, hfind]
  rfl

theorem tempUpdate_hot {ts : List (List Int)} {d : Device} {k : Nat} (h : Canonical d) (hk : hotDie ts d = some k) :
    tempUpdate ts 0 d =
      if powered (diesSensed ts 5 d) then
        thermalTrip (raiseDev 0x8007 k (unsigned 32 (hottest (ts.getD k []) / 16)) 0 (diesSensed ts 5 d))
      else diesSensed ts 5 d := by
  have hfind := (hotDie_diesSensed ts h).trans hk
  unfold hotDie tripOf diesSensed at hfind
  simp only [tempUpdate, if_true, hfind]
  rfl

theorem thermalTrip_low (d : Device) :
    let e := thermalTrip d
    e.clk.power = .tripped ∧ e.pins.mainEn = false ∧ e.pins.illum = 0 ∧ e.pins.trig = 0 ∧ e.cmds = [] ∧ e.mem = [] := by
  obtain ⟨htrig, hillum⟩ := outputs_unpowered
    (d := { mainReset d with clk := { (mainReset d).clk with power := .tripped }, pins := { (mainReset d).pins with mainEn := false } }) rfl
  exact ⟨rfl, rfl, hillum, htrig, rfl, rfl⟩

theorem Sensed.powered {d e : Device} (h : Sensed d e) : powered e = powered d := by
  obtain ⟨x, h⟩ := h
  rw [Machine.powered, h.clk, Machine.powered]

section
variable {ts : List (List Int)} {d : Device} (hlen : ts.length = 5) (hc : Canonical d)
include hlen hc

theorem tempUpdate_below (h : ∀ x ∈ ts, hottest x < tripOf d) : tempUpdate ts 0 d = diesSensed ts 5 d := by
  refine tempUpdate_cool hc (List.find?_eq_none.mpr fun k hk => ?_)
  have hk : k < ts.length := hlen ▸ List.mem_range.mp hk
  rw [← List.getElem_eq_getD (h := hk)]
  simpa using h _ (List.getElem_mem hk)

theorem tempUpdate_trips (h : ∃ x ∈ ts, tripOf d ≤ hottest x) (hp : powered d = true) : ∃ e, tempUpdate ts 0 d = thermalTrip e := by
  obtain ⟨x, hx, hhot⟩ := h
  obtain ⟨k, hk, rfl⟩ := List.getElem_of_mem hx
  obtain ⟨-, hsensed, -, -⟩ := diesSensed_reads ts (Nat.le_refl 5) hc
  cases hfind : hotDie ts d with
  | some j => exact ⟨_, (tempUpdate_hot hc hfind).trans (if_pos (hsensed.powered.trans hp))⟩
  | none =>
    have hcold := List.find?_eq_none.mp hfind k (List.mem_range.mpr (hlen ▸ hk))
    rw [← List.getElem_eq_getD (h := hk)] at hcold
    exact absurd (decide_eq_true hhot) hcold

end

theorem toNat_unsigned16 (z : Int) : (BitVec.ofNat 32 (unsigned 16 z)).toNat = unsigned 16 z := by
  rw [BitVec.toNat_ofNat]
  unfold unsigned
  omega

/-- Settles O58: a window's decision follows from the powers that it has reported; an update sets the registers of one die after the
other, which no event of the device touches, and trips when the first die at the limit is found. -/
theorem powerAndTemperature : Obligations.PowerAndTemperature := by
  unfold Obligations.PowerAndTemperature
  refine ⟨fun s ps pkg hlen hc => ?_, fun s v hv h => exec_next rfl (decide_eq_true hv) (aclkDivChange_decided h),
    fun s ts hlen hsensors hc => ?_⟩
  · have hwf : (Instr.powerWindow ps pkg 0 0).wf = true := decide_eq_true hlen
    obtain ⟨hpkg, hdie, -⟩ := setPower_reads ps pkg hc.regs_rising
    obtain ⟨r, hset⟩ := setPower_regsOnly ps pkg s.dev
    rw [hset] at hpkg hdie
    refine ⟨fun h hhot hu => ?_, fun h => ?_⟩
    · obtain ⟨n, heq⟩ := powerWindow_under hc.regs_rising ps h hhot hu
      rw [hset] at heq
      exact ⟨_, exec_next rfl hwf heq, rfl, rfl, rfl, rfl, hpkg, hdie, rfl, rfl⟩
    · obtain ⟨n, v, heq, hslow, hstay⟩ := powerWindow_over hc.regs_rising ps h
      rw [hset] at heq
      exact ⟨_, exec_next rfl hwf heq, rfl, rfl, hpkg, rfl, rfl, hslow, hstay⟩
  · have hwf : (Instr.tempUpdate ts 0).wf = true := by
      simp only [Instr.wf, hlen, List.all_eq_true.mpr fun x hx => decide_eq_true (hsensors x hx), decide_true, Bool.and_self]
    refine ⟨fun h => ?_, fun h hp => ?_⟩
    · obtain ⟨-, ⟨x, _, _, _, _, _, heq⟩, hreads, -⟩ := diesSensed_reads ts (Nat.le_refl 5) hc
      rw [heq] at hreads
      refine ⟨_, exec_next rfl hwf ((tempUpdate_below hlen hc h).trans heq), rfl, rfl, fun k hk => ?_, rfl, rfl, rfl⟩
      obtain ⟨hmax, htemp⟩ := hreads k hk
      exact ⟨(congrArg BitVec.toNat hmax).trans (toNat_unsigned16 _),
        fun j hj => (congrArg BitVec.toNat (htemp j hj)).trans (toNat_unsigned16 _)⟩
    · obtain ⟨e, heq⟩ := tempUpdate_trips hlen hc h hp
      obtain ⟨hpower, hmain, hillum, htrig, hcmds, hmem⟩ := thermalTrip_low e
      exact ⟨_, exec_next rfl hwf heq, rfl, hpower, hmain, hillum, htrig, hcmds, hmem⟩

end Sys2Proof.Machine
end

section
/-! A dump into its buffer: the record stored, DUMP_WR advanced, the command's wait ended, and O56. -/

namespace Sys2Proof.Machine

/-! ## What the dump of an ended command makes (R543, R544) -/

/-- Without failing units a read of a range counts nothing (R253). -/
theorem countRange_none {d : Device} (h : d.merr.parity = []) (l n : Nat) : countRange l n d = d := by simp [countRange, failingUnits, h]

theorem dumpCount_none {d : Device} (h : d.merr.parity = []) (c : Cmd) (input : Bool) : dumpCount c input d = d :=
  foldl_eq_self fun _ _ => countRange_none h _ _

/-- The record of the output dump that a command makes now. -/
def dumpMade (d : Device) (c : Cmd) (w : Nat) : List Byte :=
  dumpRecord d { c with dumpTime := d.clk.time } w false (reported (partOf d c.part) c.done).status d.clk.time

/-- The output dump of a command that has ended, while the buffer has room for its record. -/
theorem dump_output {d : Device} {id w : Nat} {c : Cmd} (hc : cmdOf d id = some c) (hp : c.phase = .ended) (hin : c.dumpIn = [])
    (hout : c.dumpOut = [w]) (hat : c.dumpAt = 0) (hdest : fbit d (oWatchCtl w) fWatchCtlDest = false) (hpar : d.merr.parity = [])
    (hroom : dumpRoom d (dumpMade d c w).length = true) :
    dump id w d = dumpDone { c with dumpTime := d.clk.time } false w (dumpWrite (dumpMade d c w) d) := by
  have hnext : nextDump c = some (false, w) := by simp [nextDump, hp, hin, hout]
  rw [dumpMade] at hroom ⊢
  simp only [dump, hc, hnext, ne_eq, not_true, if_false, hat, if_true, hp, hdest, dumpCount_none hpar, Bool.false_eq_true]
  simp only [hp, hat] at hroom
  exact if_pos hroom

/-- The dump is over: the command waits for it no more, and ONESHOT may have disarmed its watch. -/
theorem dumpDone_output {c : Cmd} (w : Nat) (d : Device) (hat : c.dumpAt = 0) (hout : c.dumpOut = [w]) :
    Counted (setCmd { c with dumpOut := [] } d) (dumpDone c false w d) ∧
    RegsKept (· ≠ oWatchCtl w) (setCmd { c with dumpOut := [] } d) (dumpDone c false w d) := by
  have hcmd : { c with dumpAt := 0, dumpOut := c.dumpOut.drop 1 } = { c with dumpOut := [] } := by rw [hout, ← hat]; rfl
  have hdone : dumpDone c false w d =
      if fbit d (oWatchCtl w) fWatchCtlOneshot then fput (oWatchCtl w) fWatchCtlEn 0 (setCmd { c with dumpOut := [] } d)
      else setCmd { c with dumpOut := [] } d := by rw [← hcmd]; rfl
  rw [hdone]
  exact ⟨.ite (rput_counted _ _ (by unfold oWatchCtl; omega)) (.refl _), .ite (fput_regsKept _ _ _ (not_not_intro rfl)) (.refl _)⟩

/-! ## A record in the buffer (R544, R545) -/

/-- Counters of units leave the registers below theirs. -/
theorem perfOne_regsKept (u ev : Nat) (part : Option Nat) (k : Nat) (d : Device) : RegsKept (· < 0x8E000) d (perfOne u ev part k d) := by
  have hput {off : Nat} (w : Word) (d : Device) (h : 0x8E000 ≤ off) : RegsKept (· < 0x8E000) d (rput off w d) :=
    rput_regsKept w d (Nat.not_lt.mpr h)
  unfold perfOne perfUnit
  refine .foldl (fun d i => .ite (.trans ?_ (.ite (hput _ _ (by unfold oUnitCtl; omega)) (.refl _))) (.refl d)) _ d
  exact (hput _ d (by unfold oUnitCntHi; omega)).trans (hput _ _ (by unfold oUnitCnt; omega))

/-- Where the next record goes in the buffer, as an address and as an offset from its base. -/
def dumpOffset (d : Device) : Nat := (rget d oDumpWr).toNat % dumpSize d
def dumpAddr (d : Device) : Nat := (rget d oDumpBaseLo).toNat + 2 ^ 32 * fget d oDumpBaseHi fDumpBaseHiAddr + dumpOffset d

section
variable {d : Device} {bs : List Byte} (h1 : d.merr.poison = []) (h2 : d.merr.parity = [])
  (hwrap : dumpOffset d + bs.length ≤ dumpSize d) (hhbm : isHbm (dumpAddr d + bs.length - 1) = true)
include h1 h2 hwrap hhbm

/-- A record that does not wrap is one store in HBM. -/
theorem dumpWrite_stores :
    dumpWrite bs d = fwrap oDumpWr fDumpWrBytes bs.length (perfOne 16 0x21 none (units64 0 bs.length) (storeBytes (dumpAddr d) bs d)) := by
  have hfits : bs.length ≤ dumpSize d - dumpOffset d := by omega
  have hput : putHbm (dumpAddr d) bs d = storeBytes (dumpAddr d) bs d := (if_pos hhbm).trans (put_plain h1 h2 _ _)
  calc dumpWrite bs d
      = fwrap oDumpWr fDumpWrBytes bs.length (perfOne 16 0x21 none (units64 0 bs.length)
          (if bs.length ≤ dumpSize d - dumpOffset d then putHbm (dumpAddr d) (bs.take (dumpSize d - dumpOffset d)) d
           else putHbm (dumpAddr d - dumpOffset d) (bs.drop (dumpSize d - dumpOffset d))
             (putHbm (dumpAddr d) (bs.take (dumpSize d - dumpOffset d)) d))) := by
        rw [dumpAddr, Nat.add_sub_cancel]
        rfl
    _ = _ := by rw [if_pos hfits, List.take_of_length_le hfits, hput]

theorem dumpWrite_counted : Counted (storeBytes (dumpAddr d) bs d) (dumpWrite bs d) := by
  rw [dumpWrite_stores h1 h2 hwrap hhbm]
  exact (perfOne_counted _ _ _ _ _).trans (rput_counted _ _ (by decide))

/-- DUMP_WR advances by the record's length modulo 2^32. -/
theorem dumpWr_dumpWrite (hc : Canonical d) :
    (rget (dumpWrite bs d) oDumpWr).toNat = ((rget d oDumpWr).toNat + bs.length) % 2 ^ 32 := by
  have hold : rget (storeBytes (dumpAddr d) bs d) oDumpWr = rget d oDumpWr := by
    obtain ⟨m, hm⟩ := storeBytes_frame (dumpAddr d) bs d
    rw [hm]
    rfl
  have hrise := (perfOne_canonical 16 0x21 none (units64 0 bs.length) _ (storeBytes_canonical (dumpAddr d) bs d hc)).regs_rising
  rw [dumpWrite_stores h1 h2 hwrap hhbm, rget_fwrap_word (f := fDumpWrBytes) _ hrise rfl, perfOne_regsKept _ _ _ _ _ _ (by decide), hold,
    BitVec.toNat_add, BitVec.toNat_ofNat, Nat.add_mod_mod]

theorem dumpWrite_leaves : (dumpWrite bs d).cmds = d.cmds ∧ (dumpWrite bs d).out = d.out := by
  obtain ⟨m, hm⟩ := storeBytes_frame (dumpAddr d) bs d
  obtain ⟨⟨r, hr⟩, -⟩ := dumpWrite_counted h1 h2 hwrap hhbm
  rw [hr, hm]
  exact ⟨rfl, rfl⟩

/-- The record stands in the buffer, and no other byte of memory has changed. -/
theorem dumpWrite_bytes (hw : Memory.wf d) (hplain : PlainHbm d) :
    bytesAt (dumpWrite bs d) (dumpAddr d) bs.length = bs ∧
    ∀ k, mapped k = true → (k < dumpAddr d ∨ dumpAddr d + bs.length ≤ k) → byteAt (dumpWrite bs d) k = byteAt d k := by
  have hend : dumpAddr d + bs.length ≤ 0x6000000000 := by
    have : dumpAddr d + bs.length - 1 < 0x6000000000 := of_decide_eq_true hhbm
    omega
  have hapart : RangeApart d (dumpAddr d) bs.length := .inr ⟨hend, fun k hk => memKey_plain hplain hk⟩
  have hcounted := dumpWrite_counted h1 h2 hwrap hhbm
  refine ⟨(hcounted.bytesAt _ _).trans (hapart.bytesAt_storeBytes (Nat.le_refl _) (Nat.le_refl _) hw), fun k hk hout => ?_⟩
  rw [hcounted.byteAt, hapart.byteAt_storeBytes (Nat.le_refl _) (Nat.le_refl _) hw (mapped_cases hk), if_neg (by omega)]

end

/-- Settles O56: the record is one store in HBM, where no two addresses share a place; what follows are counters, DUMP_WR and the command's
own entry. -/
theorem dumpReachesBuffer : Obligations.DumpReachesBuffer := by
  unfold Obligations.DumpReachesBuffer
  intro s id w c hw hc hp hin hout hat hdest hcan hplain hpar hpoi c' bs o l hroom hwrap hhbm
  have hdump : dump id w s.dev = dumpDone c' false w (dumpWrite bs s.dev) := dump_output hc hp hin hout hat hdest hpar hroom
  clear_value bs
  obtain ⟨⟨⟨r, hdone⟩, hkeys⟩, hregs⟩ := dumpDone_output (c := c') w (dumpWrite bs s.dev) hat hout
  have hbyte := fun k => Counted.byteAt ⟨⟨r, hdone⟩, hkeys⟩ k
  obtain ⟨hbytes, hother⟩ := dumpWrite_bytes hpoi hpar hwrap hhbm hcan.1 hplain
  obtain ⟨hcmds, hsent⟩ := dumpWrite_leaves hpoi hpar hwrap hhbm
  have hid : c'.id = id := cmdOf_id (c := c) hc
  have hfound : cmdOf (dumpWrite bs s.dev) id = some c := by rw [cmdOf, hcmds, ← cmdOf, hc]
  refine ⟨_, exec_next rfl (decide_eq_true hw) hdump, rfl, ?_, ?_, ?_, ?_, fun k hk hne => ?_⟩
  · exact (List.map_congr_left fun k _ => hbyte (l + k)).trans hbytes
  · have hkept := hregs oDumpWr (by unfold oDumpWr oWatchCtl; omega)
    exact (congrArg BitVec.toNat hkept).trans (dumpWr_dumpWrite hpoi hpar hwrap hhbm hcan)
  · rw [hdone]
    subst hid
    exact cmdOf_setCmd_same (c := { c' with dumpOut := [] }) hfound
  · rw [hdone]
    exact hsent
  · exact (hbyte k).trans (hother k hk hne)

end Sys2Proof.Machine
end
